-- ==== Sys2Proof/Word.lean ====
section
/-! DEFINITION. The words the manual treats as bits and their plainest helpers: 32-bit registers, octets, and the bit and
field reading of a word. -/

namespace Sys2Proof

/-- A 32-bit register (R6). -/
abbrev Word := BitVec 32

/-- An octet of memory. -/
abbrev Byte := BitVec 8

/-- A word of a number, modulo 2^32. -/
abbrev w32 (n : Nat) : Word := BitVec.ofNat 32 n

/-- The field [hi:lo] of a word, as a number. -/
def wField (x : Word) (hi lo : Nat) : Nat := x.toNat / 2 ^ lo % 2 ^ (hi + 1 - lo)

/-- The word with its field [hi:lo] replaced by `v`, taken modulo the field's size. -/
def wSetField (x : Word) (hi lo v : Nat) : Word :=
  w32 (x.toNat / 2 ^ (hi + 1) * 2 ^ (hi + 1) + v % 2 ^ (hi + 1 - lo) * 2 ^ lo + x.toNat % 2 ^ lo)

/-- Bit `n` of a word. -/
def wBit (x : Word) (n : Nat) : Bool := x.getLsbD n

/-- A word with its four octets in the reverse order. -/
def wSwap (x : Word) : Word :=
  w32 (x.toNat % 0x100 * 0x1000000 + x.toNat / 0x100 % 0x100 * 0x10000
    + x.toNat / 0x10000 % 0x100 * 0x100 + x.toNat / 0x1000000)

/-- 1 of true, 0 of false: how the manual writes one-bit fields. -/
def b2n (b : Bool) : Nat := if b then 1 else 0

/-- The number that `bits` low bits of `n` stand for in two's complement. -/
def signed (bits n : Nat) : Int :=
  if n % 2 ^ bits < 2 ^ (bits - 1) then (n % 2 ^ bits : Nat) else (n % 2 ^ bits : Nat) - (2 ^ bits : Nat)

/-- The `bits`-bit two's complement form of an integer. -/
def unsigned (bits : Nat) (i : Int) : Nat := (i % (2 ^ bits : Nat)).toNat

/-- A counter that stops at `max` (the manual's "saturating"). -/
def satInc (max n : Nat) : Nat := if n < max then n + 1 else n

/-- The list with its element `n` changed by `f`; unchanged where there is none. -/
def modAt {α : Type} (l : List α) (n : Nat) (f : α → α) : List α := l.modify n f

/-- Element `n` of a list, or `d` where there is none. -/
def nth {α : Type} (l : List α) (n : Nat) (d : α) : α := l.getD n d

/-- The keyed list with the value of `k` replaced, or added at its front. -/
def alSet {κ ν : Type} [DecidableEq κ] (l : List (κ × ν)) (k : κ) (v : ν) : List (κ × ν) :=
  (k, v) :: l.filter (fun p => p.1 ≠ k)

/-- The value a keyed list holds for `k`. -/
def alGet {κ ν : Type} [DecidableEq κ] (l : List (κ × ν)) (k : κ) : Option ν :=
  (l.find? (fun p => p.1 = k)).map (·.2)

/-- The keyed list without the key `k`. -/
def alDel {κ ν : Type} [DecidableEq κ] (l : List (κ × ν)) (k : κ) : List (κ × ν) :=
  l.filter (fun p => p.1 ≠ k)

end Sys2Proof
end

