-- ==== Sys2Proof/Syntax.lean ====
section
/-! DEFINITION. The commands the block takes: one constructor of `Instr` for every row of spec/opcode_table.json, with the
row's operands, and the types of those operands. A command's operands are what the outside world brings: who makes an
access, the address and value, and what an event measured (a frame received, a duration, a level). -/

namespace Sys2Proof

/-- Who makes an access (Table 1-1). A core carries whether it is in machine mode (R22). -/
inductive Initiator where
  | coreA (machine : Bool)
  | coreB (machine : Bool)
  | dma (ch : Nat)
  | svc
  | host
  | debug
  deriving DecidableEq, Repr

/-- The width of an access (R6). -/
inductive Size where
  | byte
  | half
  | word
  deriving DecidableEq, Repr

/-- What an access does. -/
inductive Access where
  | read
  | write (v : Word)
  | fetch
  deriving DecidableEq, Repr

/-- What the ECC of the accessed word finds (R19, R332). -/
inductive Upset where
  | none
  | single
  | double
  deriving DecidableEq, Repr

/-- The two application cores. -/
inductive CoreId where
  | a
  | b
  deriving DecidableEq, Repr

/-- The two radios, which are also the two timelines. -/
inductive Tl where
  | a
  | b
  deriving DecidableEq, Repr

/-- The staged sets under R38 (wall clock, schedule, configuration, MET calibration, charger). -/
inductive SetId where
  | wall
  | schedule
  | config
  | metCal
  | charger
  deriving DecidableEq, Repr

/-- The command sets under R163. -/
inductive CsId where
  | nbr
  | vlt
  | pk (ctx : Nat)
  | lce
  | knd
  | upd
  | ashRd
  | ashClr
  deriving DecidableEq, Repr

/-- Why a frame on a port reaches no command (R407): its header check or its payload check fails, its LEN is out of range, or its CODE is
not defined for the port; or the octets of a stretch of the wire, in which the receiver looks for frames itself. -/
inductive FrameFault where
  | header
  | payload
  | oversize (seq code : Nat)
  | badCode (seq code : Nat) (pay : List Byte)
  | octets (l : List Byte)
  deriving DecidableEq, Repr

/-- How a flash step ended: verified (an erase: its last step), one of more erase steps, or a verify that failed. -/
inductive StepEnd where
  | ok
  | more
  | fail
  deriving DecidableEq, Repr

/-- What a radio measures around a frame start (R183): PA-adjacent and die sensors in 1/16 °C, VSYS and the VKEEP side in mV. -/
structure PaMeas where
  pa : Int
  die : Int
  vsys : Nat
  vkeep : Nat
  deriving DecidableEq, Repr

/-- What the metrology engine publishes every 200 ms, after calibration (R438): RMS values in mV and µA, active powers in mW, the line
frequency in 0.01 Hz, zero crossings seen, each channel's energy since the last publication in nWh, and a sample at full scale. -/
structure MetVals where
  vrms : Nat
  irms1 : Nat
  irms2 : Nat
  p1 : Int
  p2 : Int
  freq : Nat
  line : Bool
  e1 : Int
  e2 : Int
  full : Bool
  deriving DecidableEq, Repr

/-- How a serial transfer ended (R446). -/
inductive SeEnd where
  | ok
  | nack
  | arb
  deriving DecidableEq, Repr

/-- A pin that can carry TMRt_IO1 (Table 15-3): IO1, IO3, IO5 or IO7 under FUNC 2, or (`high`) IO17, IO19, IO21 or IO23 under FUNC 1. -/
structure TmrIo where
  t : Fin 4
  high : Bool
  deriving DecidableEq, Repr

/-- What the outside world fixes at a flue delivery: the 25 ns ticks since the start of the current slot of each timeline, and the counts of
the four timers. -/
structure FlueEnv where
  tickA : Nat
  tickB : Nat
  counts : List Nat
  deriving DecidableEq, Repr

/-- The two I/O banks (R464). -/
inductive IoBank where
  | a
  | b
  deriving DecidableEq, Repr

/-- What the damper's responders find at a request that their registers do not show (Table 9-2): the die temperature in 1/16 °C (R284), the µs to
Hearth's next wake instant (R290), a DALI frame being received, a host frame on the pins, a conversion of the ADC running, a serial
character, word or I²C byte in progress. -/
structure DamperEnv where
  temp : Int
  wake : Nat
  daliRx : Bool
  host : Bool
  conv : Bool
  char : Bool
  deriving DecidableEq, Repr

/-- The brown-outs of Table 10-1: the core rail, an I/O bank, the low-power regulator. -/
inductive BorSrc where
  | core
  | io (bank : IoBank)
  | lp
  deriving DecidableEq, Repr

/-- What a slot boundary finds outside the block's registers: the swap's or rollback's other conditions hold (R370); the other timeline's boundary
came within the last 10 µs (R78); the schedule set's GO came later than 200 µs before it (R114). -/
structure SlotEdge where
  ripe : Bool
  joint : Bool
  lateGo : Bool
  deriving DecidableEq, Repr

/-- What a listening interval heard (R187, R188): the level in dBm of each 128 µs part of the time drawn before TsCcaOffset, and for each part from
there on the level and whether an SHR of the mode was detected. -/
structure CcaLevels where
  pre : List Int
  parts : List (Int × Bool)
  deriving DecidableEq, Repr

/-- A frame's octets as far as they have come, and the µs to the radio's next armed action (R171), which counts where the frame ends here. -/
structure HeaderIn where
  octets : List Byte
  gap : Nat
  deriving DecidableEq, Repr

/-- What ends a life-cycle transition early (R259): power fails, or a reset of a cause and class comes, when `blown` bits of its step 2 have been blown. -/
inductive LcsCut where
  | power (blown : Nat)
  | reset (blown cause : Nat) (cold : Bool)
  deriving DecidableEq, Repr

/-- The bus access that a core's instruction makes, in machine mode or not. -/
structure CoreAccess where
  machine : Bool
  addr : Nat
  size : Size
  acc : Access
  deriving DecidableEq, Repr

/-- What the open debug port does to an application core (R263): halt, let run again, execute one instruction with the access it makes, reset. -/
inductive DebugOp where
  | halt (c : CoreId)
  | go (c : CoreId)
  | step (c : CoreId) (access : Option CoreAccess)
  | reset (c : CoreId)
  deriving DecidableEq, Repr

/-- What DEBUG_OPEN stands for: the command itself, by an initiator, and what the open port does to the cores, which has no row of its own. -/
inductive DebugReq where
  | openBy (who : Initiator)
  | core (o : DebugOp)
  deriving DecidableEq, Repr

/-- The step of a wake that fails (R295). -/
inductive WakeStep where
  | fastRc
  | buck
  deriving DecidableEq, Repr


/-- The commands, one constructor for each row of spec/opcode_table.json. -/
inductive Instr where
  /-- REGISTER_WRITE (R6). A write to a register that has no row of its own stores its writable fields under the access type of each field. -/
  | registerWrite (who : Initiator) (a : Nat) (sz : Size) (v : Word)
  /-- MEMORY_ACCESS (R19). A byte, halfword or word access to SRAM, ember memory, link RAM, flash or the windows, with alignment, owner and ECC handling. -/
  | memoryAccess (who : Initiator) (a : Nat) (sz : Size) (acc : Access) (u : Upset)
  /-- OWNERSHIP_WRITE (R24). A write of an _OWN or ownership register claims, hands over, releases or locks an assignable resource. -/
  | ownershipWrite (who : Initiator) (a : Nat) (v : Word)
  /-- CLEAR_ON_READ (R10). A read of an RC register returns its value and clears it, a simultaneous hardware set winning. -/
  | clearOnRead (who : Initiator) (a : Nat)
  /-- COUNTER_LOW_READ (R37). A read of the low word of a multi-word counter captures the high word for the reading initiator. -/
  | counterLowRead (who : Initiator) (a : Nat)
  /-- ACTIVE_SET_CAPTURE_READ (R43). A read of the lowest-addressed active register of a set captures the whole set for the reader. -/
  | activeSetCaptureRead (who : Initiator) (a : Nat)
  /-- INT_CLAIM (R30). A read of INT_CLAIM_A or INT_CLAIM_B returns the highest-priority pending line and hides it, clearing the doorbell for line 95. -/
  | intClaim (who : Initiator) (c : CoreId)
  /-- INT_DONE (R30). A write of INT_DONE_A or INT_DONE_B ends service of a claimed line and makes it visible to claims again. -/
  | intDone (who : Initiator) (c : CoreId) (v : Word)
  /-- INT_DOORBELL (R30). A write of INT_DOORBELL raises line 95 at core A or core B. -/
  | intDoorbell (who : Initiator) (v : Word)
  /-- INT_CFG_WRITE (R29). A write of INT_CFGn sets priority and the writer's own target bit where the source ownership permits. -/
  | intCfgWrite (who : Initiator) (n : Fin 96) (v : Word)
  /-- DMA_CLAIM (R31). A secure write of DMA_CHn_CFG claims, configures or releases a DMA channel. -/
  | dmaClaim (who : Initiator) (c : Fin 16) (v : Word)
  /-- DMA_START (R32). START starts a channel on its descriptor list; ignored while ACTIVE. -/
  | dmaStart (who : Initiator) (c : Fin 16)
  /-- DMA_STOP (R33). STOP ends the channel at the end of its current descriptor. -/
  | dmaStop (who : Initiator) (c : Fin 16)
  /-- DMA_ABORT (R33). ABORT stops the channel at the next beat with ERR ABORTED. -/
  | dmaAbort (who : Initiator) (c : Fin 16)
  /-- DMA_BEAT (R32). One transfer of a descriptor, paced by a peripheral request when PACED is 1. -/
  | dmaBeat (c : Fin 16) (u : Upset)
  /-- RTC_ALARM_LO_WRITE (R494). A write of RTC_ALARM_LO is held until the same initiator next writes RTC_ALARM_HI. -/
  | rtcAlarmLoWrite (who : Initiator) (v : Word)
  /-- RTC_ALARM_HI_WRITE (R494). A write of RTC_ALARM_HI applies the compare and enable and re-evaluates the match. -/
  | rtcAlarmHiWrite (who : Initiator) (v : Word)
  /-- RTC_ALARM_MATCH (R494). The ember timer reaches the enabled compare; RTC_EV_ALARM and a wake occur once and line 24 asserts. -/
  | rtcAlarmMatch
  /-- RTC_EV_SECOND (R279). Each second of the ember timer produces its flue event and drives the per-second checks. -/
  | rtcEvSecond
  /-- STAGED_WRITE (R39). A write to a staged register or COMMIT fields claims the set for the writer or is ignored with WERR. -/
  | stagedWrite (who : Initiator) (x : SetId) (k : Nat) (v : Word)
  /-- COMMIT_GO (R40). GO checks WHEN, PAST and VALUE in order and arms the set or rejects it. -/
  | commitGo (who : Initiator) (x : SetId) (v : Word)
  /-- COMMIT_CANCEL (R39). CANCEL from the holder returns the set to IDLE with REASON CANCELLED and ends the hold. -/
  | commitCancel (who : Initiator) (x : SetId)
  /-- STAGED_SET_APPLY (R41). An armed set is applied at one clock edge and enters DONE with the application ASN. -/
  | stagedSetApply (x : SetId)
  /-- SNAPSHOT_REQUEST (R46). A GO to HRT_SNAP_REQ makes the requester holder with STATE PENDING or counts a refusal. -/
  | snapshotRequest (who : Initiator) (v : Word)
  /-- SNAPSHOT_READY (R47). The copy completes; STATE becomes READY, the version increments and line 2 asserts. -/
  | snapshotReady
  /-- SNAPSHOT_RELEASE (R49). A write of HRT_SNAP_REL returns the snapshot STATE to IDLE. -/
  | snapshotRelease (who : Initiator)
  /-- SNAPSHOT_LEASE_EXPIRY (R49). One second after READY without release, STATE becomes EXPIRED and line 2 asserts. -/
  | snapshotLeaseExpiry
  /-- HEARTH_START (R54). On release Hearth runs its start sequence: salt, configuration check, keys, tables, then JOINING. -/
  | hearthStart
  /-- SEQUENCER_VOTE (R51). A sequencer copy that disagrees is rewritten from the majority and counted; three-way disagreement is a mismatch. -/
  | sequencerVote (threeWay : Bool)
  /-- SLOT_BOUNDARY (R90). A timeline's slot boundary advances the ASN and applies due sets, swaps, reservations and checkpoints. -/
  | slotBoundary (t : Tl) (e : SlotEdge) (gap : Nat)
  /-- SLOT_ARM (R80). The andiron pair arms the next slot's radio actions from the cell table during the current slot. -/
  | slotArm (t : Tl) (inTime cal : Bool)
  /-- LOCKSTEP_MISMATCH (R81). A lockstep mismatch halts both cores and starts recovery from the latest checkpoint. -/
  | lockstepMismatch
  /-- LOCKSTEP_RECOVERY (R81). Replay ends, the pair resumes, REC is set, line 4 asserts and LOCKSTEP_RECOVERY is recorded. -/
  | lockstepRecovery (crcOk : Bool) (us : Nat)
  /-- HEARTH_FATAL (R85). After the frame on air completes, the Hearth domain is reset, link RAM wiped and Hearth restarted. -/
  | hearthFatal
  /-- QUEUE_PROD_WRITE (R58). An owner write of HRT_Qn_PROD hands descriptors to Hearth or is refused with IERR. -/
  | queueProdWrite (who : Initiator) (q : Fin 32) (v : Word)
  /-- QUEUE_RECL_WRITE (R58). An owner write of HRT_Qn_RECL returns descriptors and buffers or is refused with IERR. -/
  | queueReclWrite (who : Initiator) (q : Fin 32) (v : Word)
  /-- QUEUE_FLUSH (R62). A write of HRT_Qn_FLUSH.GO requests a flush at the next boundary of the queue's timeline. -/
  | queueFlush (who : Initiator) (q : Fin 32)
  /-- BUFFER_ALLOC (R71). A read of HRT_BUF_ALLOC allocates a FREE buffer above RX_RESERVE or returns VALID 0. -/
  | bufferAlloc (who : Initiator)
  /-- BUFFER_RETURN (R71). A write of HRT_BUF_RET returns a held buffer to FREE. -/
  | bufferReturn (who : Initiator) (v : Word)
  /-- DESCRIPTOR_WRITE (R69). An owner write of a descriptor through the aperture stores fields or is forbidden, by its position and ST. -/
  | descriptorWrite (who : Initiator) (q : Fin 32) (k : Fin 64) (w : Fin 2) (v : Word)
  /-- IMMEDIATE_TRANSMIT (R89). An immediate queue sends its oldest QUEUED descriptor in the first long enough idle gap. -/
  | immediateTransmit (q : Fin 16) (ch mode : Nat)
  /-- IMMEDIATE_LOCK_TIMEOUT (R89). An immediate transmission that waits 500 µs for lock completes with RADIO_UNAVAILABLE. -/
  | immediateLockTimeout (t : Tl) (gap : Nat)
  /-- RETUNE_START (R101). The synthesiser begins retuning to the cell channel before the transmission. -/
  | retuneStart (t : Tl)
  /-- SYNTH_LOCK (R174). The synthesiser reports lock after its frequency error settles. -/
  | synthLock (t : Tl)
  /-- CCA_START (R187). A CCA or listen-before-talk interval begins on the cell channel. -/
  | ccaStart (t : Tl)
  /-- CCA_COMPLETE (R187). The CCA interval ends; a busy channel ends the attempt and is counted. -/
  | ccaComplete (t : Tl) (l : CcaLevels) (gap : Nat)
  /-- TX_START (R102). The first preamble symbol of a transmission leaves once the synthesiser is locked. -/
  | txStart (t : Tl) (sfd gap : Nat) (m : PaMeas)
  /-- TX_LOCK_TIMEOUT (R102). A synthesiser still unlocked 20 µs after TsTxOffset cancels the transmission. -/
  | txLockTimeout (t : Tl) (gap : Nat)
  /-- TX_END (R101). The last symbol of a transmission leaves and the radio goes to its next state. -/
  | txEnd (t : Tl) (gap : Nat)
  /-- TX_POWER_CORRECTION (R183). Every 2 ms of a long FSK or O-QPSK frame the PA code is corrected by at most 2 codes. -/
  | txPowerCorrection (t : Tl) (m : PaMeas)
  /-- ACK_WINDOW_CLOSE (R97). The acknowledgement window closes without a valid acknowledgement and the attempt counts as failed. -/
  | ackWindowClose (t : Tl) (gap : Nat)
  /-- ACK_TRANSMIT (R103). An Enhanced Acknowledgement with time correction and pending bit is sent after the accepted frame. -/
  | ackTransmit (t : Tl) (clash : Bool) (m : PaMeas)
  /-- RX_WINDOW_OPEN (R101). The receiver starts listening on the cell channel at the guard window opening. -/
  | rxWindowOpen (t : Tl)
  /-- RX_WINDOW_CLOSE (R101). Listening ends with no SFD detected and reserved units are freed. -/
  | rxWindowClose (t : Tl) (gap : Nat)
  /-- PREAMBLE_DETECTED (R200). An output's detector declares a preamble and a demodulator unit group may be assigned. -/
  | preambleDetected (t : Tl) (out : Fin 140) (phy : Nat) (level : Int) (us : Nat)
  /-- SFD_DETECTED (R73). Start of frame is found; a buffer is allocated and the unit group becomes LOCKED. -/
  | sfdDetected (t : Tl) (via : Option (Fin 140)) (phy tick : Nat) (rssi snr : Int)
  /-- SFD_TIMEOUT (R211). A group without SFD 2 ms after assignment is released. -/
  | sfdTimeout (t : Tl) (out : Fin 140)
  /-- MUTE_EXPIRY (R203). A muted output is unmuted after MUTE_TIME. -/
  | muteExpiry (t : Tl) (out : Fin 140)
  /-- PHR_RECEIVED (R213). The PHR is checked and a failing frame is discarded at header time. -/
  | phrReceived (t : Tl) (via : Option (Fin 140)) (len code : Nat) (modeSwitch fcs4 hcs : Bool) (gap : Nat)
  /-- FRAME_CONTROL_RECEIVED (R148). The frame control field is checked for version and type. -/
  | frameControlReceived (t : Tl) (via : Option (Fin 140)) (o : HeaderIn)
  /-- DESTINATION_RECEIVED (R149). The destination fields are filtered under the destination table. -/
  | destinationReceived (t : Tl) (via : Option (Fin 140)) (o : HeaderIn)
  /-- SOURCE_LOOKUP (R142). The source address is looked up in the neighbour indices and a BLOCKED source is discarded. -/
  | sourceLookup (t : Tl) (via : Option (Fin 140)) (o : HeaderIn)
  /-- AUX_HEADER_RECEIVED (R241). The auxiliary security header is received and the early-delivery conditions are judged. -/
  | auxHeaderReceived (t : Tl) (via : Option (Fin 140)) (o : HeaderIn)
  /-- EARLY_DELIVERY_POST (R242). Once 256 octets of plaintext exist, the descriptor is posted IN_FLIGHT with EARLY 1. -/
  | earlyDeliveryPost (t : Tl) (via : Option (Fin 140)) (octets : List Byte)
  /-- FRAME_END (R148). At frame end the FCS, replay, tag and duplicate checks run and the frame is acknowledged and posted. -/
  | frameEnd (t : Tl) (via : Option (Fin 140)) (octets : List Byte) (fcsOk : Bool) (gap : Nat)
  /-- MODEL_AGE_CHECK (R136). Every 60 s models older than 65,000 s are reset to UNSET. -/
  | modelAgeCheck
  /-- DIE_SAMPLE (R115). The die temperature is sampled, every 60 s in BANKED. -/
  | dieSample (temp : Int)
  /-- GATHER_LIST_CLOSE (R106). The receiver closes the list of verified lane frames for the gathered acknowledgement. -/
  | gatherListClose
  /-- GATHERED_ACK_TRANSMIT (R107). The gathered acknowledgement is sent on the base channel. -/
  | gatheredAckTransmit (m : PaMeas)
  /-- JOIN_COLLECT_EXPIRY (R110). After JOIN_COLLECT the best candidate is chosen and the timeline synchronises. -/
  | joinCollectExpiry (t : Tl)
  /-- JOIN_WINDOW_OPEN (R111). A keep-warm joining timeline opens its 1 s listening window on the next list channel. -/
  | joinWindowOpen (t : Tl)
  /-- JOIN_WINDOW_CLOSE (R111). A keep-warm joining window ends and the device returns to BANKED. -/
  | joinWindowClose (t : Tl)
  /-- SCHEDULE_CELL_EDIT (R112). A write of HRT_SCH_HI appends a cell edit to the staging list. -/
  | scheduleCellEdit (who : Initiator) (v : Word)
  /-- SCHEDULE_SF_EDIT (R112). A write of HRT_SCH_SF appends a slotframe edit to the staging list. -/
  | scheduleSfEdit (who : Initiator) (v : Word)
  /-- PENDING_FRAME_TRANSMIT (R123). The parent sends the oldest pending frame after an acknowledgement with pending 1. -/
  | pendingFrameTransmit (t : Tl) (clash : Bool) (sfd gap : Nat) (m : PaMeas)
  /-- OPEN_POLL_REPOLL (R125). A child repolls 50 ms after an unanswered open poll. -/
  | openPollRepoll (t : Tl)
  /-- VIN_DEBOUNCE_EXPIRY (R127). VIN stays good for VIN_DEBOUNCE and VIN_OK becomes 1. -/
  | vinDebounceExpiry
  /-- LEDGER_SECOND (R130). Each second the oldest ledger bucket leaves the one-hour window. -/
  | ledgerSecond
  /-- EXCL_HOLD_EXPIRY (R99). A channel leaves the exclusion list EXCL_HOLD after it entered and its statistics restart. -/
  | exclHoldExpiry (t : Tl) (ch : Nat)
  /-- EXCLUSION_VERSION_CREATE (R100). A pending exclusion change forms the next list version with its effective ASN. -/
  | exclusionVersionCreate (t : Tl)
  /-- NBR_ADD (R162). ADD creates an ADDED neighbour entry, setting its short address if given. -/
  | nbrAdd (who : Initiator) (v : Word)
  /-- NBR_REMOVE (R147). REMOVE removes a neighbour entry unless it is referenced. -/
  | nbrRemove (who : Initiator) (v : Word)
  /-- NBR_PIN (R162). PIN makes the entry PINNED. -/
  | nbrPin (who : Initiator) (v : Word)
  /-- NBR_UNPIN (R162). UNPIN makes the entry ADDED. -/
  | nbrUnpin (who : Initiator) (v : Word)
  /-- NBR_BLOCK (R162). BLOCK makes the entry of an address BLOCKED, creating it if absent. -/
  | nbrBlock (who : Initiator) (v : Word)
  /-- NBR_LOOKUP (R162). LOOKUP returns the entry index for an extended or short address. -/
  | nbrLookup (who : Initiator) (v : Word)
  /-- NBR_SET_SHORT (R145). SET_SHORT registers a short address for an entry or completes with SHORT_FULL. -/
  | nbrSetShort (who : Initiator) (v : Word)
  /-- NBR_ADD_CHILD (R158). ADD_CHILD creates a child entry for a neighbour entry. -/
  | nbrAddChild (who : Initiator) (v : Word)
  /-- NBR_DEL_CHILD (R158). DEL_CHILD removes a child entry. -/
  | nbrDelChild (who : Initiator) (v : Word)
  /-- COMMAND_SET_WRITE (R163). A write to a command set records its writer or is ignored with WERR. -/
  | commandSetWrite (who : Initiator) (x : CsId) (k : Nat) (v : Word)
  /-- COMMAND_RESULT_READ (R163). The writer's read of a DONE or ERROR result releases the command set. -/
  | commandResultRead (who : Initiator) (x : CsId)
  /-- COMMAND_SET_LAPSE (R163). A command set held 10 ms without GO returns to WRITER 0b111. -/
  | commandSetLapse (x : CsId)
  /-- NEIGHBOUR_AGE_CHECK (R147). Each second LEARNED entries silent for NBR_AGE are removed. -/
  | neighbourAgeCheck
  /-- CHILD_TIMEOUT_CHECK (R158). Each second child entries without a poll for TIMEOUT are removed. -/
  | childTimeoutCheck
  /-- INDEX_CAM_MOVE (R143). Hearth moves a CAM place into a freed bucket way within 1 ms. -/
  | indexCamMove
  /-- XO_START_TIMEOUT (R173). A crystal not ready 2 ms after start puts both radios in CLKFAIL. -/
  | xoStartTimeout
  /-- XO_RESTART (R173). The crystal is restarted every 1 s during CLKFAIL and recovery marks calibrations stale. -/
  | xoRestart (ok : Bool)
  /-- CALIBRATION_START (R177). A due calibration item starts in an idle gap. -/
  | calibrationStart (t : Tl) (item : Fin 5)
  /-- CALIBRATION_END (R179). A calibration item ends with a new result or a failure that is retried. -/
  | calibrationEnd (t : Tl) (ok : Bool) (temp : Int) (gap : Nat)
  /-- RADIO_TEST_WRITE (R192). A write of RFA_TEST or RFB_TEST enters or leaves test mode when permitted. -/
  | radioTestWrite (who : Initiator) (t : Tl) (v : Word)
  /-- FBL_LEAVE (R214). A radio leaves full-band listening for an action and releases every group. -/
  | fblLeave (t : Tl)
  /-- GAIN_STEP_DOWN (R218). The window gain steps down when the ADC input nears full scale. -/
  | gainStepDown (t : Tl)
  /-- GAIN_STEP_UP (R218). The window gain steps up after 100 µs of low power with no unit locked. -/
  | gainStepUp (t : Tl)
  /-- KEY_WORD_WRITE (R223). A write to a key load buffer word sets its bit in the written-word mask. -/
  | keyWordWrite (who : Initiator) (page slot w : Fin 8) (v : Word)
  /-- KEY_LOAD (R223). LOAD makes the load buffer the active key and computes its KCV, or reports INCOMPLETE. -/
  | keyLoad (who : Initiator) (page slot : Fin 8) (v : Word)
  /-- KEY_CLEAR (R223). CLEAR invalidates a key slot and zeroes its key and buffer. -/
  | keyClear (who : Initiator) (page slot : Fin 8) (v : Word)
  /-- KEY_PAGE_WIPE (R264). WIPE clears every slot and load buffer of a key page. -/
  | keyPageWipe (who : Initiator) (page : Fin 8)
  /-- RESERVATION_TIMEOUT (R240). A record not durable 1 s after the ceiling was reached sets FAILED and records CTR_RSV_FAIL. -/
  | reservationTimeout
  /-- RESERVATION_RETRY (R240). The reservation record program is retried every 10 s. -/
  | reservationRetry
  /-- LCE_JOB_CTR (R246). GO with OP CTR starts an AES-CTR job on LCE. -/
  | lceJobCtr (who : Initiator) (v : Word)
  /-- LCE_JOB_CBC_MAC (R246). GO with OP CBC-MAC starts a CBC-MAC job on LCE. -/
  | lceJobCbcMac (who : Initiator) (v : Word)
  /-- LCE_JOB_CMAC (R246). GO with OP CMAC starts a CMAC job on LCE. -/
  | lceJobCmac (who : Initiator) (v : Word)
  /-- LCE_JOB_END (R246). An LCE job ends with its code and MAC or next counter block. -/
  | lceJobEnd
  /-- VAULT_GEN (R248). GEN computes a check value under the purpose key. -/
  | vaultGen (who : Initiator) (v : Word)
  /-- VAULT_VERIFY (R248). VERIFY compares a check value in constant time. -/
  | vaultVerify (who : Initiator) (v : Word)
  /-- VAULT_UNWRAP (R248). UNWRAP loads a root-wrapped key into a permitted page and slot. -/
  | vaultUnwrap (who : Initiator) (v : Word)
  /-- VAULT_WRAP (R248). WRAP produces a root-wrapped blob naming the requester. -/
  | vaultWrap (who : Initiator) (v : Word)
  /-- VAULT_REWRAP (R248). REWRAP turns a transport blob into a root-wrapped blob. -/
  | vaultRewrap (who : Initiator) (v : Word)
  /-- VAULT_COMMAND_END (R250). A vault command ends with its code and output. -/
  | vaultCommandEnd
  /-- PK_JOB_GO (R251). GO starts an ECDSA P-256 verify job in a verify context. -/
  | pkJobGo (who : Initiator) (ctx : Fin 2) (v : Word)
  /-- PK_ABORT (R252). ABORT ends a verify job at the next step boundary with RESULT ABORTED. -/
  | pkAbort (who : Initiator) (ctx : Fin 2)
  /-- PK_STEP_END (R252). A verify engine step ends; the next step is chosen or the job ends with RESULT and line 14. -/
  | pkStepEnd
  /-- TRNG_OUTPUT (R254). The TRNG produces a conditioned output or discards a failed one. -/
  | trngOutput (ok : Bool)
  /-- TRNG_READ (R254). A read of VLT_TRNG_DATA returns and removes one random word. -/
  | trngRead (who : Initiator)
  /-- TRNG_RESTART (R254). A failed TRNG source is restarted every 1 s. -/
  | trngRestart
  /-- ALARM (R256). An alarm source erases every key within two always-on cycles and starts a cold reset. -/
  | alarm (bit : Nat) (hot : Bool)
  /-- SET_OWNER (R258). SET_OWNER blows the owner key hash in MFG. -/
  | setOwner (who : Initiator)
  /-- OPEN_FIELD (R259). OPEN_FIELD moves MFG to FIELD_OPEN through wipe, fuse and reset. -/
  | openField (who : Initiator) (cut : Option LcsCut)
  /-- SEAL (R259). SEAL with an owner token moves FIELD_OPEN to FIELD_SEALED. -/
  | seal (who : Initiator) (cut : Option LcsCut)
  /-- RETIRE (R259). RETIRE blows ROOT_KILL and the RET pair and resets. -/
  | retire (who : Initiator) (cut : Option LcsCut)
  /-- DEBUG_OPEN (R262). DEBUG_OPEN with a valid token opens the debug port until the next reset. -/
  | debugOpen (req : DebugReq)
  /-- NEW_CHALLENGE (R260). NEW_CHALLENGE draws a fresh LCS challenge. -/
  | newChallenge (who : Initiator)
  /-- CHALLENGE_EXPIRY (R260). A challenge expires 60 s after it was drawn. -/
  | challengeExpiry
  /-- FLUE_EVENT (R268). A producer event is delivered by each enabled channel to its tasks, with hop, watch and loop handling. -/
  | flueEvent (n : Nat) (env : FlueEnv)
  /-- FLUE_HELD_DELIVERY (R278). An event held through BANKED triggers its waiting tasks once their domains are released. -/
  | flueHeldDelivery (env : FlueEnv)
  /-- FLUE_CHANNEL_CONFIG (R271). A write of FLU_CHc_CFG claims or configures a channel, or is ignored with WERR. -/
  | flueChannelConfig (who : Initiator) (c : Fin 48) (v : Word)
  /-- FLUE_TASK_WRITE (R271). A write of FLU_CHc_TSK sets the channel's tasks while EN is 0. -/
  | flueTaskWrite (who : Initiator) (c : Fin 48) (v : Word)
  /-- CORE_WFI_DOZE (R282). WFI with MODE DOZE gates the core's clock until an enabled interrupt. -/
  | coreWfiDoze (c : CoreId)
  /-- CORE_JOIN (R283). WFI with MODE BANKED or CINDER joins an entry; the last join begins the attempt. -/
  | coreJoin (c : CoreId) (env : DamperEnv)
  /-- DAMPER_GRANT (R284). A holding responder grants when its condition ends. -/
  | damperGrant (code : Nat) (env : DamperEnv)
  /-- DAMPER_TIMEOUT (R284). A HOLD still in force 2,000 µs after the request abandons the entry. -/
  | damperTimeout
  /-- POWER_STATE_ENTERED (R287). The committed entry completes and BANKED or CINDER is entered. -/
  | powerStateEntered
  /-- BANKED_WAKE (R290). An enabled wake event starts the BANKED exit and restores the retained state. -/
  | bankedWake (sched : Bool)
  /-- CINDER_WAKE (R294). A wake from CINDER restarts the device through Kindling without a reset cause. -/
  | cinderWake
  /-- WAKE_FAILURE (R295). A fast RC or buck not ready in time fails the wake and schedules a retry. -/
  | wakeFailure (step : WakeStep)
  /-- WAKE_RETRY (R295). A failed wake is retried as a CINDER wake after 1 ms or 60 s. -/
  | wakeRetry
  /-- CLOCK_SELECT (R300). A write of CLK_SEL switches the core source or is refused with ERR. -/
  | clockSelect (who : Initiator) (v : Word)
  /-- PERF_LEVEL_CHANGE (R300). A write of CLK_PERF starts a VCORE level change or is refused. -/
  | perfLevelChange (who : Initiator) (v : Word)
  /-- PERF_LEVEL_DONE (R300). A level change completes and PERF_BUSY clears. -/
  | perfLevelDone
  /-- PLL_LOCK (R299). The PLL locks and the matrix runs at 128 MHz. -/
  | pllLock
  /-- PLL_LOCK_LOSS (R301). On PLL lock loss the cores and matrix move to the fast RC. -/
  | pllLockLoss
  /-- X32_FAIL (R301). With no 32.768 kHz edge for 4 ms the ember timer moves to the RC. -/
  | x32Fail
  /-- X32_RETRY (R301). The 32.768 kHz crystal is retried every 60 s. -/
  | x32Retry (ok : Bool)
  /-- POWER_ON_RESET (R311). The always-on supply rises through the POR threshold and the power-on sequence runs. -/
  | powerOnReset (vin vkeep vsys : Nat)
  /-- BROWN_OUT (R304). VCORE, an I/O bank or the low-power regulator browns out and a warm reset is taken. -/
  | brownOut (src : BorSrc)
  /-- RESET_PIN (R304). RESET_N low for 5 µs requests a deferred cold reset. -/
  | resetPin
  /-- WATCHDOG_EXPIRY (R324). A core watchdog reaches zero and requests a reset, or a rollback in probation. -/
  | watchdogExpiry (c : CoreId)
  /-- LOCKUP (R304). A core faults fetching its trap handler and requests a deferred warm reset. -/
  | lockup (c : CoreId)
  /-- SOFT_RESET (R304). A write of RST_SOFT with the key requests a warm or cold reset. -/
  | softReset (who : Initiator) (v : Word)
  /-- DEFERRED_RESET_TAKEN (R306). A deferred reset is taken when the flash step in progress ends. -/
  | deferredResetTaken (us : Nat)
  /-- KINDLING_SLOW_RETRY (R316). In SLOW, a Kindling run begins 100 ms after the previous one was cut off. -/
  | kindlingSlowRetry
  /-- KINDLING_DONE (R312). Kindling sets DONE and requests the release of Hearth and the cores. -/
  | kindlingDone (us : Nat)
  /-- BOOT_START (R351). The ROM boot code copies and checks the chosen unit and starts it or the Pilot service. -/
  | bootStart
  /-- WATCHDOG_KICK (R323). Writing the key to a watchdog KICK register reloads its counter. -/
  | watchdogKick (who : Initiator) (c : CoreId) (v : Word)
  /-- SECURE_PAGE_SET (R309). A write to RST_SECPG marks SRAM pages secure for warm-reset wiping. -/
  | securePageSet (who : Initiator) (n : Fin 3) (v : Word)
  /-- OPTION_WRITE (R318). GO of the option writer builds and programs a new option record in both sectors. -/
  | optionWrite (who : Initiator)
  /-- FLASH_PROGRAM (R340). A slot PROGRAM copies its source and queues a one-page program. -/
  | flashProgram (who : Initiator) (k : Fin 7)
  /-- FLASH_ERASE (R339). A slot ERASE queues a block erase in steps after a journal BEGIN line. -/
  | flashErase (who : Initiator) (k : Fin 7)
  /-- FLASH_QUERY (R339). QUERY returns a block's state, pointer and erase count. -/
  | flashQuery (who : Initiator) (k : Fin 7)
  /-- FLASH_CANCEL (R341). CANCEL ends a queued command or stops a running erase after its step. -/
  | flashCancel (who : Initiator) (k : Fin 7) (v : Word)
  /-- FLASH_STEP_END (R343). A flash step ends; its command progresses or completes and the next step is chosen. -/
  | flashStepEnd (e : StepEnd)
  /-- FLASH_PAUSE (R345). A write of FLC_PAUSE keeps normal steps off a bank. -/
  | flashPause (who : Initiator) (v : Word)
  /-- PAUSE_EXPIRY (R345). A pause request lapses 20 ms after it was set. -/
  | pauseExpiry (id : Nat) (bank : Fin 2)
  /-- UPD_BEGIN (R359). BEGIN erases the target and opens an image or configuration update. -/
  | updBegin (who : Initiator) (v : Word)
  /-- UPD_RESUME (R359). RESUME continues receiving after the programmed run of the target. -/
  | updResume (who : Initiator) (v : Word)
  /-- UPD_WRITE (R360). WRITE programs or compares stream pages from SRAM. -/
  | updWrite (who : Initiator) (v : Word)
  /-- UPD_END (R361). END checks the received image and sets VERIFIED. -/
  | updEnd (who : Initiator) (v : Word)
  /-- UPD_START (R363). START loads the verified image on the idle core as a shadow. -/
  | updStart (who : Initiator) (v : Word)
  /-- SHADOW_LOAD_DONE (R363). The copy passes its digest and the idle core is released in SHADOW. -/
  | shadowLoadDone
  /-- UPD_INSTALL (R375). INSTALL writes a selector naming the target and takes a warm SOFT reset. -/
  | updInstall (who : Initiator) (v : Word)
  /-- UPD_ABORT (R366). ABORT ends the update as a decline. -/
  | updAbort (who : Initiator) (v : Word)
  /-- UPD_COMMIT (R374). COMMIT ends probation and writes the selector record. -/
  | updCommit (who : Initiator) (v : Word)
  /-- UPD_ROLLBACK (R373). ROLLBACK holds the new core in reset and returns ownership to the old core. -/
  | updRollback (who : Initiator) (v : Word)
  /-- UPD_LOCK (R376). LOCK with an owner token sets or clears OWNER_LOCK in a new update-state record. -/
  | updLock (who : Initiator) (v : Word)
  /-- UPD_IDLE_TIMEOUT (R355). No command from the holder for UPD_IDLE ends the update with CODE TIMEOUT. -/
  | updIdleTimeout
  /-- HANDOVER_ASK (R365). The new core writes ASK and the state becomes EXPORT. -/
  | handoverAsk (who : Initiator)
  /-- HANDOVER_EXPORTED (R365). The old core writes EXPORTED and the state becomes IMPORT with the old generation frozen. -/
  | handoverExported (who : Initiator)
  /-- HANDOVER_ACCEPT (R370). The new core writes ACCEPT and the swap is scheduled. -/
  | handoverAccept (who : Initiator)
  /-- HANDOVER_DECLINE (R366). The new core writes DECLINE and the update is declined. -/
  | handoverDecline (who : Initiator)
  /-- HANDOVER_TIMEOUT (R366). T_EXPORT or T_IMPORT expires and the update is declined with TIMEOUT. -/
  | handoverTimeout
  /-- SWAP_BLOCKED (R370). A swap held back for 1 s is declined with CODE BLOCKED. -/
  | swapBlocked
  /-- PROBATION_EXPIRY (R374). PROB_TIME elapses and the commit runs. -/
  | probationExpiry
  /-- COMMIT_RETRY (R374). A commit waiting for supply or flash is retried every 60 s. -/
  | commitRetry
  /-- PILOT_STATUS (R384). A Pilot STATUS request returns the node's state. -/
  | pilotStatus
  /-- PILOT_LAMP (R436). A Pilot LAMP request sets the lamp level and relays. -/
  | pilotLamp
  /-- PILOT_REBOOT (R384). A Pilot REBOOT request resets the node after its response. -/
  | pilotReboot
  /-- PILOT_IMG_BEGIN (R384). A Pilot IMG_BEGIN request issues BEGIN or RESUME to UPD. -/
  | pilotImgBegin
  /-- PILOT_IMG_WRITE (R384). A Pilot IMG_WRITE request issues WRITE to UPD. -/
  | pilotImgWrite
  /-- PILOT_IMG_END (R384). A Pilot IMG_END request issues END to UPD. -/
  | pilotImgEnd
  /-- PILOT_IMG_INSTALL (R384). A Pilot IMG_INSTALL request issues INSTALL to UPD. -/
  | pilotImgInstall
  /-- PILOT_ASH_READ (R384). A Pilot ASH_READ request returns up to 40 records. -/
  | pilotAshRead
  /-- ASH_SOFTWARE_RECORD (R403). A write of ASH_WR_CODE enters a software record. -/
  | ashSoftwareRecord (who : Initiator) (v : Word)
  /-- ASH_FLUSH (R394). A flush of waiting records to the flash ring starts. -/
  | ashFlush (who : Initiator)
  /-- ASH_REBUILD (R400). Once flash is ready the ring is rebuilt and the RESET record is written. -/
  | ashRebuild
  /-- ASH_CLEAR (R401). A token-authorised clear writes a CLEAR record and erases the other ring blocks. -/
  | ashClear (who : Initiator)
  /-- ASH_READ_REQUEST (R402). A write of ASH_RD_SEQ requests a record by SEQ. -/
  | ashReadRequest (who : Initiator) (v : Word)
  /-- ASH_READ_DONE (R402). The read port reaches DONE with FOUND, GONE, NOT_YET or MISSING. -/
  | ashReadDone
  /-- PORT_FRAME_REJECT (R407). A port frame failing HCRC, length or PCRC is dropped or answered BAD_LEN and counted. -/
  | portFrameReject (svc : Bool) (e : FrameFault)
  /-- FRAME_CUT (R408). A UART gap, break or SPI chip-select rise drops a partial frame. -/
  | frameCut (svc : Bool)
  /-- HOST_PING (R414). PING returns part, Hearth and protocol identification. -/
  | hostPing (seq : Nat) (pay : List Byte)
  /-- HOST_SET_BAUD (R413). SET_BAUD changes the host UART rate after the response. -/
  | hostSetBaud (seq : Nat) (pay : List Byte)
  /-- HOST_RD32 (R414). RD32 reads words as HOST. -/
  | hostRd32 (seq : Nat) (pay : List Byte)
  /-- HOST_WR32 (R414). WR32 writes words as HOST. -/
  | hostWr32 (seq : Nat) (pay : List Byte)
  /-- HOST_RDMEM (R414). RDMEM reads octets as HOST. -/
  | hostRdmem (seq : Nat) (pay : List Byte)
  /-- HOST_WRMEM (R414). WRMEM writes octets as HOST. -/
  | hostWrmem (seq : Nat) (pay : List Byte)
  /-- HOST_RESET (R325). RESET requests a HOST_CMD reset after the response. -/
  | hostReset (seq : Nat) (pay : List Byte)
  /-- HOST_TX_FRAME (R415). TX_FRAME allocates a buffer, writes the frame and descriptor and advances PROD. -/
  | hostTxFrame (seq : Nat) (pay : List Byte)
  /-- HOST_RECLAIM (R415). RECLAIM writes HRT_Qn_RECL for a HOST queue. -/
  | hostReclaim (seq : Nat) (pay : List Byte)
  /-- HOST_GET_RX (R417). GET_RX sends an RX_FRAME notification for a posted descriptor. -/
  | hostGetRx (seq : Nat) (pay : List Byte)
  /-- HOST_KEYPAGE (R416). KEYPAGE claims or releases key page 6 or 7 for HOST. -/
  | hostKeypage (seq : Nat) (pay : List Byte)
  /-- HOST_KEY_LOAD (R416). KEY_LOAD loads a key into a slot of a HOST page and returns its KCV. -/
  | hostKeyLoad (seq : Nat) (pay : List Byte)
  /-- SVC_HELLO (R419). HELLO returns the identity and current challenge. -/
  | svcHello (seq : Nat) (pay : List Byte)
  /-- SVC_AUTH (R419). AUTH opens a PLAIN or MAC session. -/
  | svcAuth (seq : Nat) (pay : List Byte)
  /-- SVC_BYE (R421). BYE ends the session and wipes page 4. -/
  | svcBye (seq : Nat) (pay : List Byte)
  /-- SVC_SET_BAUD (R418). SET_BAUD raises the service port rate within the session. -/
  | svcSetBaud (seq : Nat) (pay : List Byte)
  /-- SVC_CHALLENGE (R422). CHALLENGE returns a new challenge. -/
  | svcChallenge (seq : Nat) (pay : List Byte)
  /-- SVC_RD32 (R422). RD32 reads words as SVC. -/
  | svcRd32 (seq : Nat) (pay : List Byte)
  /-- SVC_WR32 (R422). WR32 writes words as SVC. -/
  | svcWr32 (seq : Nat) (pay : List Byte)
  /-- SVC_RDMEM (R422). RDMEM reads octets as SVC. -/
  | svcRdmem (seq : Nat) (pay : List Byte)
  /-- SVC_WRMEM (R422). WRMEM writes octets as SVC. -/
  | svcWrmem (seq : Nat) (pay : List Byte)
  /-- SVC_STATUS (R422). STATUS returns the Pilot STATUS body. -/
  | svcStatus (seq : Nat) (pay : List Byte)
  /-- SVC_RESET (R325). RESET requests an SVC_CMD reset after the response. -/
  | svcReset (seq : Nat) (pay : List Byte)
  /-- SVC_IMG_BEGIN (R423). IMG_BEGIN issues BEGIN or RESUME to UPD with SVC as holder. -/
  | svcImgBegin (seq : Nat) (pay : List Byte)
  /-- SVC_IMG_WRITE (R423). IMG_WRITE issues WRITE to UPD. -/
  | svcImgWrite (seq : Nat) (pay : List Byte)
  /-- SVC_IMG_END (R423). IMG_END issues END to UPD. -/
  | svcImgEnd (seq : Nat) (pay : List Byte)
  /-- SVC_IMG_START (R423). IMG_START issues START to UPD. -/
  | svcImgStart (seq : Nat) (pay : List Byte)
  /-- SVC_IMG_INSTALL (R423). IMG_INSTALL issues INSTALL to UPD. -/
  | svcImgInstall (seq : Nat) (pay : List Byte)
  /-- SVC_IMG_COMMIT (R423). IMG_COMMIT issues COMMIT to UPD. -/
  | svcImgCommit (seq : Nat) (pay : List Byte)
  /-- SVC_IMG_ROLLBACK (R423). IMG_ROLLBACK issues ROLLBACK to UPD. -/
  | svcImgRollback (seq : Nat) (pay : List Byte)
  /-- SVC_IMG_ABORT (R423). IMG_ABORT issues ABORT to UPD. -/
  | svcImgAbort (seq : Nat) (pay : List Byte)
  /-- SVC_KEY_LOAD (R423). KEY_LOAD loads a key into page 4, decrypted under K_S in MAC mode. -/
  | svcKeyLoad (seq : Nat) (pay : List Byte)
  /-- SVC_CFG_COMMIT (R423). CFG_COMMIT stages and gives GO to the configuration set. -/
  | svcCfgCommit (seq : Nat) (pay : List Byte)
  /-- SVC_ASH_READ (R423). ASH_READ returns records through the read port. -/
  | svcAshRead (seq : Nat) (pay : List Byte)
  /-- SVC_ASH_CLEAR (R423). ASH_CLEAR performs the session clear of the Ash log. -/
  | svcAshClear (seq : Nat) (pay : List Byte)
  /-- SVC_LC (R423). LC gives a life-cycle command with its token. -/
  | svcLc (seq : Nat) (pay : List Byte)
  /-- SVC_OPTIONS (R423). OPTIONS gives an option write with its token. -/
  | svcOptions (seq : Nat) (pay : List Byte)
  /-- SVC_PILOT (R423). PILOT passes a request to the local Pilot service. -/
  | svcPilot (seq : Nat) (pay : List Byte)
  /-- SESSION_TIMEOUT (R421). A session ends after 120 s without a valid frame. -/
  | sessionTimeout
  /-- DALI_SEND (R428). SEND latches the forward frame and sends it under the DALI settling and priority rules. -/
  | daliSend (who : Initiator)
  /-- DALI_ABORT (R428). ABORT ends a send after the frame on the bus. -/
  | daliAbort (who : Initiator)
  /-- DALI_COLLISION (R429). A half-bit mismatch stops the transmitter, sends a break and schedules a retry. -/
  | daliCollision
  /-- DALI_SEND_END (R428). A send ends with a result code and DALI_TXDONE. -/
  | daliSendEnd (heard : Option (Option Nat))
  /-- DALI_FRAME_RECEIVED (R430). A received DALI frame is queued with an ember timestamp or dropped when full. -/
  | daliFrameReceived (ty data : Nat)
  /-- DALI_RX_POP (R430). RX_POP removes the oldest receive queue entry. -/
  | daliRxPop (who : Initiator)
  /-- DALI_BUS_DOWN (R430). The bus stays low for 45 ms and is reported down. -/
  | daliBusDown
  /-- DIM_APPLY (R431). APPLY latches the staged level and ramp and starts a ramp. -/
  | dimApply (who : Initiator) (v : Word)
  /-- DIM_RAMP_STEP (R431). Each 1 ms of a ramp moves the dimming level one step. -/
  | dimRampStep
  /-- DIM_FAULT (R432). DIM_SINK above 14 V turns the sink off and sets DIM_FAULT. -/
  | dimFault
  /-- RELAY_PULSE (R433). A pulse request switches a relay driver on for PULSE_MS or is refused. -/
  | relayPulse (who : Initiator) (r : Fin 2) (v : Word)
  /-- RELAY_SWITCH (R433). A write of A_ON or B_ON switches a static relay driver. -/
  | relaySwitch (who : Initiator) (v : Word)
  /-- RELAY_PULSE_END (R433). A relay pulse ends after PULSE_MS. -/
  | relayPulseEnd (r : Fin 2)
  /-- RELAY_FAULT (R435). Overcurrent or overtemperature turns a relay driver off and sets its fault. -/
  | relayFault (r : Fin 2)
  /-- MET_PUBLISH (R438). Every 200 ms the metrology values are published and energy quanta produced. -/
  | metPublish (m : MetVals)
  /-- MET_ZERO_CROSS (R438). A rising zero crossing of the voltage produces MET_EV_ZERO_CROSS. -/
  | metZeroCross
  /-- MET_SNAPSHOT (R439). SNAP copies both accumulators and the ember timer. -/
  | metSnapshot (who : Initiator)
  /-- MET_CLEAR_ENERGY (R439). CLR_E zeroes the energy accumulators. -/
  | metClearEnergy (who : Initiator)
  /-- ADC_SAMPLE (R441). SAMPLE starts a conversion sequence over ADC_CFG.SEQ. -/
  | adcSample (who : Initiator)
  /-- ADC_SEQUENCE_DONE (R441). A conversion sequence ends with DONE and ADC_EV_DONE. -/
  | adcSequenceDone (results : List Nat)
  /-- MOTION_EDGE (R443). A debounced MOT_IN edge is a motion report stored in the always-on domain. -/
  | motionEdge (rising : Bool)
  /-- MOTION_REPORT_WRITE (R443). A write of LUM_MOT_REPORT.REPORT is a motion report. -/
  | motionReportWrite (who : Initiator)
  /-- TMR_START (R444). START starts a stopped timer from 0. -/
  | tmrStart (who : Initiator) (t : Fin 4)
  /-- TMR_STOP (R444). STOP halts a timer. -/
  | tmrStop (who : Initiator) (t : Fin 4) (count : Nat)
  /-- TMR_CAPTURE (R444). CAPTURE copies the count to TMR_CAPt. -/
  | tmrCapture (who : Initiator) (t : Fin 4) (count : Nat)
  /-- TMR_CAPTURE_EDGE (R444). The configured edge on TMRt_IO1 captures the count. -/
  | tmrCaptureEdge (io : TmrIo) (count : Nat) (rising : Bool)
  /-- TMR_COMPARE (R444). The count reaches CMP0 or CMP1 and produces its event and pin action. -/
  | tmrCompare (t : Fin 4) (k : Fin 2)
  /-- TMR_OVERFLOW (R444). The count reaches TOP, produces TMR_EV_OVF and restarts or stops. -/
  | tmrOverflow (t : Fin 4)
  /-- SE_START (R446). START begins an SPI or I²C transfer, or releases the gated UART FIFO. -/
  | seStart (who : Initiator) (n : Fin 4)
  /-- SE_ABORT (R451). ABORT ends a serial engine transfer. -/
  | seAbort (who : Initiator) (n : Fin 4)
  /-- SE_FLUSH (R451). FLUSH empties the serial engine FIFOs. -/
  | seFlush (who : Initiator) (n : Fin 4)
  /-- SE_TRANSFER_END (R446). A transfer ends, or stops on NACK or arbitration loss, and produces SEn_EV_TXDONE. -/
  | seTransferEnd (n : Fin 4) (sent : Nat) (got : List Byte) (e : SeEnd)
  /-- SE_RX_OCTET (R445). A received octet enters the RX FIFO and may produce SEn_EV_RX. -/
  | seRxOctet (n : Fin 4) (o : Byte) (parity framing : Bool)
  /-- SE_TXD_WRITE (R451). A write of SEn_TXD queues an octet or is ignored when full. -/
  | seTxdWrite (who : Initiator) (n : Fin 4) (v : Word)
  /-- SE_RXD_READ (R451). A read of SEn_RXD returns and removes the oldest octet. -/
  | seRxdRead (who : Initiator) (n : Fin 4)
  /-- VIN_UNDERVOLTAGE (R455). VIN falls below 8.2 V and the lockout stops the high-voltage buck. -/
  | vinUndervoltage (mv : Nat)
  /-- VIN_RELEASE (R455). VIN rises above 8.7 V, the buck starts and SUP_EV_VIN_UP is produced. -/
  | vinRelease (mv : Nat)
  /-- POWER_FAIL_WARNING (R456). VIN below the threshold for 2 µs asserts the warning, drops VIN_OK and starts an urgent flush. -/
  | powerFailWarning (mv : Nat)
  /-- PFW_DEASSERT (R456). The power-fail warning deasserts on VIN recovery or 100 ms after lockout. -/
  | pfwDeassert (mv : Nat)
  /-- VSYS_LOW (R457). VSYS below 4.5 V cuts off an HP frame. -/
  | vsysLow (mv gap : Nat)
  /-- SUPPLY_SAMPLE (R458). SUP samples VKEEP and VIN and may set KEEP_LOW. -/
  | supplySample (vin vkeep vsys : Nat)
  /-- CHARGER_PRE_TIMEOUT (R460). VKEEP still below 2.0 V after 30 min of precharge puts the charger in FAULT. -/
  | chargerPreTimeout
  /-- CHARGER_TERMINATE (R460). With TERM 1, current below I_CC/10 for 60 s enters DONE. -/
  | chargerTerminate
  /-- IO_BANK_LOW (R464). An I/O bank with its BOR disabled falls below threshold and its pads go high-impedance. -/
  | ioBankLow (bank : IoBank)
  /-- PAD_CONFIG_WRITE (R481). A write of PAD_CFGn configures, claims or is refused for an IO pin. -/
  | padConfigWrite (who : Initiator) (n : Fin 64) (v : Word)
  /-- PAD_OUT_SET (R485). A write of PAD_OUTSETn sets output bits. -/
  | padOutSet (who : Initiator) (g : Fin 2) (v : Word)
  /-- PAD_OUT_CLEAR (R485). A write of PAD_OUTCLRn clears output bits. -/
  | padOutClear (who : Initiator) (g : Fin 2) (v : Word)
  /-- PAD_OUT_TOGGLE (R485). A write of PAD_OUTTGLn toggles output bits. -/
  | padOutToggle (who : Initiator) (g : Fin 2) (v : Word)
  /-- PAD_RELEASE_BANK (R298). PAD_RELEASE.BANK_A or BANK_B releases an IO group's holds to its register values. -/
  | padReleaseBank (who : Initiator) (g : Fin 2)
  /-- PAD_RELEASE_LAMP (R298). PAD_RELEASE.LAMP releases the relay and dimming holds to the LUM values. -/
  | padReleaseLamp (who : Initiator)
  /-- PAD_EDGE (R486). A selected edge on an IO pin sets its edge flag and produces PAD_EV_EDGE_n. -/
  | padEdge (n : Fin 64) (rising : Bool)
  /-- WAKE_PIN_EDGE (R486). A wake pin trigger sets PAD_WAKE_EDGE, produces PAD_EV_WAKE_n and can wake the device. -/
  | wakePinEdge (n : Fin 5) (trig : Nat)
  /-- POWER_LOSS (R333). VKS falls through the falling POR threshold with VKEEP and VSYS gone, cutting any program or erase in progress and leaving torn pages or SUSPECT blocks. -/
  | powerLoss
  /-- RESET_CONDITION_END (R306). The condition of a BOR, PIN or ALARM cause ends, and the reset of Table 10-4 runs from that instant with Kindling, Hearth release and core start. -/
  | resetConditionEnd (cause : Nat)
  /-- X32_READY (R34). The 32.768 kHz crystal starts after POR and the ember timer moves from the 32 kHz RC to it. -/
  | x32Ready
  /-- XO_READY (R173). The 40 MHz crystal started for the PLL or a radio becomes ready and XO_RDY is set. -/
  | xoReady
  /-- DALI_BUS_UP (R430). The externally powered DALI bus rises above the receive threshold again and LUM_STAT.BUS_UP returns to 1. -/
  | daliBusUp
  /-- VIO_RETURN (R464). A VIO bank whose BOR enable is 0 rises back above its brown-out threshold and its pads resume their configured or held state. -/
  | vioReturn (bank : IoBank)
  /-- CHARGER_VKEEP_LEVEL (R460). VKEEP crosses 2.0 V, reaches V_CV, or falls 100 mV below V_CV, moving the charger between PRE, CC, CV and DONE. -/
  | chargerVkeepLevel (mv : Nat)
  /-- NTC_WINDOW_CHANGE (R461). With NTC_EN 1 the ratio at WAKE3 leaves or re-enters the COLD and HOT window, pausing or resuming the charger and changing NTC_OK. -/
  | ntcWindowChange (ratio : Nat)
  /-- LOSS_OF_SIGNAL (R242). A frame being received is lost before its end; an early-delivered frame has its exposed area zeroed, completes ABORTED, and the host port sends ABANDON. -/
  | lossOfSignal (t : Tl) (via : Option (Fin 140)) (gap : Nat)
  /-- HOST_TRANSACTION_END (R412). HST_CS_N rises to end an SPI transaction; device frames fully clocked out are consumed and others are sent again, and HST_INT_N follows what is still pending. -/
  | hostTransactionEnd (n : Nat)
  deriving DecidableEq, Repr

end Sys2Proof
end

