-- ==== Sys2Proof/Config.lean ====
section
/-! DEFINITION. The free values: what the manual leaves open or leaves to the part, as constants without a body. A statement
about one holds for every value it could have. -/

namespace Sys2Proof

/-- A value nothing constrains, for each number drawn: contents the manual calls undefined, random draws (TRNG words, salts,
backoffs), and other open values. Log 3, DESIGN CHOICE. -/
opaque Config.freeWord : Nat → BitVec 32

/-- FREE VALUE (log 91): what a line that carries bits, or an open-drain line in a transfer, does on a pin at an instant, by the pin and the free
values drawn. -/
opaque Config.pinWave : Nat → Nat → BitVec 32

/-- The octets of the 256 KB ROM (Table 1-3), which the manual does not give. Log 4, DESIGN CHOICE. -/
opaque Config.romByte : Nat → BitVec 8

/-- What the array holds at an address of a block that is SUSPECT after its n-th erase began (R337). Log 5, DESIGN CHOICE. -/
opaque Config.suspectByte : Nat → Nat → BitVec 8

/-- What a torn page holds at an address, its block's erase count given (R333). Log 5, DESIGN CHOICE. -/
opaque Config.tornByte : Nat → Nat → BitVec 8

/-- OPT_VENDOR_OUI, programmed at the factory (R5, R313). Log 2, DESIGN CHOICE. -/
opaque Config.vendorOui : BitVec 24

/-- The factory words F0-F7 of an option record: F0 [23:0] is OPT_VENDOR_OUI, F1-F7 are reserved (R313). -/
def Config.factoryWords : List Word := [Config.vendorOui.setWidth 32, 0, 0, 0, 0, 0, 0, 0]

/-- The 256-bit device root key of the fuses (R5, R247), which no initiator can read. -/
opaque Config.rootKey : BitVec 256

/-- The 64-bit device identifier shown in LCS_UID (R267). Log 2, DESIGN CHOICE. -/
opaque Config.uid : BitVec 64

/-- STEP of LCS_PART_ID: the silicon stepping (R3). Log 2, DESIGN CHOICE. -/
opaque Config.step : BitVec 8

/-- CLK_FRC_TRIM: the fast RC trim of the trims in use (0 copy 0, 1 copy 1, 2 the defaults of R315). Log 2, DESIGN CHOICE. -/
opaque Config.frcTrim : Nat → BitVec 8

/-- The PA power table of the trims (R183): path (0 HP, 1 LP, 2 Radio B), frequency in kHz, power in 0.25 dB; a code in 1/16 dB. Log 6, DESIGN CHOICE. -/
opaque Config.paTable : Nat → Nat → Int → Int

/-- The lowest code of a path's table. -/
opaque Config.paMin : Nat → Int

/-- The highest code of a path's table. -/
opaque Config.paMax : Nat → Int

/-- The temperature coefficient kt of a path and frequency, in 0.001 dB/°C (R183). -/
opaque Config.paKt : Nat → Nat → Int

/-- The supply coefficient kv of a path, in 0.001 dB/V (R183). -/
opaque Config.paKv : Nat → Int

/-- Hearth's estimate of the chip's dissipation at an instant, in mW (R186): from the states of the radios, the power in 0.25 dB that each one
transmits, and CLK_SEL. The manual gives what it is formed from and not how. Log 82, DESIGN CHOICE. -/
opaque Config.dissipation : List Nat → List Int → Word → Nat

/-- The octets of the andiron pair's register files that the n-th checkpoint since Hearth's start copies (R78): what Hearth's code leaves in
them is not given. Log 80, DESIGN CHOICE. -/
opaque Config.pairOctet : Nat → Nat → BitVec 8

end Sys2Proof
end

