-- ==== Sys2Proof/Machine/State.lean ====
section
/-! DEFINITION. The state of the block: every register, buffer, counter, mode, queue and pin level the manual gives it, as plain
data, and the queue of waiting commands. Registers live in one sparse file at their addresses (RegMap.lean holds the register
tables); what no register holds is in one structure per block. -/

namespace Sys2Proof.Machine

/-- The two parts (R1, R3). -/
inductive Part where
  | dnl7240
  | dnl7210
  deriving DecidableEq, Repr

/-- What the bus answered to the last access of a command: the data, and the syndrome of Table 1-7 (0: none). The model's
own view of an output; no rule reads it. -/
structure BusView where
  data : Word
  fault : Nat
  deriving DecidableEq, Repr

/-- What a joined core asked for (R283). -/
inductive JoinMode where
  | banked
  | cinder
  deriving DecidableEq, Repr

/-- An application core, seen from the block (R282, R283, R362, R369, R381). -/
structure CoreSt where
  /-- started since the last reset -/
  started : Bool
  /-- held in reset -/
  held : Bool
  /-- clock gated by WFI (R282) -/
  gated : Bool
  /-- joined a damper entry (R283) -/
  joined : Option JoinMode
  /-- halted by the debug port (R283, R324) -/
  halted : Bool
  /-- runs the Pilot service, so its identity is PILOT (R21, R381) -/
  pilot : Bool
  /-- clock stopped by the ownership swap (R369) -/
  parked : Bool
  /-- the address of the first instruction of its last start -/
  entry : Nat
  deriving DecidableEq, Repr

/-- Lines that a claim hides, with the claiming core (R30). -/
structure IntSt where
  claimed : List (Nat × CoreId)
  deriving DecidableEq, Repr

/-- The working state of a DMA channel beyond its registers: the descriptor it runs (R32), a STOP or ABORT taken (R33),
and whether it waits between descriptors for a damper request to end. -/
structure DmaCh where
  src : Nat
  dst : Nat
  ctl : Word
  next : Nat
  stopReq : Bool
  waiting : Bool
  deriving DecidableEq, Repr

/-- Ember timer, wall clock and alarm (R34-R37, R494). `frac` is the wall clock's fractional accumulator in units of
10^-9/32768 ms; `second` is the last ember second whose per-second checks ran; `matched`: the alarm condition held when last
evaluated; `held`: RTC_ALARM_LO writes held per identity; `committed`: the wall clock was committed since POR (R389 CLK0). -/
structure RtcSt where
  ember : Nat
  wcMs : Nat
  wcEpoch : Nat
  frac : Nat
  second : Nat
  matched : Bool
  held : List (Nat × Word)
  committed : Bool
  deriving DecidableEq, Repr

/-- An event on its way to the flue: its code and hop count (R277). -/
structure FlueEv where
  code : Nat
  hop : Nat
  deriving DecidableEq, Repr

/-- An event held on a channel through BANKED, with the tasks still waiting (R278). -/
structure FlueHeld where
  ch : Nat
  hop : Nat
  tasks : List Nat
  deriving DecidableEq, Repr

/-- The flue beyond its registers: events produced and not yet delivered, the hop count each task stored (by task code, held
while the action its trigger started has not ended), held events, and the ember time of each channel's last FLUE_LOOP record. -/
structure FlueSt where
  events : List FlueEv
  hops : List (Nat × Nat)
  held : List FlueHeld
  loopAt : List (Nat × Nat)
  deriving DecidableEq, Repr

/-- An Ash record (Table 13-1); its CRC follows from the other fields. -/
structure AshRec where
  seq : Nat
  time : Nat
  epoch : Nat
  code : Nat
  src : Nat
  flags : Nat
  d0 : Word
  d1 : Word
  d2 : Word
  deriving DecidableEq, Repr

/-- A flush under way: how many records at the buffer's front remain to be programmed (R395), the size of the page in the
flash queue, and whether it is urgent. -/
structure AshFlush where
  urgent : Bool
  left : Nat
  page : Nat
  deriving DecidableEq, Repr

/-- A clear under way (R401): the requester's identity, whether the service session asked (no command set then), the
CLEAR record's SEQ, whether step 2 has completed, whether flash refused it (the session has yet to be told), and whether it waits for the rebuild. -/
structure AshClr where
  who : Nat
  viaSvc : Bool
  seq : Nat
  done : Bool
  failed : Bool
  waits : Bool
  deriving DecidableEq, Repr

/-- A record that waits for its entry: code, SRC, whether it is LATE (R389), and its data. -/
structure AshWait where
  code : Nat
  src : Nat
  late : Bool
  d0 : Word
  d1 : Word
  d2 : Word
  deriving DecidableEq, Repr

/-- The Ash engine beyond its registers. `buf`: waiting records, oldest first; `ctlOk`: the control area passes its check;
`ended`: SEQ 0xFFFF_FFFF was reached; `lostFull`/`lostRate`: losses since the last LOST record; `swRate`: per identity, the
ember second and the software records entered in it; `again`: a flush asked for while none can start, whether urgently, and the hop count of the flue trigger that asked;
`wrD`: the banked ASH_WR_Dn; `late`: device records of powered-down
blocks, and records of this start that wait for the rebuild; `readReq`: a read-port request waiting for its answer; `wiped`: ember memory was wiped for this start. -/
structure AshSt where
  next : Nat
  oldest : Nat
  buf : List AshRec
  ctlOk : Bool
  ended : Bool
  lostFull : Nat
  lostRate : Nat
  swRate : List (Nat × (Nat × Nat))
  wrD : List ((Nat × Nat) × Word)
  flush : Option AshFlush
  again : Option (Bool × Option Nat)
  clr : Option AshClr
  ready : Bool
  reclaim : Option Nat
  late : List AshWait
  readReq : Option Nat
  wiped : Bool
  deriving DecidableEq, Repr

/-- The device's power state (Table 9-1; DOZE is RUN with both cores gated), with the exits in progress. -/
inductive PowerState where
  | run
  | banked
  | cinder
  /-- a wake failed; a retry follows (R295) -/
  | failed
  deriving DecidableEq, Repr

/-- A damper attempt (R284): CINDER or BANKED, and the responders still holding, lowest code first. -/
structure EntrySt where
  cinder : Bool
  holding : List Nat
  committed : Bool
  deriving DecidableEq, Repr

/-- The pad-hold latches (R297): what each of IO0-IO63 drives (none: its output is off), its configuration with the pull, the relay drivers and the
DIM_SINK level. -/
structure PadHold where
  drive : List (Option Bool)
  cfg : List (Nat × Word)
  relayA : Bool
  relayB : Bool
  dim : Nat
  deriving DecidableEq, Repr

/-- The power controller beyond its registers. `wakePending`: wake events that came during an entry or while a
state is entered (R288, R290), as the PWR_WAKE_SRC bits to set; `wakeFailed`: the start in progress follows a wake failure (R295). -/
structure PwrSt where
  state : PowerState
  entry : Option EntrySt
  hold : PadHold
  wakePending : List Nat
  wakeFailed : Bool
  perfTarget : Nat
  x32Run : Bool
  deriving DecidableEq, Repr

/-- A reset cause of Table 10-1 by its code, with its class. -/
structure ResetReq where
  cause : Nat
  cold : Bool
  deriving DecidableEq, Repr

/-- An option record (Table 10-6): sequence number, factory words F0-F7, user words U0-U7. -/
structure OptRec where
  seq : Nat
  f : List Word
  u : List Word
  deriving DecidableEq, Repr

/-- What a Kindling run belongs to: a reset, or a wake from CINDER, which is none (R294). -/
inductive StartKind where
  | reset
  | cinder
  deriving DecidableEq, Repr

/-- The reset controller and Kindling beyond their registers. `deferred`: causes waiting for the flash step (R306); `waiting`: a step was found running;
`persist`: causes whose condition persists (R306); `running`: the start whose Kindling has not set DONE; `cold`: its class, and `causes`: those it has recorded (R305, R307);
`begun`: its Kindling run has begun; `cut`: the run before was cut off (R316); the window of the restart count, and whether a run waits out the slow retry
(R316); `released`: Hearth's release was requested; `opt`: the option record being written (R319). -/
structure RstSt where
  deferred : List ResetReq
  waiting : Bool
  persist : List Nat
  running : Option StartKind
  cold : Bool
  causes : List Nat
  begun : Bool
  cut : Bool
  windowAt : Nat
  windowOpen : Bool
  slowWait : Bool
  released : Bool
  opt : Option OptRec
  deriving DecidableEq, Repr

/-- Nothing asked for, nothing running. -/
def RstSt.init : RstSt := ⟨[], false, [], none, false, [], false, false, 0, false, false, false, none⟩

/-- A boot selector record (R349). -/
structure SelRec where
  seq : Nat
  unit : Nat
  gen : Nat
  deriving DecidableEq, Repr

/-- The kinds of journal line (R335); a torn or unreadable line counts as none. -/
inductive JrnKind where
  | torn
  | begin
  | done
  deriving DecidableEq, Repr

/-- A line of the block journal (R335). -/
structure JrnLine where
  block : Nat
  kind : JrnKind
  count : Nat
  deriving DecidableEq, Repr

/-- A journal sector: its SUMMARY (per block, suspect and erase count) where it passes its CRC, and the lines after it. -/
structure JrnSector where
  summary : Option (List (Bool × Nat))
  lines : List JrnLine
  deriving DecidableEq, Repr

/-- The flash information area (Table 11-2): which trim copies pass their CRC, the programmed pages of the option and selector
sectors (`none`: a page that holds no valid record), and the block journal. -/
structure InfoArea where
  trim0 : Bool
  trim1 : Bool
  opt0 : List (Option OptRec)
  opt1 : List (Option OptRec)
  sel0 : List (Option SelRec)
  sel1 : List (Option SelRec)
  jrn0 : JrnSector
  jrn1 : JrnSector
  jrnCur : Nat
  deriving DecidableEq, Repr

/-- A block of the main array (R331, R334, R338): write pointer, erase count, an erase begun and not completed, worn. -/
structure BlockSt where
  ptr : Nat
  count : Nat
  suspect : Bool
  worn : Bool
  deriving DecidableEq, Repr

/-- What a flash command does. Information-area commands carry their sector (0 or 1) and record. -/
inductive FlashOp where
  | program (addr : Nat) (data : List Byte)
  | erase (block : Nat)
  | optErase (sector : Nat)
  | optProgram (sector : Nat) (r : OptRec)
  | selErase (sector : Nat)
  | selProgram (sector : Nat) (r : SelRec)
  deriving DecidableEq, Repr

/-- A flash command in the queue: its requester (the codes of FLC_STAT [23:20]), urgency, and a tag of the requester's own;
`steps`: steps done; `begun`: its BEGIN line is programmed (R335); `cancel`: it stops at the end of its step (R341); `rolled`: the other journal
sector has been erased for the line it must write; `verified`: its erase has been verified and its END line is still to be written (R335). -/
structure FlashCmd where
  req : Nat
  op : FlashOp
  urgent : Bool
  tag : Nat
  steps : Nat
  begun : Bool
  cancel : Bool
  rolled : Bool
  verified : Bool
  deriving DecidableEq, Repr

/-- The kinds of step the controller runs (R335, R342): of the journal an erase of the other sector, its SUMMARY, a BEGIN or an END line; of a
command an erase step or a program. -/
inductive StepKind where
  | jrnErase
  | jrnSum
  | jrnBegin
  | eraseStep
  | jrnEnd
  | program
  deriving DecidableEq, Repr

/-- A step that runs: its command and kind. -/
structure FlashStep where
  cmd : FlashCmd
  kind : StepKind
  deriving DecidableEq, Repr

/-- The flash controller beyond its registers: block table, torn pages (page numbers of the whole array), the queue (oldest
first), the running and the suspended step, the requester last served in the round robin, ended commands whose requester
has not been told, pauses per identity (bank 0, bank 1), whether the rebuild has set READY, and the blocks of the frozen settings
generation (R368). -/
structure FlcSt where
  blocks : List BlockSt
  torn : List Nat
  queue : List FlashCmd
  running : Option FlashStep
  suspended : Option FlashStep
  last : Nat
  ended : List (FlashCmd × Nat)
  pause : List (Nat × (Bool × Bool))
  ready : Bool
  frozen : List Nat
  deriving DecidableEq, Repr

/-- A key slot beyond its registers (R223): the load buffer's words, the active key's octets (none: not VALID), and the key
identifier mode the configuration image gives a page 0 slot (R229). -/
structure KeySlot where
  buf : List Word
  active : List Byte
  mode : Nat
  deriving DecidableEq, Repr

/-- A running vault command with all it latched at GO (R226, R248). -/
structure VaultJob where
  op : Nat
  purpose : Nat
  page : Nat
  slot : Nat
  inAddr : Nat
  len : Nat
  outAddr : Nat
  who : Nat
  sec : Bool
  key : List Byte
  deriving DecidableEq, Repr

/-- A running LCE job with all it latched at GO (R226, R246). -/
structure LceJob where
  op : Nat
  page : Nat
  slot : Nat
  src : Nat
  dst : Nat
  len : Nat
  iv : List Byte
  who : Nat
  sec : Bool
  key : List Byte
  deriving DecidableEq, Repr

/-- A verify context's unfinished job (R251, R252), with the octets of its message that hashing steps have taken. -/
structure PkJob where
  arg : Nat
  hashMsg : Bool
  who : Nat
  sec : Bool
  abortReq : Bool
  msg : List Byte
  deriving DecidableEq, Repr

/-- The vault beyond its registers: key slots by (page, slot), the running command, the verify contexts' jobs and the context whose
step runs or ran last, whether a step runs, the TRNG's words ready to read and its failures in a row. -/
structure VaultSt where
  keys : List ((Nat × Nat) × KeySlot)
  job : Option VaultJob
  lce : Option LceJob
  pk : List (Option PkJob)
  pkLast : Nat
  pkStep : Bool
  words : List Word
  fails : Nat
  stopped : Bool
  deriving DecidableEq, Repr

/-- The fuses (R257, R258): bits blown of the FO, DBG_KILL and RET pairs, ROOT_KILL, and the owner key hash once blown. -/
structure FuseSt where
  fo : Nat
  dbg : Nat
  ret : Nat
  rootKill : Bool
  ownerHash : Option (List Word)
  deriving DecidableEq, Repr

/-- Page 0's counters beyond LCE's registers (R233-R240): slots that reached 0xFFFF_0000, slots whose 0xF000_0000 warning was given, the
record being written (its ceilings) and whether its program is in the flash queue, slots that ask for a further record, slots in
the failed state, and since when a counter has stood at its ceiling (ember timer). -/
structure RsvSt where
  exh : List Nat
  warned : List Nat
  writing : Option (List Nat)
  queued : Bool
  wants : List Nat
  failed : List Nat
  stuckAt : List (Nat × Nat)
  deriving DecidableEq, Repr

/-- What the update engine does once no flash step runs in the bank it reads (R342): an operation of UPD_CMD, a WRITE's comparison and first page,
the freeze at EXPORTED, the erase of a dropped settings generation, the record of LOCK, the erase that follows it, the check value of the
configuration set. -/
inductive UpdWait where
  | op (who op kind : Nat) | write | exported | drop | lock | ahead | arm
  deriving DecidableEq, Repr

/-- The update engine beyond its registers (R354-R378). `who`: the identity that gave the running operation; `keep`: WRITER does not lapse
(R355); `erase`: blocks BEGIN has still to erase; `wrOff`, `wrEnd`: the stream range a WRITE has still to program, its source following
`wrSrc`; `pages`: pages END has still to program into a configuration copy; `verifyWait`: END waits for a verify context; `lock`: the OWNER_LOCK
value being recorded; `arming`: the configuration set's check value is being programmed; `install`: the SELECT in progress belongs to
INSTALL; `oldCore`: the core of the old image; `cause`: what started a
rollback; `motionAt`: the ember timer at the last motion report; `data`: the octets a port or the Pilot service gave with its WRITE, in place of
memory; `ctx`: the verify context that END's check holds (R361); `held`: what waits for a flash step to end (R342); `due`: a boundary at which
the swap's or rollback's time had come fell in a recovery (R370). -/
structure UpdSt where
  who : Nat
  keep : Bool
  erase : List Nat
  wrOff : Nat
  wrEnd : Nat
  wrSrc : Nat
  pages : List (List Byte)
  verifyWait : Bool
  lock : Option Bool
  arming : Bool
  install : Bool
  oldCore : CoreId
  cause : Nat
  motionAt : Option Nat
  data : List Byte
  ctx : Option Nat
  held : List UpdWait
  due : Bool
  deriving DecidableEq, Repr

/-- The update engine at reset. -/
def UpdSt.init : UpdSt := ⟨7, false, [], 0, 0, 0, [], false, none, false, false, .a, 0, none, [], none, [], false⟩

/-! ### The configuration in use (Table 12-12) -/

/-- A timeslot template (Table 3-1), in µs. -/
structure Tmpl where
  id : Nat
  len : Nat
  ccaOff : Nat
  cca : Nat
  txOff : Nat
  txAck : Nat
  rxAck : Nat
  ackWait : Nat
  gather : Nat
  guardMax : Nat
  deriving DecidableEq, Repr

/-- A mode entry of a band plan (R167, R181). -/
structure ModeEntry where
  code : Nat
  pre : Nat
  dw : Bool
  maxPsdu : Nat
  stoked : Int
  keep : Int
  deriving DecidableEq, Repr

/-- A band plan. -/
structure Band where
  ch0 : Nat
  spacing : Nat
  hopId : Nat
  full : Bool
  hop : List Nat
  modes : List ModeEntry
  beaconMode : Nat
  pollMode : Nat
  calPer : Nat
  deriving DecidableEq, Repr

/-- Full-band listening settings (Table 6-1). -/
structure FblCfg where
  en : Bool
  margin : Nat
  muteRun : Nat
  muteTime : Nat
  winCtr : Nat
  winW : Nat
  det : List Nat
  outEn : Option (List Bool)
  deriving DecidableEq, Repr

/-- The RADIO section's settings. -/
structure RadioCfg where
  ccaMode : Nat
  edThr : Int
  lbtThr : Int
  lbtRand : Nat
  joinRssi : Int
  joinCollect : Nat
  deriving DecidableEq, Repr

/-- The LINK section's settings. Key slots are `none` where the image names none. -/
structure LinkCfg where
  period : Nat
  bcnKey : Option Nat
  bcnLevel : Nat
  openPoll : Bool
  gather : Bool
  gatherKey : Option Nat
  exclThr : Nat
  exclHold : Nat
  exclLead : Nat
  minBe : Nat
  maxBe : Nat
  deriving DecidableEq, Repr

/-- All the image sets for one timeline; cells as (table index, 64-bit entry). -/
structure TlCfg where
  tmpl : Tmpl
  band : Band
  fbl : FblCfg
  radio : RadioCfg
  link : LinkCfg
  sfs : List Nat
  cells : List (Nat × Nat)
  deriving DecidableEq, Repr

/-- A ledger sub-band (R130): kHz, LBT or DUTY, limit in ms per hour (0 none), reserve in 0.01 %. -/
structure SubBand where
  lo : Nat
  hi : Nat
  lbt : Bool
  limit : Nat
  reserve : Nat
  deriving DecidableEq, Repr

/-- A DATA class rule. -/
structure RxRule where
  value : Nat
  mask : Nat
  kind : Nat
  lo : Nat
  hi : Nat
  deriving DecidableEq, Repr

/-- An ADDRESSES record. -/
structure AddrRec where
  kind : Nat
  tl : Nat
  ext : Nat
  short : Nat
  deriving DecidableEq, Repr

/-- A KEYS record's target and key identifier mode. -/
structure KeyRec where
  target : Nat
  mode : Nat
  deriving DecidableEq, Repr

/-- A FLUE preset. -/
structure FluePreset where
  ch : Nat
  event : Nat
  tasks : List Nat
  lock : Bool
  wake : Bool
  deriving DecidableEq, Repr

/-- The UPDATE section's settings. -/
structure UpdCfg where
  motionWin : Nat
  vkeepMin : Nat
  updIdle : Nat
  downgrade : Bool
  pilotDisp : Nat
  mbox : Nat
  tExport : Nat
  tImport : Nat
  probTime : Nat
  deriving DecidableEq, Repr

/-- The configuration in use: the header's numbers and every section of Table 12-12. `tls`: timelines A and B, where present. -/
structure HCfg where
  copy : Nat
  seq : Nat
  version : Nat
  bodyLen : Nat
  pan : Nat
  short : Nat
  root : Bool
  fcs : Nat
  rxReserve : Nat
  vinDeb : Nat
  thetaJa : Nat
  compEn : Bool
  rssiOff : Int
  k : Nat
  hpsel : Nat
  tls : List (Option TlCfg)
  ledger : List SubBand
  expect : List (Nat × List Nat)
  queues : List Nat
  rxq : List Nat
  rules : List RxRule
  admMode : Nat
  rssiA : Int
  rssiB : Int
  admRate : Nat
  nbrAge : Nat
  childAuto : Bool
  dupMode : Bool
  childTimeout : Nat
  addrs : List AddrRec
  keys : List KeyRec
  minLevel : List Nat
  implicitKeys : List Nat
  lampSafe : Word
  flue : List FluePreset
  upd : UpdCfg
  deriving DecidableEq, Repr

/-- What holds while no configuration is loaded: no timeline, and the defaults the chapters give. -/
def HCfg.empty : HCfg where
  copy := 0
  seq := 0
  version := 0
  bodyLen := 0
  pan := 0xFFFF
  short := 0xFFFE
  root := false
  fcs := 2
  rxReserve := 0
  vinDeb := 20
  thetaJa := 0
  compEn := false
  rssiOff := 0
  k := 3400
  hpsel := 0xFF
  tls := [Option.none, Option.none]
  ledger := []
  expect := []
  queues := List.replicate 32 0x07000000
  rxq := List.replicate 12 0xFF
  rules := []
  admMode := 1
  rssiA := -100
  rssiB := -90
  admRate := 8
  nbrAge := 120
  childAuto := true
  dupMode := false
  childTimeout := 1440
  addrs := []
  keys := []
  minLevel := [0, 0, 0, 0]
  implicitKeys := List.replicate 8 0xFF
  lampSafe := 0
  flue := []
  upd := ⟨10, 3000, 30, false, 0xF5, 0x2016FF00, 20, 60, 86400⟩

/-! ### Frames and actions -/

/-- What a radio transmits: a cell's descriptor, an immediate queue's, a beacon, a keep-alive, an acknowledgement, a gathered
acknowledgement, a pending frame after an acknowledgement (R123), an empty poll: an open one (R119, R125), or `slot`, one in a POLL cell of the
parent (R123, R125). -/
inductive TxKind where
  | desc (q i : Nat)
  | imm (q i : Nat)
  | beacon
  | keepAlive
  | ack
  | gack
  | pend (q i : Nat)
  | poll (slot : Bool)
  deriving DecidableEq, Repr

/-- How far a transmission is. -/
inductive TxPhase where
  | tuning
  | ready
  | cca
  | onAir
  | ackWait
  deriving DecidableEq, Repr

/-- A radio's transmit action: the frame (PSDU without FCS), who it is for, and the power it uses (R181, R183). `clear`: the listening that it needs
first has found the channel idle (R187, R188); `lbtR`: the time in µs drawn for its listen-before-talk check (R188). -/
structure TxAct where
  kind : TxKind
  phase : TxPhase
  ch : Nat
  mode : Nat
  psdu : List Byte
  nbr : Option Nat
  ackReq : Bool
  seq : Option Nat
  level : Nat
  key : Nat
  hp : Bool
  power : Int
  code : Int
  clear : Bool
  lbtR : Nat
  deriving DecidableEq, Repr

/-- An acknowledgement that is due after a frame (R103, R124), with the pending bit and the time correction it carries and where it goes. -/
structure AckDue where
  ch : Nat
  mode : Nat
  psdu : List Byte
  nbr : Option Nat
  pend : Bool
  openPoll : Bool
  viaFbl : Bool
  corr : Int
  deriving DecidableEq, Repr

/-- The data window that follows an acknowledgement with pending 1 which this node has received (R123, R124): its channel and mode, whether the
acknowledgement answered an open poll, and when it ended: its slot, and the end in 25 ns ticks after that slot's start. -/
structure DataDue where
  ch : Nat
  mode : Nat
  opn : Bool
  asn : Nat
  ackEnd : Int
  deriving DecidableEq, Repr

/-- How far a received frame is in the order of Table 4-5. -/
inductive RxStage where
  | sfd
  | phr
  | fc
  | dest
  | source
  | aux
  deriving DecidableEq, Repr

/-- A frame being received: on an output of full-band listening, or (`out` none) on the single-channel path. `early`: the
descriptor it was posted at before its tag (R242); `earlyOk`: its auxiliary header met R241; `key`: the slot and the key it took at its first
block (R226); `grp`: the lowest unit of its group (R204); `expect`: the SFD tick expected of a pending frame after an acknowledgement. -/
structure RxFrame where
  out : Option Nat
  stage : RxStage
  buf : Nat
  ch : Nat
  phy : Nat
  units : Nat
  rsv : Bool
  tick : Nat
  ember : Nat
  asn : Nat
  rssi : Int
  lqi : Nat
  len : Nat
  nbr : Option Nat
  octets : List Byte
  early : Option (Nat × Nat)
  earlyOk : Bool
  key : Option (Nat × List Byte)
  grp : Nat
  expect : Option Int
  deriving DecidableEq, Repr

/-- A calibration item's run in progress, with the state the radio returns to. -/
structure CalRun where
  item : Nat
  back : Nat
  deriving DecidableEq, Repr

/-- A radio beyond its registers. `rx`: frames being received; `ackDue`: the acknowledgements to send, in the order of their frames (R215);
`lastAck`: an acknowledgement with pending 1 that has just been sent; `dataDue`: the data window that follows an acknowledgement with pending 1
which this node has received; `mute`: per output, failed
assignments in a row; `assigned`: per output, the last assignment's class, level and time in µs (R202); `padisAt`: the ember second and one of the
last record of a sensor disagreement; `calFailAt`: per item, the ember second of its last record; `winOpen`: a receive window of a cell is open;
`patCh`: the channel of an open window of R111's pattern; `ramp`: the power amplifier ramps down, and on the HP path or not (R169, R182). -/
structure RadioSt where
  act : Option TxAct
  rx : List RxFrame
  ackDue : List AckDue
  lastAck : Option AckDue
  dataDue : Option DataDue
  mute : List (Nat × Nat)
  assigned : List (Nat × (Nat × (Int × Nat)))
  cal : Option CalRun
  padisAt : Nat
  calFailAt : List (Nat × Nat)
  winOpen : Bool
  patCh : Option Nat
  ramp : Option Bool
  deriving DecidableEq, Repr

/-- A slot's arm record (R80): complete in time or not; the entry of the cell it runs; for a timekeeping cell, the neighbour whose outcome is still open; the descriptor it sends, the channel (or the lanes'
channels), and what else the slot does: a beacon, a keep-alive, an exchange skipped under R119, a calibration in its place (R178), or listening for
the time source's beacon (R119). `guard`: the guard window in µs of a cell that receives (R118); `others`: the neighbours of other timekeeping cells of
the slot, which do not run (R121); `poll`: the parent that an empty poll goes to (R123, R125). -/
structure Arm where
  done : Bool
  cell : Option Nat
  tk : Option Nat
  desc : Option (Nat × Nat)
  ch : Nat
  lanes : List Nat
  beacon : Bool
  ka : Bool
  skip : Bool
  cal : Bool
  listen : Bool
  guard : Nat
  others : List Nat
  poll : Option Nat
  deriving DecidableEq, Repr

/-- A join candidate (R110). -/
structure Cand where
  nbr : Nat
  metric : Nat
  rssi : Int
  asn : Nat
  ember : Nat
  deriving DecidableEq, Repr

/-- An ADV cell of the time source (R496). -/
structure AdvCell where
  sf : Nat
  len : Nat
  slot : Nat
  choff : Nat
  deriving DecidableEq, Repr

/-- An entry of a gathered acknowledgement (Table 3-7). -/
structure GatherEntry where
  lane : Nat
  short : Nat
  seq : Nat
  pend : Bool
  corr : Int
  nbr : Option Nat
  deriving DecidableEq, Repr

/-- A timeline beyond its registers: the armed slot and the running one; the slots a running span still covers; the ember count of the last
beacon; the exclusion list the node wants (channel, ember minute of entry), the list in force, the next list with its effective ASN, and
the ASN before which no further version is made; the last 256 outcomes of each channel; join candidates; the list position of
the joining windows; failed resynchronisation attempts with the ember count at which the running one began; the step its clock takes at the next
boundary, and the sum of the steps it has taken; a time source chosen and not yet switched to; consecutive beacons of a lower join metric; the second
and number of entries learned; unanswered open polls, and the parent that the next POLL cell polls; the ember second up to which `embAcc` counts the
seconds that the ember timer has timed the slot clock (R136); the gathered entries, and whether the list is closed. -/
structure TlSt where
  arm : Option Arm
  cur : Option Arm
  span : Nat
  lastBcn : Option Nat
  exclWant : List (Nat × Nat)
  excl : List Nat
  exclNext : Option (List Nat × Nat)
  exclFree : Option Nat
  stats : List (Nat × List Bool)
  cands : List Cand
  joinPos : Nat
  resync : Option (Nat × Nat)
  step : Int
  clock : Int
  newTs : Option (Option Nat)
  lowJm : List (Nat × Nat)
  learned : Nat × Nat
  openMiss : Nat
  pollNext : Option Nat
  profAt : Nat
  embAcc : Nat
  gath : List GatherEntry
  gclosed : Bool
  deriving DecidableEq, Repr

/-- What Hearth holds of a descriptor beyond its two words: attempts made, busy CCAs, LATE cells in a row and in all, the frame
counter taken for it (R232), the shared cells its backoff still waits out with its exponent (R97); the buffer and the TAG as they were when it was
enqueued or posted, since Hearth does not read a COMPLETE descriptor again (R69); and whether its buffer's metadata tells of a transmission of
it (R75). -/
structure DescSt where
  tries : Nat
  busy : Nat
  late : Nat
  lates : Nat
  ctr : Option Nat
  wait : Nat
  be : Nat
  buf : Option Nat
  tag : Nat
  sent : Bool
  deriving DecidableEq, Repr

/-- Nothing held of a descriptor. -/
def DescSt.init : DescSt := ⟨0, 0, 0, 0, none, 0, 0, none, 0, false⟩

/-- The events of the receive journal (R79). -/
inductive JrnEv where
  | accepted
  | txOutcome
  | ackSent
  | beacon
  | late
  | skipped
  deriving DecidableEq, Repr

/-- A record of the receive journal (R79): the event with its timeline and ASN, the source's neighbour entry where it has one, of a received
frame its source address (addressing mode and number), the time offset or
correction in µs, RSSI and LQI. Its layout in 16 octets is not given. -/
structure JrnRec where
  ev : JrnEv
  tl : Tl
  asn : Nat
  src : Option Nat
  addr : Nat × Nat
  off : Int
  rssi : Int
  lqi : Nat
  deriving DecidableEq, Repr

/-- A checkpoint copy (R78): its number since Hearth's start, the boundary's timeline and ASN, the scratch RAM's octets that are not zero, and the
CRC-32 that seals it. The pair's register files of checkpoint `no` are the free values `Config.pairOctet no`. -/
structure Ckpt where
  no : Nat
  tl : Tl
  asn : Nat
  scratch : List Host.Cell
  crc : Nat
  deriving DecidableEq, Repr

/-- An edit of the staging list (R112). -/
inductive SchEdit where
  | cell (idx entry : Nat)
  | sf (tl sf len : Nat)
  deriving DecidableEq, Repr

/-- Work of the andiron pair that an event brings (R79): done at once, or from the journal after a recovery. -/
inductive PairEv where
  /-- an observation of a neighbour's clock: offset in µs, saturated -/
  | observe (nbr : Nat) (off : Int) (sat : Bool)
  /-- an enhanced beacon's link state and synchronisation content; `ember`, the ember count at its SFD -/
  | beacon (tl : Tl) (nbr : Nat) (octets : List Byte) (rssi : Int) (ember : Nat)
  /-- an unknown source's beacon -/
  | stranger (tl : Tl) (ext : Nat) (secured : Bool) (octets : List Byte) (rssi : Int) (ember : Nat)
  /-- three misses in a row of timekeeping exchanges with a neighbour (R122) -/
  | lost (nbr : Nat)
  /-- a frame of a neighbour has been accepted: the mark LOST_SYNC clears (R122) -/
  | heard (nbr : Nat)
  /-- a Data Request of a neighbour has been accepted (R158) -/
  | dataReq (nbr : Nat)
  /-- an attempt to resynchronise has failed (R119) -/
  | resyncFail (tl : Tl)
  /-- the time source has answered an open poll (R119) -/
  | resyncOk (tl : Tl) (nbr : Nat)
  /-- an open poll to a neighbour has not been answered (R125) -/
  | pollFail (tl : Tl) (nbr : Option Nat)
  /-- an exchange was skipped because its guard fails: the node resynchronises (R119) -/
  | guardFail (tl : Tl)
  /-- a boundary has started the slotframe at which a timeline's profile is set (R129) -/
  | profile (tl : Tl)
  /-- VIN_OK has changed: timelines that run no boundaries follow it (R129) -/
  | vinOk
  /-- JOIN_COLLECT has passed (R110) -/
  | collect (tl : Tl)
  /-- entries are to be checked for their age (R147) -/
  | nbrAges
  /-- child entries are to be checked for their timeout (R158) -/
  | childAges
  /-- models are to be checked for their age (R136) -/
  | modelAges
  deriving DecidableEq, Repr

/-- Hearth beyond its registers. `bufHolder`: who holds each of the 64 frame buffers: an identity, or 7 where it is FREE (R71). `fwd`: the
Pilot frames held for forwarding (R383), oldest first, each the number of its descriptor among the four Hearth keeps in the pair's scratch RAM
as a queue numbered 32. `journal`: the receive journal (R79), oldest first; `ckpts`: the two checkpoint copies, and `ckpt`: how many checkpoints
have been taken since Hearth's start (R78). Per neighbour: `dies`, the
lowest and the highest die sample since its last observation (R115); `advs`, the ADV cells of its latest Slotframe and Link IE (R496); `tq`, the time quality it
advertised (R109); `embAt`, how many seconds the ember timer had timed the slot clock at its last observation (R136); `oldKeys`, the link key slots it
has moved on from (R150). `rewrite`: the cell-table entries that a commit has still to write (R114); `schGo`: GO of the schedule set came since the last
boundary of its timeline (R114); `pest`: the dissipation in mW at each of the last ten seconds, the latest first (R186). -/
structure HearthSt where
  bufHolder : List Nat
  cfg : HCfg
  tls : List TlSt
  radios : List RadioSt
  desc : List ((Nat × Nat) × DescSt)
  counters : List (Nat × Word)
  salt : Nat
  extIdx : List (Nat × Nat)
  shortIdx : List (Nat × Nat)
  fresh : Nat
  freed : List Nat
  kids : List (Nat × Nat)
  heard : List (Nat × Nat)
  dies : List (Nat × (Int × Int))
  die : Int
  edits : List SchEdit
  flush : List Nat
  drop : List (Nat × Nat)
  ledger : List (List (Nat × Nat))
  journal : List JrnRec
  deferred : List PairEv
  ckpt : Nat
  ckpts : List (Option Ckpt)
  ckptAsn : List (Nat × Nat)
  lastTl : Tl
  saved : Nat
  mismatchAt : Option Nat
  fatal : Bool
  debounce : Bool
  snapFrozen : Bool
  snapTl : Tl
  nfSec : Nat
  nbrJob : Option Word
  seqNo : Nat
  rssiSeen : List Nat
  fwd : List Nat
  advs : List (Nat × List AdvCell)
  tq : List (Nat × Nat)
  embAt : List (Nat × Nat)
  oldKeys : List (Nat × Nat)
  rewrite : List (Nat × Nat)
  schGo : Bool
  pest : List Nat
  deriving DecidableEq, Repr

/-- A radio at reset. -/
def RadioSt.init : RadioSt := ⟨none, [], [], none, none, [], [], none, 0, [], false, none, none⟩

/-- A timeline at reset. -/
def TlSt.init : TlSt := ⟨none, none, 0, none, [], [], none, none, [], [], 0, none, 0, 0, none, [], (0, 0), 0, none, 0, 0, [], false⟩

/-- Hearth at reset. -/
def HearthSt.init : HearthSt where
  bufHolder := List.replicate 2 0 ++ List.replicate 62 7
  cfg := HCfg.empty
  tls := [TlSt.init, TlSt.init]
  radios := [RadioSt.init, RadioSt.init]
  desc := []
  counters := []
  salt := 0
  extIdx := []
  shortIdx := []
  fresh := 0
  freed := []
  kids := []
  heard := []
  dies := []
  die := 400
  edits := []
  flush := []
  drop := []
  ledger := []
  journal := []
  deferred := []
  ckpt := 0
  ckpts := [Option.none, Option.none]
  ckptAsn := [(0, 0), (0, 0)]
  lastTl := .a
  saved := 0
  mismatchAt := none
  fatal := false
  debounce := false
  snapFrozen := false
  snapTl := .a
  nfSec := 0
  nbrJob := none
  seqNo := 0
  rssiSeen := []
  fwd := []
  advs := []
  tq := []
  embAt := []
  oldKeys := []
  rewrite := []
  schGo := false
  pest := []

/-- A frame the device sends on a port: a response (`note` false) or a notification, with its SEQ, CODE and payload (R409, Table 14-5). -/
structure PortFrame where
  note : Bool
  seq : Nat
  code : Nat
  body : List Byte
  deriving DecidableEq, Repr

/-- What a port's command waits for before its response: the update engine, the option writer, the Ash clear, the configuration set, or
the read port's next record with the records left and what they gave so far (R423); for a request of the Pilot service that came by the
service port (`pil`), its TYPE. -/
inductive WaitOn where
  | upd
  | knd
  | clr
  | cfg
  | ash (next left : Nat) (got : List Byte)
  | pilUpd (ty : Nat)
  | pilAsh (next left : Nat) (got : List Byte)
  deriving DecidableEq, Repr

/-- A port's framing: the last command's SEQ and CODE with its cached response (R409), the command whose response is still to come, and the
device frames waiting to be sent, oldest first; the octets received since the SOF of a frame that is coming in, the octets still to be skipped,
and whether the rest of the SPI transaction is ignored (R407); and the class of a reset that follows the response still to be sent (R325). -/
structure PortSt where
  last : Option (Nat × Nat)
  cache : Option PortFrame
  wait : Option (Nat × (Nat × WaitOn))
  out : List PortFrame
  rx : List Byte
  skip : Nat
  deaf : Bool
  reset : Option Bool
  deriving DecidableEq, Repr

/-- The service port beyond its registers: its framing, the frame counters of a MAC session in both directions, tag failures in a row,
the ember second of the last valid frame, and the challenge the session drew (R420, R421). -/
structure SvcSt where
  port : PortSt
  rxCtr : Nat
  txCtr : Nat
  tagFails : Nat
  lastAt : Nat
  drew : List Byte
  deriving DecidableEq, Repr

/-- A Pilot request being served: origin, transaction, TYPE, the MAC header it came with, and what its response waits for (R384). -/
structure PilotReq where
  origin : Nat
  txn : Nat
  ty : Nat
  hdr : List Byte
  on : WaitOn
  deriving DecidableEq, Repr

/-- The Pilot service beyond ember memory: the request being served, messages dropped for a wrong tag or form, which it counts, and a reset
that follows a response: its class, and the descriptor of TXQ15 that carries the response once it is queued (R384). -/
structure PilotSt where
  wait : Option PilotReq
  drops : Nat
  reset : Option (Bool × Option Nat)
  deriving DecidableEq, Repr

/-- The host port beyond its registers: its framing, and the HRT_EVT and HRT_STAT last told in an EVENT notification. -/
structure HstSt where
  port : PortSt
  told : Word × Word
  deriving DecidableEq, Repr

/-- A port with nothing received or to send. -/
def PortSt.init : PortSt := ⟨none, none, none, [], [], 0, false, none⟩
/-- The host port at reset. -/
def HstSt.init : HstSt := ⟨PortSt.init, (0, 0)⟩
/-- The service port at reset. -/
def SvcSt.init : SvcSt := ⟨PortSt.init, 0, 0, 0, 0, []⟩

/-- A received DALI frame (R430): its type (0 16-bit, 1 24-bit, 2 backward, 3 framing error), data, and the ember timer at its end. -/
structure DaliRx where
  ty : Nat
  data : Nat
  stamp : Word
  deriving DecidableEq, Repr

/-- What a DALI send puts on the bus (R426, R428): a forward frame of 16 or 24 bits, the priority whose settling time comes before it, and how many
times it is still to be sent. -/
structure DaliTx where
  bits : Nat
  data : Nat
  prio : Nat
  left : Nat
  deriving DecidableEq, Repr

/-- The DALI interface beyond its registers: the forward word the running send latched, what it sends, the attempts it has lost to collisions, an
ABORT it has taken, and the receive queue, oldest first (R428-R430). -/
structure DaliSt where
  fwd : Word
  tx : Option DaliTx
  tries : Nat
  abort : Bool
  rx : List DaliRx
  deriving DecidableEq, Repr

/-- The dimming ramp: from `l0` to `target` in `steps` steps of which `k` are done (R431); `off`: a DIM_FAULT turned the sink off and no
APPLY has followed its clearing (R432). -/
structure DimSt where
  l0 : Nat
  target : Nat
  k : Nat
  steps : Nat
  off : Bool
  deriving DecidableEq, Repr

/-- A serial engine's FIFOs, oldest octet first, and of the running transfer the octets still to be sent or clocked and those still to be
received after them (R445, R446). -/
structure SeSt where
  tx : List Byte
  rx : List Byte
  left : Nat
  want : Nat
  deriving DecidableEq, Repr

/-- The PER blocks beyond their registers. `metQ`: channel 1's import in mWh since the last energy quantum; `frac`: the accumulators'
fractions in nWh (R438); `adcLeft`: channels the running sequence has still to convert; `adcSeen`: channels that gave a result since EN
(R441, R442); `adcReq`: results whose DMA request 9 has not been served; `tmrOut`: the level the compares give TMRt_IO0; `tmrPre`: edges on TMRt_IO1 that
the prescaler has taken since the count last rose (R444). -/
structure PerSt where
  dali : DaliSt
  dim : DimSt
  metQ : Nat
  frac : Int × Int
  adcLeft : List Nat
  adcSeen : List Nat
  adcReq : Nat
  tmrOut : List Bool
  tmrPre : List Nat
  se : List SeSt
  deriving DecidableEq, Repr

/-- The PER blocks at reset. -/
def PerSt.init : PerSt := ⟨⟨0, none, 0, false, []⟩, ⟨0, 0, 0, 0, false⟩, 0, (0, 0), [], [], 0, List.replicate 4 false, List.replicate 4 0, List.replicate 4 ⟨[], [], 0, 0⟩⟩

/-- The supplies and pins as the outside world sets them, and what SUP derives beyond its registers. Levels are in mV. `vinPresent`: VIN is
above the undervoltage lockout; `vin`, `vkeep`, `vsys`: the supplies; `hot`: the die holds the charger paused (R460); `chgAt`: the ember
second at which the charger's state began; `pins`: the level the board drives on an IO pin, by pin; `ntc`: the
ratio at WAKE3 last reported, in 1/256, 0 until one is (R461); `lost`: the always-on domain has no supply, or has it again and the power-on reset has not run. -/
structure SupSt where
  vinPresent : Bool
  vin : Nat
  vkeep : Nat
  vsys : Nat
  hot : Bool
  chgAt : Nat
  pins : List (Nat × Bool)
  ntc : Nat
  lost : Bool
  deriving DecidableEq, Repr

/-- Why the machine would stop with a fault. Every command of the table has an effect in the manual, so nothing raises one;
the constructor keeps the type closed and inhabited. -/
inductive Fault where
  /-- Raised by nothing (safe): no rule of the manual stops the part. -/
  | none
  deriving DecidableEq, Repr

/-- Why a command has no meaning here. -/
inductive Refusal where
  /-- Raised by exec for a command whose meaning is not written yet (safe). -/
  | notModelled (mnemonic : String)
  deriving DecidableEq, Repr

/-- The state of the block. -/
structure State where
  /-- which part this is (R1-R3) -/
  part : Part
  /-- the register file: every register that does not hold its reset value, by address (R6-R9) -/
  regs : List (Nat × Word)
  /-- memory: every octet that does not read as an unlisted one does (Table 1-3), by address -/
  mem : List Host.Cell
  /-- the aligned words that hold an uncorrectable error (R19) -/
  eccBad : List Nat
  /-- the bus's answer to the last access (the model's own view) -/
  bus : BusView
  /-- captured register values per (identity, register address) (R37, R43) -/
  caps : List ((Nat × Nat) × Word)
  /-- the model's own counter: how many free values have been drawn -/
  free : Nat
  /-- the command sets whose holder has written since its last GO, so that the 10 ms of R163 run -/
  cs : List CsId
  /-- per initiator (`initNo`), the ember second plus one of its last OWNER_VIOLATION record (R26) -/
  viol : List (Nat × Nat)
  /-- application core A -/
  coreA : CoreSt
  /-- application core B -/
  coreB : CoreSt
  /-- the interrupt controller's claimed lines -/
  int : IntSt
  /-- the DMA channels' working state -/
  dma : List DmaCh
  /-- ember timer, wall clock, alarm -/
  rtc : RtcSt
  /-- the flue beyond its registers -/
  flue : FlueSt
  /-- the Ash engine beyond its registers -/
  ash : AshSt
  /-- the power controller beyond its registers -/
  pwr : PwrSt
  /-- the reset controller and Kindling beyond their registers -/
  rst : RstSt
  /-- the flash information area (Table 11-2) -/
  info : InfoArea
  /-- the flash controller beyond its registers -/
  flc : FlcSt
  /-- key slots, vault, link cipher jobs, verify engine and TRNG beyond their registers -/
  vlt : VaultSt
  /-- the life-cycle fuses -/
  fuse : FuseSt
  /-- frame-counter reservation beyond LCE's registers -/
  rsv : RsvSt
  /-- Hearth beyond its registers -/
  hrt : HearthSt
  /-- the host port beyond its registers -/
  hst : HstSt
  /-- the service port beyond its registers -/
  svc : SvcSt
  /-- the Pilot service beyond ember memory -/
  pil : PilotSt
  /-- the lamp, metrology and general blocks beyond their registers -/
  per : PerSt
  /-- the update engine beyond its registers -/
  upd : UpdSt
  /-- the supplies and pins -/
  sup : SupSt
  /-- the commands that are waiting, first in, first out -/
  pending : List Instr
  deriving DecidableEq, Repr

/-- The part as it leaves Caerut (R5), at the instant its always-on supply first rises through the POR threshold: every
register at its reset value, memory wiped, flash erased. POWER_ON_RESET is the first event of its life. Log 1 and 2 name the values
the manual does not give. -/
def State.reset : State where
  part := .dnl7240
  regs := []
  mem := []
  eccBad := []
  bus := ⟨0, 0⟩
  caps := []
  free := 0
  cs := []
  viol := []
  coreA := ⟨false, true, false, none, false, false, false, 0⟩
  coreB := ⟨false, true, false, none, false, false, false, 0⟩
  int := ⟨[]⟩
  dma := List.replicate 16 ⟨0, 0, 0, 0, false, false⟩
  rtc := ⟨0, 0, 0, 0, 0, false, [], false⟩
  flue := ⟨[], [], [], []⟩
  ash := ⟨1, 1, [], true, false, 0, 0, [], [], none, none, none, false, none, [], none, true⟩
  pwr := ⟨.run, none, ⟨[], [], false, false, 0⟩, [], false, 0, false⟩
  rst := RstSt.init
  info := ⟨true, true, [some ⟨1, Config.factoryWords, [0, 85, 115200, 0, 0, 0, 0, 0]⟩], [some ⟨1, Config.factoryWords, [0, 85, 115200, 0, 0, 0, 0, 0]⟩], [], [], ⟨some (List.replicate 128 (false, 0)), []⟩, ⟨none, []⟩, 0⟩
  flc := ⟨List.replicate 128 ⟨0, 0, false, false⟩, [], [], none, none, 0, [], [], false, []⟩
  vlt := ⟨[], none, none, [none, none], 1, false, [], 0, false⟩
  fuse := ⟨0, 0, 0, false, none⟩
  rsv := ⟨[], [], none, false, [], [], []⟩
  hrt := HearthSt.init
  hst := HstSt.init
  svc := SvcSt.init
  pil := ⟨none, 0, none⟩
  per := PerSt.init
  upd := UpdSt.init
  sup := ⟨false, 0, 3000, 0, false, 0, [], 0, true⟩
  pending := []

end Sys2Proof.Machine
end

