-- ==== Sys2Proof/Machine/Mods.lean ====
section
/-! DEFINITION. One update function for each part of State. -/

namespace Sys2Proof.Machine

/-- Change the part `part`. -/
def State.mPart (s : State) (f : Part → Part) : State := { s with part := f s.part }

/-- Change the part `regs`. -/
def State.mRegs (s : State) (f : (List (Nat × Word)) → List (Nat × Word)) : State := { s with regs := f s.regs }

/-- Change the part `mem`. -/
def State.mMem (s : State) (f : (List Host.Cell) → List Host.Cell) : State := { s with mem := f s.mem }

/-- Change the part `eccBad`. -/
def State.mEccBad (s : State) (f : (List Nat) → List Nat) : State := { s with eccBad := f s.eccBad }

/-- Change the part `bus`. -/
def State.mBus (s : State) (f : BusView → BusView) : State := { s with bus := f s.bus }

/-- Change the part `caps`. -/
def State.mCaps (s : State) (f : (List ((Nat × Nat) × Word)) → List ((Nat × Nat) × Word)) : State := { s with caps := f s.caps }

/-- Change the part `free`. -/
def State.mFree (s : State) (f : Nat → Nat) : State := { s with free := f s.free }

/-- Change the part `cs`. -/
def State.mCs (s : State) (f : (List CsId) → List CsId) : State := { s with cs := f s.cs }

/-- Change the part `viol`. -/
def State.mViol (s : State) (f : (List (Nat × Nat)) → List (Nat × Nat)) : State := { s with viol := f s.viol }

/-- Change the part `coreA`. -/
def State.mCoreA (s : State) (f : CoreSt → CoreSt) : State := { s with coreA := f s.coreA }

/-- Change the part `coreB`. -/
def State.mCoreB (s : State) (f : CoreSt → CoreSt) : State := { s with coreB := f s.coreB }

/-- Change the part `int`. -/
def State.mInt (s : State) (f : IntSt → IntSt) : State := { s with int := f s.int }

/-- Change the part `dma`. -/
def State.mDma (s : State) (f : (List DmaCh) → List DmaCh) : State := { s with dma := f s.dma }

/-- Change the part `rtc`. -/
def State.mRtc (s : State) (f : RtcSt → RtcSt) : State := { s with rtc := f s.rtc }

/-- Change the part `flue`. -/
def State.mFlue (s : State) (f : FlueSt → FlueSt) : State := { s with flue := f s.flue }

/-- Change the part `ash`. -/
def State.mAsh (s : State) (f : AshSt → AshSt) : State := { s with ash := f s.ash }

/-- Change the part `pwr`. -/
def State.mPwr (s : State) (f : PwrSt → PwrSt) : State := { s with pwr := f s.pwr }

/-- Change the part `rst`. -/
def State.mRst (s : State) (f : RstSt → RstSt) : State := { s with rst := f s.rst }

/-- Change the part `info`. -/
def State.mInfo (s : State) (f : InfoArea → InfoArea) : State := { s with info := f s.info }

/-- Change the part `flc`. -/
def State.mFlc (s : State) (f : FlcSt → FlcSt) : State := { s with flc := f s.flc }

/-- Change the part `vlt`. -/
def State.mVlt (s : State) (f : VaultSt → VaultSt) : State := { s with vlt := f s.vlt }

/-- Change the part `fuse`. -/
def State.mFuse (s : State) (f : FuseSt → FuseSt) : State := { s with fuse := f s.fuse }

/-- Change the part `rsv`. -/
def State.mRsv (s : State) (f : RsvSt → RsvSt) : State := { s with rsv := f s.rsv }

/-- Change the part `hrt`. -/
def State.mHrt (s : State) (f : HearthSt → HearthSt) : State := { s with hrt := f s.hrt }

/-- Change the part `hst`. -/
def State.mHst (s : State) (f : HstSt → HstSt) : State := { s with hst := f s.hst }

/-- Change the part `svc`. -/
def State.mSvc (s : State) (f : SvcSt → SvcSt) : State := { s with svc := f s.svc }

/-- Change the part `pil`. -/
def State.mPil (s : State) (f : PilotSt → PilotSt) : State := { s with pil := f s.pil }

/-- Change the part `per`. -/
def State.mPer (s : State) (f : PerSt → PerSt) : State := { s with per := f s.per }

/-- Change the part `upd`. -/
def State.mUpd (s : State) (f : UpdSt → UpdSt) : State := { s with upd := f s.upd }

/-- Change the part `sup`. -/
def State.mSup (s : State) (f : SupSt → SupSt) : State := { s with sup := f s.sup }

/-- Change the part `pending`. -/
def State.mPending (s : State) (f : (List Instr) → List Instr) : State := { s with pending := f s.pending }

end Sys2Proof.Machine
end

