-- ==== Sys2Proof/Machine/RegMap.lean ====
section
/-! DEFINITION. The register maps of the spec as data: one row per register of every register table (address, how
many, stride, the bits software writes, the bits a 1 clears, the bits a read clears, the value of the Reset column), the
names R.<REGISTER> of their addresses and F.<REGISTER>_<FIELD> of the fields the model uses. R6-R9. -/

namespace Sys2Proof.Machine

/-- One row of a register table: `count` registers of equal layout, `stride` octets apart, from `base`.
`rw`: bits software writes; `w1c`: a 1 clears; `rc`: a read clears; `reset`: the Reset column (Table 0-2, R9). -/
structure RegRow where
  base : Nat
  count : Nat
  stride : Nat
  rw : Word
  w1c : Word
  rc : Word
  reset : Word
  deriving DecidableEq, Repr

/-- A field of a register: its address and its bits [hi:lo]. -/
structure Fld where
  addr : Nat
  hi : Nat
  lo : Nat
  deriving DecidableEq, Repr

namespace R
abbrev VLT_PGn_Ks_Ww (n : Nat) (s : Nat) (w : Nat) : Nat := 0x40020000 + 0x1000 * n + 0x20 * s + 0x4 * w
abbrev INT_PENDn (n : Nat) : Nat := 0x400B0000 + 0x4 * n
abbrev INT_CLAIM_A : Nat := 0x400B0010
abbrev INT_DONE_A : Nat := 0x400B0014
abbrev INT_CLAIM_B : Nat := 0x400B0018
abbrev INT_DONE_B : Nat := 0x400B001C
abbrev INT_THRESH_A : Nat := 0x400B0020
abbrev INT_THRESH_B : Nat := 0x400B0024
abbrev INT_DOORBELL : Nat := 0x400B0030
abbrev INT_FAULT_A_ADDR : Nat := 0x400B0040
abbrev INT_FAULT_A_SYN : Nat := 0x400B0044
abbrev INT_FAULT_B_ADDR : Nat := 0x400B0048
abbrev INT_FAULT_B_SYN : Nat := 0x400B004C
abbrev INT_VIOL : Nat := 0x400B0050
abbrev INT_CFGn (n : Nat) : Nat := 0x400B0100 + 0x4 * n
abbrev DMA_DONE_STAT : Nat := 0x400A0000
abbrev DMA_ERR_STAT : Nat := 0x400A0004
abbrev DMA_CHn_CFG (n : Nat) : Nat := 0x400A0100 + 0x20 * n
abbrev DMA_CHn_DESC (n : Nat) : Nat := 0x400A0104 + 0x20 * n
abbrev DMA_CHn_CTL (n : Nat) : Nat := 0x400A0108 + 0x20 * n
abbrev DMA_CHn_STAT (n : Nat) : Nat := 0x400A010C + 0x20 * n
abbrev DMA_CHn_CUR (n : Nat) : Nat := 0x400A0110 + 0x20 * n
abbrev RTC_EMB_LO : Nat := 0x40007000
abbrev RTC_EMB_HI : Nat := 0x40007004
abbrev RTC_WC_LO : Nat := 0x40007008
abbrev RTC_WC_HI : Nat := 0x4000700C
abbrev RTC_WC_STG_LO : Nat := 0x40007010
abbrev RTC_WC_STG_HI : Nat := 0x40007014
abbrev RTC_TRIM_STG : Nat := 0x40007018
abbrev RTC_TRIM_ACT : Nat := 0x4000701C
abbrev RTC_COMMIT : Nat := 0x40007020
abbrev RTC_CASN : Nat := 0x40007024
abbrev RTC_ALARM_LO : Nat := 0x40007028
abbrev RTC_ALARM_HI : Nat := 0x4000702C
abbrev RTC_STAT : Nat := 0x40007030
abbrev HRT_SNAP_REQ : Nat := 0x40040100
abbrev HRT_SNAP_STAT : Nat := 0x40040104
abbrev HRT_SNAP_ASN_LO : Nat := 0x40040108
abbrev HRT_SNAP_ASN_HI : Nat := 0x4004010C
abbrev HRT_SNAP_VER : Nat := 0x40040110
abbrev HRT_SNAP_REL : Nat := 0x40040114
abbrev HRT_ID : Nat := 0x40040000
abbrev HRT_STAT : Nat := 0x40040004
abbrev HRT_EVT : Nat := 0x40040008
abbrev HRT_EVT_EN : Nat := 0x4004000C
abbrev HRT_REC_STAT : Nat := 0x40040010
abbrev HRT_REC_ASN_LO : Nat := 0x40040014
abbrev HRT_REC_ASN_HI : Nat := 0x40040018
abbrev HRT_SEQ_VOTE : Nat := 0x4004001C
abbrev HRT_ASN_A_LO : Nat := 0x40040020
abbrev HRT_ASN_A_HI : Nat := 0x40040024
abbrev HRT_ASN_B_LO : Nat := 0x40040028
abbrev HRT_ASN_B_HI : Nat := 0x4004002C
abbrev HRT_BUF_ALLOC : Nat := 0x40040040
abbrev HRT_BUF_RET : Nat := 0x40040044
abbrev HRT_BUF_FREE : Nat := 0x40040048
abbrev HRT_RXDROP_A : Nat := 0x4004004C
abbrev HRT_RXDROP_B : Nat := 0x40040050
abbrev HRT_Qn_CFG (q : Nat) : Nat := 0x40040200 + 0x20 * q
abbrev HRT_Qn_PROD (q : Nat) : Nat := 0x40040204 + 0x20 * q
abbrev HRT_Qn_DONE (q : Nat) : Nat := 0x40040208 + 0x20 * q
abbrev HRT_Qn_RECL (q : Nat) : Nat := 0x4004020C + 0x20 * q
abbrev HRT_Qn_STAT (q : Nat) : Nat := 0x40040210 + 0x20 * q
abbrev HRT_Qn_FLUSH (q : Nat) : Nat := 0x40040214 + 0x20 * q
abbrev HRT_SCH_IDX : Nat := 0x40040600
abbrev HRT_SCH_LO : Nat := 0x40040604
abbrev HRT_SCH_HI : Nat := 0x40040608
abbrev HRT_SCH_SF : Nat := 0x4004060C
abbrev HRT_SCH_STAT : Nat := 0x40040610
abbrev HRT_SCH_COMMIT : Nat := 0x40040614
abbrev HRT_SCH_CASN : Nat := 0x40040618
abbrev HRT_SCH_VER : Nat := 0x4004061C
abbrev HRT_SF_As (s : Nat) : Nat := 0x40040620 + 0x4 * s
abbrev HRT_SF_Bs (s : Nat) : Nat := 0x40040640 + 0x4 * s
abbrev HRT_TPL_A : Nat := 0x40040660
abbrev HRT_TPL_B : Nat := 0x40040664
abbrev HRT_GUARD : Nat := 0x40040668
abbrev HRT_EXCL_VER : Nat := 0x4004066C
abbrev HRT_EXCL_A0 : Nat := 0x40040670
abbrev HRT_EXCL_B0 : Nat := 0x40040678
abbrev HRT_PROF : Nat := 0x40040680
abbrev HRT_NBR_CMD : Nat := 0x40040700
abbrev HRT_NBR_ADDR_LO : Nat := 0x40040704
abbrev HRT_NBR_ADDR_HI : Nat := 0x40040708
abbrev HRT_NBR_SHORT : Nat := 0x4004070C
abbrev HRT_NBR_RES : Nat := 0x40040710
abbrev HRT_NBR_USE : Nat := 0x40040714
abbrev HRT_CHILD_USE : Nat := 0x40040718
abbrev HRT_NBR_FULL : Nat := 0x4004071C
abbrev HRT_TS_A : Nat := 0x40040720
abbrev HRT_TS_B : Nat := 0x40040724
abbrev HRT_FILT_CNT : Nat := 0x40040728
abbrev HRT_ADM : Nat := 0x4004072C
abbrev HRT_ADM_RSSI : Nat := 0x40040730
abbrev RFA_STAT : Nat := 0x40050004
abbrev RFA_EVT : Nat := 0x40050008
abbrev RFA_EVT_EN : Nat := 0x4005000C
abbrev RFA_TEMP : Nat := 0x40050010
abbrev RFA_SUPPLY : Nat := 0x40050014
abbrev RFA_RSSI : Nat := 0x40050018
abbrev RFA_LASTTX : Nat := 0x4005001C
abbrev RFA_CALi (i : Nat) : Nat := 0x40050020 + 0x4 * i
abbrev RFA_BAND : Nat := 0x40050040
abbrev RFA_CCA : Nat := 0x40050044
abbrev RFA_LBT : Nat := 0x40050048
abbrev RFA_THERM : Nat := 0x4005004C
abbrev RFA_CALPER : Nat := 0x40050050
abbrev RFA_BLANK_CNT : Nat := 0x40050054
abbrev RFA_CCA_CNT : Nat := 0x40050058
abbrev RFA_PADIS_CNT : Nat := 0x4005005C
abbrev RFA_MODEm (m : Nat) : Nat := 0x40050080 + 0x4 * m
abbrev RFA_TXPm (m : Nat) : Nat := 0x400500C0 + 0x4 * m
abbrev RFA_TEST : Nat := 0x40050100
abbrev RFA_TEST_FREQ : Nat := 0x40050104
abbrev RFB_EVT : Nat := 0x40060008
abbrev RFB_EVT_EN : Nat := 0x4006000C
abbrev RFA_FBL_CFG : Nat := 0x40050400
abbrev RFA_FBL_WIN : Nat := 0x40050404
abbrev RFA_FBL_DET : Nat := 0x40050408
abbrev RFA_FBL_LIM : Nat := 0x4005040C
abbrev RFA_FBL_UNITS : Nat := 0x40050410
abbrev RFA_FBL_EVT : Nat := 0x40050414
abbrev RFA_FBL_DETCNT : Nat := 0x40050418
abbrev RFA_FBL_TOCNT : Nat := 0x4005041C
abbrev RFA_FBL_NOUNIT : Nat := 0x40050420
abbrev RFA_FBL_SHORT : Nat := 0x40050424
abbrev RFA_FBL_ACKHELD : Nat := 0x40050428
abbrev RFA_FBL_GAIN : Nat := 0x4005042C
abbrev RFA_FBL_UNITu (u : Nat) : Nat := 0x40050480 + 0x4 * u
abbrev RFA_FBL_OUTc (c : Nat) : Nat := 0x40050500 + 0x4 * c
abbrev VLT_PGn_SLOTs (n : Nat) (s : Nat) : Nat := 0x40020100 + 0x1000 * n + 0x4 * s
abbrev VLT_PGn_KCVs (n : Nat) (s : Nat) : Nat := 0x40020120 + 0x1000 * n + 0x4 * s
abbrev VLT_PGn_CTL (n : Nat) : Nat := 0x40020140 + 0x1000 * n
abbrev VLT_PGn_OWN (n : Nat) : Nat := 0x40020FFC + 0x1000 * n
abbrev VLT_CMD : Nat := 0x40028000
abbrev VLT_CMD_IN : Nat := 0x40028004
abbrev VLT_CMD_LEN : Nat := 0x40028008
abbrev VLT_CMD_OUT : Nat := 0x4002800C
abbrev VLT_CMD_RES : Nat := 0x40028010
abbrev VLT_ALARM : Nat := 0x40028020
abbrev VLT_ALARM_CFG : Nat := 0x40028028
abbrev VLT_PK_CTLc (c : Nat) : Nat := 0x40028040 + 0x10 * c
abbrev VLT_PK_ARGc (c : Nat) : Nat := 0x40028044 + 0x10 * c
abbrev VLT_PK_PROGc (c : Nat) : Nat := 0x40028048 + 0x10 * c
abbrev VLT_TRNG_DATA : Nat := 0x40028060
abbrev VLT_TRNG_STAT : Nat := 0x40028064
abbrev LCE_JOB_CTL : Nat := 0x40030010
abbrev LCE_JOB_SRC : Nat := 0x40030014
abbrev LCE_JOB_DST : Nat := 0x40030018
abbrev LCE_JOB_LEN : Nat := 0x4003001C
abbrev LCE_JOB_IVn (n : Nat) : Nat := 0x40030020 + 0x4 * n
abbrev LCE_JOB_MACn (n : Nat) : Nat := 0x40030030 + 0x4 * n
abbrev LCE_JOB_RES : Nat := 0x40030040
abbrev LCE_CTR_STALL : Nat := 0x40030080
abbrev LCE_CTRs (s : Nat) : Nat := 0x400300A0 + 0x4 * s
abbrev LCE_CEILs (s : Nat) : Nat := 0x400300C0 + 0x4 * s
abbrev LCE_RSV_STAT : Nat := 0x400300E0
abbrev LCE_RSV_SEQ : Nat := 0x400300E4
abbrev LCS_PART_ID : Nat := 0x400D0000
abbrev LCS_UID_LO : Nat := 0x400D0004
abbrev LCS_UID_HI : Nat := 0x400D0008
abbrev LCS_STATE : Nat := 0x400D0010
abbrev LCS_DBG : Nat := 0x400D0014
abbrev LCS_CHALn (n : Nat) : Nat := 0x400D0020 + 0x4 * n
abbrev LCS_CMD : Nat := 0x400D0030
abbrev LCS_CMD_ARG : Nat := 0x400D0034
abbrev LCS_CMD_RES : Nat := 0x400D0038
abbrev LCS_OWNER_HASHn (n : Nat) : Nat := 0x400D0040 + 0x4 * n
abbrev LCS_TOKENn (n : Nat) : Nat := 0x400D0100 + 0x4 * n
abbrev FLU_WATCH0 : Nat := 0x40008004
abbrev FLU_WATCH1 : Nat := 0x40008008
abbrev FLU_LOOP0 : Nat := 0x4000800C
abbrev FLU_LOOP1 : Nat := 0x40008010
abbrev FLU_SUM : Nat := 0x40008014
abbrev FLU_SUM_EN : Nat := 0x40008018
abbrev FLU_STAMP_ASN_LO : Nat := 0x40008020
abbrev FLU_STAMP_ASN_HI : Nat := 0x40008024
abbrev FLU_STAMP_OFF : Nat := 0x40008028
abbrev FLU_STAMP_EMB : Nat := 0x4000802C
abbrev FLU_CHc_CFG (c : Nat) : Nat := 0x40008100 + 0x10 * c
abbrev FLU_CHc_TSK (c : Nat) : Nat := 0x40008104 + 0x10 * c
abbrev FLU_CHc_STAT (c : Nat) : Nat := 0x40008108 + 0x10 * c
abbrev FLU_CHc_CNT (c : Nat) : Nat := 0x4000810C + 0x10 * c
abbrev FLU_TKt_STAT (t : Nat) : Nat := 0x40008400 + 0x4 * t
abbrev PWR_STAT : Nat := 0x40000004
abbrev PWR_CORE_A : Nat := 0x40000008
abbrev PWR_CORE_B : Nat := 0x4000000C
abbrev PWR_RESUME_A : Nat := 0x40000010
abbrev PWR_RESUME_B : Nat := 0x40000014
abbrev PWR_RET : Nat := 0x40000018
abbrev PWR_CFG : Nat := 0x4000001C
abbrev PWR_BUDGET : Nat := 0x40000020
abbrev PWR_ENTRY_RES : Nat := 0x40000024
abbrev PWR_WAKE_EN : Nat := 0x40000028
abbrev PWR_WAKE_SRC : Nat := 0x4000002C
abbrev PWR_WAKE_PIN : Nat := 0x40000030
abbrev PWR_CLASS0 : Nat := 0x40000034
abbrev PWR_CLASS1 : Nat := 0x40000038
abbrev PWR_EVT : Nat := 0x4000003C
abbrev PWR_EVT_EN : Nat := 0x40000040
abbrev PWR_WFAIL : Nat := 0x40000044
abbrev CLK_STAT : Nat := 0x40004004
abbrev CLK_SEL : Nat := 0x40004008
abbrev CLK_PERF : Nat := 0x4000400C
abbrev CLK_EVT : Nat := 0x40004010
abbrev CLK_EVT_EN : Nat := 0x40004014
abbrev CLK_REQ : Nat := 0x40004018
abbrev CLK_FRC_TRIM : Nat := 0x4000401C
abbrev EMB_REGn (n : Nat) : Nat := 0x40003000 + 0x4 * n
abbrev EMB_REG30 : Nat := 0x40003078
abbrev EMB_REG31 : Nat := 0x4000307C
abbrev RST_CAUSE : Nat := 0x40001004
abbrev RST_HIST : Nat := 0x40001008
abbrev RST_HRT : Nat := 0x4000100C
abbrev RST_SOFT : Nat := 0x40001010
abbrev RST_DEFER : Nat := 0x40001014
abbrev RST_SECPG0 : Nat := 0x40001018
abbrev RST_SECPG1 : Nat := 0x4000101C
abbrev RST_SECPG2 : Nat := 0x40001020
abbrev RST_WDT_A_CFG : Nat := 0x40001030
abbrev RST_WDT_A_KICK : Nat := 0x40001034
abbrev RST_WDT_A_CNT : Nat := 0x40001038
abbrev RST_WDT_B_CFG : Nat := 0x40001040
abbrev RST_WDT_B_KICK : Nat := 0x40001044
abbrev RST_WDT_B_CNT : Nat := 0x40001048
abbrev RST_EVT : Nat := 0x40001050
abbrev KND_STAT : Nat := 0x40002004
abbrev KND_OPT_SEQ : Nat := 0x40002008
abbrev KND_BOOT : Nat := 0x4000200C
abbrev KND_TIME : Nat := 0x40002010
abbrev KND_OPTn (n : Nat) : Nat := 0x40002020 + 0x4 * n
abbrev KND_OPT_STGm (m : Nat) : Nat := 0x40002080 + 0x4 * m
abbrev KND_OPT_ARG : Nat := 0x400020A0
abbrev KND_OPT_CMD : Nat := 0x400020A4
abbrev KND_OPT_RES : Nat := 0x400020A8
abbrev FLC_STAT : Nat := 0x40010004
abbrev FLC_EVT : Nat := 0x40010008
abbrev FLC_EVT_EN : Nat := 0x4001000C
abbrev FLC_DONE : Nat := 0x40010010
abbrev FLC_PAUSE : Nat := 0x40010014
abbrev FLC_HIT_ADDR : Nat := 0x40010018
abbrev FLC_ECC_ADDR : Nat := 0x4001001C
abbrev FLC_ECC_CNT : Nat := 0x40010020
abbrev FLC_PROT : Nat := 0x40010024
abbrev FLC_SEL : Nat := 0x40010028
abbrev FLC_SEL_SEQ : Nat := 0x4001002C
abbrev FLC_ULOCKn (n : Nat) : Nat := 0x40010030 + 0x4 * n
abbrev FLC_SUSPECTn (n : Nat) : Nat := 0x40010040 + 0x4 * n
abbrev FLC_INT_STAT : Nat := 0x40010050
abbrev FLC_CMDs (s : Nat) : Nat := 0x40010100 + 0x20 * s
abbrev FLC_ADDRs (s : Nat) : Nat := 0x40010104 + 0x20 * s
abbrev FLC_SRCs (s : Nat) : Nat := 0x40010108 + 0x20 * s
abbrev FLC_RESs (s : Nat) : Nat := 0x4001010C + 0x20 * s
abbrev FLC_QRYs (s : Nat) : Nat := 0x40010110 + 0x20 * s
abbrev FLC_QCNTs (s : Nat) : Nat := 0x40010114 + 0x20 * s
abbrev UPD_STAT : Nat := 0x40011004
abbrev UPD_EVT : Nat := 0x40011008
abbrev UPD_EVT_EN : Nat := 0x4001100C
abbrev UPD_CMD : Nat := 0x40011010
abbrev UPD_SRC : Nat := 0x40011014
abbrev UPD_OFF : Nat := 0x40011018
abbrev UPD_LEN : Nat := 0x4001101C
abbrev UPD_RES : Nat := 0x40011020
abbrev UPD_NEXT : Nat := 0x40011024
abbrev UPD_HAND : Nat := 0x40011028
abbrev UPD_MBOX : Nat := 0x4001102C
abbrev UPD_GEN_OLD : Nat := 0x40011030
abbrev UPD_GEN_NEW : Nat := 0x40011034
abbrev UPD_PROB_LEFT : Nat := 0x40011038
abbrev UPD_VER_RUN : Nat := 0x4001103C
abbrev UPD_VER_NEW : Nat := 0x40011040
abbrev UPD_POLICY0 : Nat := 0x40011044
abbrev UPD_POLICY1 : Nat := 0x40011048
abbrev UPD_PROB_TIME : Nat := 0x4001104C
abbrev UPD_TOKEN : Nat := 0x40011050
abbrev UPD_BOOTFAIL : Nat := 0x40011054
abbrev UPD_CFG_KEY : Nat := 0x40011058
abbrev UPD_CFG_COMMIT : Nat := 0x40011060
abbrev UPD_CFG_CASN : Nat := 0x40011064
abbrev UPD_MOTION_AGO : Nat := 0x40011068
abbrev ASH_STAT : Nat := 0x40009004
abbrev ASH_NEXT : Nat := 0x40009008
abbrev ASH_OLDEST : Nat := 0x4000900C
abbrev ASH_EVT : Nat := 0x40009010
abbrev ASH_EVT_EN : Nat := 0x40009014
abbrev ASH_FLUSH : Nat := 0x40009018
abbrev ASH_LOST_CNT : Nat := 0x4000901C
abbrev ASH_WR_Dn (n : Nat) : Nat := 0x40009020 + 0x4 * n
abbrev ASH_WR_CODE : Nat := 0x4000902C
abbrev ASH_RD_SEQ : Nat := 0x40009040
abbrev ASH_RD_STAT : Nat := 0x40009044
abbrev ASH_RDn (n : Nat) : Nat := 0x40009060 + 0x4 * n
abbrev ASH_CLR_TOKEN : Nat := 0x40009080
abbrev ASH_CLR_CMD : Nat := 0x40009084
abbrev ASH_CLR_RES : Nat := 0x40009088
abbrev HST_STAT : Nat := 0x400C0004
abbrev HST_BAUD : Nat := 0x400C0008
abbrev HST_CFG : Nat := 0x400C000C
abbrev HST_EVT : Nat := 0x400C0010
abbrev HST_EVT_EN : Nat := 0x400C0014
abbrev HST_ERR_CNT : Nat := 0x400C0018
abbrev HST_CMD_CNT : Nat := 0x400C001C
abbrev HST_OWN : Nat := 0x400C0FFC
abbrev SVC_STAT : Nat := 0x400C1004
abbrev SVC_BAUD : Nat := 0x400C1008
abbrev SVC_EVT : Nat := 0x400C100C
abbrev SVC_EVT_EN : Nat := 0x400C1010
abbrev SVC_ERR_CNT : Nat := 0x400C1014
abbrev SVC_AUTH_CNT : Nat := 0x400C1018
abbrev LUM_STAT : Nat := 0x40080004
abbrev LUM_EVT : Nat := 0x40080008
abbrev LUM_EVT_EN : Nat := 0x4008000C
abbrev LUM_DALI_CFG : Nat := 0x40080010
abbrev LUM_DALI_FWD : Nat := 0x40080014
abbrev LUM_DALI_CTL : Nat := 0x40080018
abbrev LUM_DALI_RES : Nat := 0x4008001C
abbrev LUM_DALI_RX : Nat := 0x40080020
abbrev LUM_DALI_RXT : Nat := 0x40080024
abbrev LUM_DALI_CNT : Nat := 0x40080028
abbrev LUM_DIM_STG : Nat := 0x40080040
abbrev LUM_DIM_CTL : Nat := 0x40080044
abbrev LUM_DIM_ACT : Nat := 0x40080048
abbrev LUM_RLY_CFG : Nat := 0x40080060
abbrev LUM_RLY_CTL : Nat := 0x40080064
abbrev LUM_RLY_CNT : Nat := 0x40080068
abbrev LUM_MOT_CFG : Nat := 0x40080080
abbrev LUM_MOT_REPORT : Nat := 0x40080084
abbrev LUM_MOT_CNT : Nat := 0x40080088
abbrev LUM_SAFE : Nat := 0x400800A0
abbrev LUM_OWN : Nat := 0x40080FFC
abbrev MET_CFG : Nat := 0x40081004
abbrev MET_STAT : Nat := 0x40081008
abbrev MET_EVT : Nat := 0x4008100C
abbrev MET_EVT_EN : Nat := 0x40081010
abbrev MET_VRMS : Nat := 0x40081014
abbrev MET_IRMS1 : Nat := 0x40081018
abbrev MET_IRMS2 : Nat := 0x4008101C
abbrev MET_P1 : Nat := 0x40081020
abbrev MET_P2 : Nat := 0x40081024
abbrev MET_E1_LO : Nat := 0x40081030
abbrev MET_E1_HI : Nat := 0x40081034
abbrev MET_E2_LO : Nat := 0x40081038
abbrev MET_E2_HI : Nat := 0x4008103C
abbrev MET_QUANT : Nat := 0x40081040
abbrev MET_CTL : Nat := 0x40081044
abbrev MET_SNAP_E1_LO : Nat := 0x40081050
abbrev MET_SNAP_E2_LO : Nat := 0x40081058
abbrev MET_SNAP_CNT : Nat := 0x40081060
abbrev MET_SNAP_EMB : Nat := 0x40081064
abbrev MET_CAL_STG_V : Nat := 0x40081080
abbrev MET_CAL_STG_I1 : Nat := 0x40081084
abbrev MET_CAL_STG_I2 : Nat := 0x40081088
abbrev MET_CAL_ACT_V : Nat := 0x40081090
abbrev MET_CAL_ACT_I1 : Nat := 0x40081094
abbrev MET_CAL_ACT_I2 : Nat := 0x40081098
abbrev MET_CAL_COMMIT : Nat := 0x4008109C
abbrev MET_CAL_CASN : Nat := 0x400810A0
abbrev MET_OWN : Nat := 0x40081FFC
abbrev SEn_CFG (n : Nat) : Nat := 0x40090004 + 0x1000 * n
abbrev SEn_RATE (n : Nat) : Nat := 0x40090008 + 0x1000 * n
abbrev SEn_RATE_ACT (n : Nat) : Nat := 0x4009000C + 0x1000 * n
abbrev SEn_STAT (n : Nat) : Nat := 0x40090010 + 0x1000 * n
abbrev SEn_EVT (n : Nat) : Nat := 0x40090014 + 0x1000 * n
abbrev SEn_EVT_EN (n : Nat) : Nat := 0x40090018 + 0x1000 * n
abbrev SEn_TXD (n : Nat) : Nat := 0x40090020 + 0x1000 * n
abbrev SEn_RXD (n : Nat) : Nat := 0x40090024 + 0x1000 * n
abbrev SEn_XFER (n : Nat) : Nat := 0x40090028 + 0x1000 * n
abbrev SEn_CTL (n : Nat) : Nat := 0x4009002C + 0x1000 * n
abbrev SEn_THR (n : Nat) : Nat := 0x40090030 + 0x1000 * n
abbrev SEn_OWN (n : Nat) : Nat := 0x40090FFC + 0x1000 * n
abbrev TMR_CFGt (t : Nat) : Nat := 0x40098100 + 0x40 * t
abbrev TMR_CNTt (t : Nat) : Nat := 0x40098104 + 0x40 * t
abbrev TMR_TOPt (t : Nat) : Nat := 0x40098108 + 0x40 * t
abbrev TMR_CMP0t (t : Nat) : Nat := 0x4009810C + 0x40 * t
abbrev TMR_CMP1t (t : Nat) : Nat := 0x40098110 + 0x40 * t
abbrev TMR_CAPt (t : Nat) : Nat := 0x40098114 + 0x40 * t
abbrev TMR_CTLt (t : Nat) : Nat := 0x40098118 + 0x40 * t
abbrev TMR_EVTt (t : Nat) : Nat := 0x4009811C + 0x40 * t
abbrev TMR_EVT_ENt (t : Nat) : Nat := 0x40098120 + 0x40 * t
abbrev TMR_STATt (t : Nat) : Nat := 0x40098124 + 0x40 * t
abbrev TMR_OWN : Nat := 0x40098FFC
abbrev ADC_CFG : Nat := 0x4009A004
abbrev ADC_CTL : Nat := 0x4009A008
abbrev ADC_STAT : Nat := 0x4009A00C
abbrev ADC_EVT : Nat := 0x4009A010
abbrev ADC_EVT_EN : Nat := 0x4009A014
abbrev ADC_RESk (k : Nat) : Nat := 0x4009A020 + 0x4 * k
abbrev ADC_LIMk (k : Nat) : Nat := 0x4009A040 + 0x4 * k
abbrev ADC_OWN : Nat := 0x4009AFFC
abbrev SUP_STAT : Nat := 0x40005004
abbrev SUP_EVT : Nat := 0x40005008
abbrev SUP_EVT_EN : Nat := 0x4000500C
abbrev SUP_PFW_THR : Nat := 0x40005010
abbrev SUP_VMON : Nat := 0x40005014
abbrev SUP_KEEP_THR : Nat := 0x40005018
abbrev SUP_IO_CFG : Nat := 0x4000501C
abbrev SUP_VREG_CFG : Nat := 0x40005020
abbrev SUP_CHG_STG : Nat := 0x40005030
abbrev SUP_CHG_ACT : Nat := 0x40005034
abbrev SUP_CHG_COMMIT : Nat := 0x40005038
abbrev SUP_CHG_CASN : Nat := 0x4000503C
abbrev SUP_CHG_NTC : Nat := 0x40005040
abbrev SUP_CHG_MON : Nat := 0x40005044
abbrev PAD_IN0 : Nat := 0x40006004
abbrev PAD_IN1 : Nat := 0x40006008
abbrev PAD_OUT0 : Nat := 0x40006010
abbrev PAD_OUT1 : Nat := 0x40006014
abbrev PAD_OUTSET0 : Nat := 0x40006018
abbrev PAD_OUTSET1 : Nat := 0x4000601C
abbrev PAD_OUTCLR0 : Nat := 0x40006020
abbrev PAD_OUTCLR1 : Nat := 0x40006024
abbrev PAD_OUTTGL0 : Nat := 0x40006028
abbrev PAD_OUTTGL1 : Nat := 0x4000602C
abbrev PAD_EDGE0 : Nat := 0x40006030
abbrev PAD_EDGE1 : Nat := 0x40006034
abbrev PAD_WAKE_EDGE : Nat := 0x40006038
abbrev PAD_HOLD : Nat := 0x4000603C
abbrev PAD_RELEASE : Nat := 0x40006040
abbrev PAD_EVT : Nat := 0x40006044
abbrev PAD_TSKk (k : Nat) : Nat := 0x40006060 + 0x4 * k
abbrev PAD_CFGn (n : Nat) : Nat := 0x40006100 + 0x4 * n
end R

namespace F
abbrev INT_THRESH_A_PRIO : Fld := ⟨R.INT_THRESH_A, 2, 0⟩
abbrev INT_THRESH_B_PRIO : Fld := ⟨R.INT_THRESH_B, 2, 0⟩
abbrev INT_CFGn_TGT_B (n : Nat) : Fld := ⟨R.INT_CFGn n, 5, 5⟩
abbrev INT_CFGn_TGT_A (n : Nat) : Fld := ⟨R.INT_CFGn n, 4, 4⟩
abbrev INT_CFGn_PRIO (n : Nat) : Fld := ⟨R.INT_CFGn n, 2, 0⟩
abbrev DMA_CHn_CFG_EN (n : Nat) : Fld := ⟨R.DMA_CHn_CFG n, 31, 31⟩
abbrev DMA_CHn_CFG_PRIO (n : Nat) : Fld := ⟨R.DMA_CHn_CFG n, 29, 28⟩
abbrev DMA_CHn_CFG_OWNER (n : Nat) : Fld := ⟨R.DMA_CHn_CFG n, 26, 24⟩
abbrev DMA_CHn_CFG_SEC (n : Nat) : Fld := ⟨R.DMA_CHn_CFG n, 20, 20⟩
abbrev DMA_CHn_CFG_FLUE_START (n : Nat) : Fld := ⟨R.DMA_CHn_CFG n, 16, 16⟩
abbrev DMA_CHn_STAT_STATE (n : Nat) : Fld := ⟨R.DMA_CHn_STAT n, 31, 30⟩
abbrev DMA_CHn_STAT_ERR (n : Nat) : Fld := ⟨R.DMA_CHn_STAT n, 27, 24⟩
abbrev DMA_CHn_STAT_REM (n : Nat) : Fld := ⟨R.DMA_CHn_STAT n, 15, 0⟩
abbrev RTC_WC_STG_HI_WC : Fld := ⟨R.RTC_WC_STG_HI, 15, 0⟩
abbrev RTC_ALARM_HI_EN : Fld := ⟨R.RTC_ALARM_HI, 31, 31⟩
abbrev RTC_ALARM_HI_CMP : Fld := ⟨R.RTC_ALARM_HI, 15, 0⟩
abbrev RTC_STAT_STEP : Fld := ⟨R.RTC_STAT, 1, 1⟩
abbrev RTC_STAT_SRC : Fld := ⟨R.RTC_STAT, 0, 0⟩
abbrev HRT_SNAP_REQ_TL : Fld := ⟨R.HRT_SNAP_REQ, 8, 8⟩
abbrev HRT_SNAP_REQ_SECT : Fld := ⟨R.HRT_SNAP_REQ, 3, 0⟩
abbrev HRT_SNAP_STAT_STATE : Fld := ⟨R.HRT_SNAP_STAT, 31, 30⟩
abbrev HRT_SNAP_STAT_HOLDER : Fld := ⟨R.HRT_SNAP_STAT, 26, 24⟩
abbrev HRT_SNAP_STAT_SECT : Fld := ⟨R.HRT_SNAP_STAT, 19, 16⟩
abbrev HRT_SNAP_STAT_REFUSED : Fld := ⟨R.HRT_SNAP_STAT, 15, 8⟩
abbrev HRT_SNAP_STAT_REASON : Fld := ⟨R.HRT_SNAP_STAT, 7, 0⟩
abbrev HRT_ID_CFG : Fld := ⟨R.HRT_ID, 15, 0⟩
abbrev HRT_STAT_STATE : Fld := ⟨R.HRT_STAT, 31, 29⟩
abbrev HRT_STAT_PROFILE : Fld := ⟨R.HRT_STAT, 12, 12⟩
abbrev HRT_STAT_SYNC_B : Fld := ⟨R.HRT_STAT, 10, 10⟩
abbrev HRT_STAT_SYNC_A : Fld := ⟨R.HRT_STAT, 9, 9⟩
abbrev HRT_STAT_CFG_COPY : Fld := ⟨R.HRT_STAT, 0, 0⟩
abbrev HRT_EVT_NOCFG : Fld := ⟨R.HRT_EVT, 8, 8⟩
abbrev HRT_EVT_DUTY : Fld := ⟨R.HRT_EVT, 7, 7⟩
abbrev HRT_EVT_CTR_RSV : Fld := ⟨R.HRT_EVT, 6, 6⟩
abbrev HRT_EVT_KEY_EXH : Fld := ⟨R.HRT_EVT, 5, 5⟩
abbrev HRT_EVT_PROFILE : Fld := ⟨R.HRT_EVT, 4, 4⟩
abbrev HRT_EVT_NEIGH_FULL : Fld := ⟨R.HRT_EVT, 3, 3⟩
abbrev HRT_EVT_LOST_SYNC : Fld := ⟨R.HRT_EVT, 2, 2⟩
abbrev HRT_EVT_FATAL : Fld := ⟨R.HRT_EVT, 1, 1⟩
abbrev HRT_EVT_REC : Fld := ⟨R.HRT_EVT, 0, 0⟩
abbrev HRT_REC_STAT_CNT : Fld := ⟨R.HRT_REC_STAT, 31, 16⟩
abbrev HRT_REC_STAT_DUR : Fld := ⟨R.HRT_REC_STAT, 15, 0⟩
abbrev HRT_BUF_FREE_RX_RESERVE : Fld := ⟨R.HRT_BUF_FREE, 21, 16⟩
abbrev HRT_BUF_FREE_FREE : Fld := ⟨R.HRT_BUF_FREE, 5, 0⟩
abbrev HRT_Qn_CFG_EN (q : Nat) : Fld := ⟨R.HRT_Qn_CFG q, 31, 31⟩
abbrev HRT_Qn_CFG_OWNER (q : Nat) : Fld := ⟨R.HRT_Qn_CFG q, 26, 24⟩
abbrev HRT_Qn_CFG_SEC (q : Nat) : Fld := ⟨R.HRT_Qn_CFG q, 20, 20⟩
abbrev HRT_Qn_CFG_TL (q : Nat) : Fld := ⟨R.HRT_Qn_CFG q, 16, 16⟩
abbrev HRT_Qn_CFG_EARLY (q : Nat) : Fld := ⟨R.HRT_Qn_CFG q, 12, 12⟩
abbrev HRT_Qn_CFG_IMM (q : Nat) : Fld := ⟨R.HRT_Qn_CFG q, 4, 4⟩
abbrev HRT_Qn_CFG_IRQ (q : Nat) : Fld := ⟨R.HRT_Qn_CFG q, 0, 0⟩
abbrev HRT_Qn_PROD_IDX (q : Nat) : Fld := ⟨R.HRT_Qn_PROD q, 6, 0⟩
abbrev HRT_Qn_DONE_IDX (q : Nat) : Fld := ⟨R.HRT_Qn_DONE q, 6, 0⟩
abbrev HRT_Qn_RECL_IDX (q : Nat) : Fld := ⟨R.HRT_Qn_RECL q, 6, 0⟩
abbrev HRT_Qn_STAT_CNT (q : Nat) : Fld := ⟨R.HRT_Qn_STAT q, 31, 24⟩
abbrev HRT_Qn_STAT_VCHG (q : Nat) : Fld := ⟨R.HRT_Qn_STAT q, 1, 1⟩
abbrev HRT_Qn_STAT_IERR (q : Nat) : Fld := ⟨R.HRT_Qn_STAT q, 0, 0⟩
abbrev HRT_Qn_FLUSH_GO (q : Nat) : Fld := ⟨R.HRT_Qn_FLUSH q, 0, 0⟩
abbrev HRT_SCH_STAT_ERRPOS : Fld := ⟨R.HRT_SCH_STAT, 31, 24⟩
abbrev HRT_SCH_STAT_EDITS : Fld := ⟨R.HRT_SCH_STAT, 6, 0⟩
abbrev HRT_SF_As_LEN (s : Nat) : Fld := ⟨R.HRT_SF_As s, 15, 0⟩
abbrev HRT_SF_Bs_LEN (s : Nat) : Fld := ⟨R.HRT_SF_Bs s, 15, 0⟩
abbrev HRT_TPL_B_TsLength : Fld := ⟨R.HRT_TPL_B, 10, 0⟩
abbrev HRT_EXCL_VER_CNT_B : Fld := ⟨R.HRT_EXCL_VER, 27, 24⟩
abbrev HRT_EXCL_VER_CNT_A : Fld := ⟨R.HRT_EXCL_VER, 19, 16⟩
abbrev HRT_EXCL_VER_VER_B : Fld := ⟨R.HRT_EXCL_VER, 15, 8⟩
abbrev HRT_EXCL_VER_VER_A : Fld := ⟨R.HRT_EXCL_VER, 7, 0⟩
abbrev HRT_PROF_VIN_OK : Fld := ⟨R.HRT_PROF, 31, 31⟩
abbrev HRT_PROF_INTERIM : Fld := ⟨R.HRT_PROF, 30, 30⟩
abbrev HRT_PROF_B : Fld := ⟨R.HRT_PROF, 1, 1⟩
abbrev HRT_PROF_A : Fld := ⟨R.HRT_PROF, 0, 0⟩
abbrev HRT_NBR_CMD_OP : Fld := ⟨R.HRT_NBR_CMD, 30, 27⟩
abbrev HRT_NBR_CMD_TL : Fld := ⟨R.HRT_NBR_CMD, 16, 16⟩
abbrev HRT_NBR_CMD_INDEX : Fld := ⟨R.HRT_NBR_CMD, 9, 0⟩
abbrev HRT_NBR_SHORT_SV : Fld := ⟨R.HRT_NBR_SHORT, 16, 16⟩
abbrev HRT_NBR_SHORT_SHORT : Fld := ⟨R.HRT_NBR_SHORT, 15, 0⟩
abbrev HRT_NBR_RES_INDEX : Fld := ⟨R.HRT_NBR_RES, 9, 0⟩
abbrev HRT_NBR_USE_ENT : Fld := ⟨R.HRT_NBR_USE, 26, 16⟩
abbrev HRT_NBR_USE_SCAM : Fld := ⟨R.HRT_NBR_USE, 13, 8⟩
abbrev HRT_NBR_USE_XCAM : Fld := ⟨R.HRT_NBR_USE, 5, 0⟩
abbrev HRT_CHILD_USE_CNT : Fld := ⟨R.HRT_CHILD_USE, 9, 0⟩
abbrev HRT_NBR_FULL_FULL : Fld := ⟨R.HRT_NBR_FULL, 31, 16⟩
abbrev HRT_NBR_FULL_BCN : Fld := ⟨R.HRT_NBR_FULL, 15, 0⟩
abbrev HRT_TS_A_VALID : Fld := ⟨R.HRT_TS_A, 31, 31⟩
abbrev HRT_TS_A_METRIC : Fld := ⟨R.HRT_TS_A, 23, 16⟩
abbrev HRT_TS_A_IDX : Fld := ⟨R.HRT_TS_A, 9, 0⟩
abbrev HRT_TS_B_VALID : Fld := ⟨R.HRT_TS_B, 31, 31⟩
abbrev HRT_TS_B_METRIC : Fld := ⟨R.HRT_TS_B, 23, 16⟩
abbrev HRT_TS_B_IDX : Fld := ⟨R.HRT_TS_B, 9, 0⟩
abbrev HRT_FILT_CNT_HI : Fld := ⟨R.HRT_FILT_CNT, 31, 16⟩
abbrev HRT_FILT_CNT_LO : Fld := ⟨R.HRT_FILT_CNT, 15, 0⟩
abbrev HRT_ADM_ADM_MODE : Fld := ⟨R.HRT_ADM, 31, 30⟩
abbrev HRT_ADM_CHILD_AUTO : Fld := ⟨R.HRT_ADM, 29, 29⟩
abbrev HRT_ADM_ROOT : Fld := ⟨R.HRT_ADM, 28, 28⟩
abbrev HRT_ADM_DUP_MODE : Fld := ⟨R.HRT_ADM, 27, 27⟩
abbrev HRT_ADM_ADM_RATE : Fld := ⟨R.HRT_ADM, 23, 16⟩
abbrev HRT_ADM_NBR_AGE : Fld := ⟨R.HRT_ADM, 15, 0⟩
abbrev HRT_ADM_RSSI_ADM_RSSI_B : Fld := ⟨R.HRT_ADM_RSSI, 15, 8⟩
abbrev HRT_ADM_RSSI_ADM_RSSI_A : Fld := ⟨R.HRT_ADM_RSSI, 7, 0⟩
abbrev RFA_STAT_STATE : Fld := ⟨R.RFA_STAT, 31, 28⟩
abbrev RFA_STAT_CLKFAIL : Fld := ⟨R.RFA_STAT, 24, 24⟩
abbrev RFA_STAT_LOCK : Fld := ⟨R.RFA_STAT, 23, 23⟩
abbrev RFA_STAT_PATH : Fld := ⟨R.RFA_STAT, 22, 22⟩
abbrev RFA_STAT_CAP20 : Fld := ⟨R.RFA_STAT, 21, 21⟩
abbrev RFA_STAT_PADIS : Fld := ⟨R.RFA_STAT, 20, 20⟩
abbrev RFA_STAT_COMP_OFF : Fld := ⟨R.RFA_STAT, 19, 19⟩
abbrev RFA_STAT_CALBUSY : Fld := ⟨R.RFA_STAT, 18, 18⟩
abbrev RFA_STAT_CH : Fld := ⟨R.RFA_STAT, 15, 8⟩
abbrev RFA_STAT_PHY : Fld := ⟨R.RFA_STAT, 7, 0⟩
abbrev RFA_EVT_CAP : Fld := ⟨R.RFA_EVT, 6, 6⟩
abbrev RFA_EVT_CLK_OK : Fld := ⟨R.RFA_EVT, 5, 5⟩
abbrev RFA_EVT_CLK_FAIL : Fld := ⟨R.RFA_EVT, 4, 4⟩
abbrev RFA_EVT_PA_DIS : Fld := ⟨R.RFA_EVT, 3, 3⟩
abbrev RFA_EVT_CAL_FAIL : Fld := ⟨R.RFA_EVT, 2, 2⟩
abbrev RFA_EVT_CAL_DONE : Fld := ⟨R.RFA_EVT, 0, 0⟩
abbrev RFA_TEMP_PA : Fld := ⟨R.RFA_TEMP, 31, 16⟩
abbrev RFA_TEMP_DIE : Fld := ⟨R.RFA_TEMP, 15, 0⟩
abbrev RFA_SUPPLY_VSYS : Fld := ⟨R.RFA_SUPPLY, 31, 16⟩
abbrev RFA_SUPPLY_VKEEP : Fld := ⟨R.RFA_SUPPLY, 15, 0⟩
abbrev RFA_RSSI_RSSI : Fld := ⟨R.RFA_RSSI, 7, 0⟩
abbrev RFA_LASTTX_REQ : Fld := ⟨R.RFA_LASTTX, 31, 24⟩
abbrev RFA_LASTTX_PWR : Fld := ⟨R.RFA_LASTTX, 23, 16⟩
abbrev RFA_LASTTX_COR : Fld := ⟨R.RFA_LASTTX, 15, 8⟩
abbrev RFA_LASTTX_PATH : Fld := ⟨R.RFA_LASTTX, 0, 0⟩
abbrev RFA_CALi_VALID (i : Nat) : Fld := ⟨R.RFA_CALi i, 31, 31⟩
abbrev RFA_CALi_STALE (i : Nat) : Fld := ⟨R.RFA_CALi i, 30, 30⟩
abbrev RFA_CALi_FAILS (i : Nat) : Fld := ⟨R.RFA_CALi i, 29, 24⟩
abbrev RFA_CALi_TEMP (i : Nat) : Fld := ⟨R.RFA_CALi i, 23, 16⟩
abbrev RFA_CALi_AGE (i : Nat) : Fld := ⟨R.RFA_CALi i, 15, 0⟩
abbrev RFA_BAND_CH0 : Fld := ⟨R.RFA_BAND, 31, 12⟩
abbrev RFA_BAND_SPACING : Fld := ⟨R.RFA_BAND, 11, 0⟩
abbrev RFA_THERM_AMB : Fld := ⟨R.RFA_THERM, 31, 24⟩
abbrev RFA_THERM_COMP_EN : Fld := ⟨R.RFA_THERM, 16, 16⟩
abbrev RFA_THERM_THETA_JA : Fld := ⟨R.RFA_THERM, 15, 0⟩
abbrev RFA_CALPER_CAL_PERIOD : Fld := ⟨R.RFA_CALPER, 11, 0⟩
abbrev RFA_CCA_CNT_HI : Fld := ⟨R.RFA_CCA_CNT, 31, 16⟩
abbrev RFA_CCA_CNT_LO : Fld := ⟨R.RFA_CCA_CNT, 15, 0⟩
abbrev RFA_TEST_EN : Fld := ⟨R.RFA_TEST, 31, 31⟩
abbrev RFA_TEST_MODE : Fld := ⟨R.RFA_TEST, 29, 28⟩
abbrev RFA_TEST_PATH : Fld := ⟨R.RFA_TEST, 24, 24⟩
abbrev RFA_TEST_FREQ_FREQ : Fld := ⟨R.RFA_TEST_FREQ, 21, 0⟩
abbrev RFA_FBL_CFG_EN : Fld := ⟨R.RFA_FBL_CFG, 31, 31⟩
abbrev RFA_FBL_CFG_ACTIVE : Fld := ⟨R.RFA_FBL_CFG, 30, 30⟩
abbrev RFA_FBL_CFG_DRAIN : Fld := ⟨R.RFA_FBL_CFG, 29, 29⟩
abbrev RFA_FBL_CFG_FIRST : Fld := ⟨R.RFA_FBL_CFG, 23, 16⟩
abbrev RFA_FBL_CFG_NOUT : Fld := ⟨R.RFA_FBL_CFG, 7, 0⟩
abbrev RFA_FBL_WIN_WIN_CTR : Fld := ⟨R.RFA_FBL_WIN, 31, 12⟩
abbrev RFA_FBL_WIN_WIN_W : Fld := ⟨R.RFA_FBL_WIN, 11, 0⟩
abbrev RFA_FBL_LIM_MUTE_RUN : Fld := ⟨R.RFA_FBL_LIM, 23, 16⟩
abbrev RFA_FBL_UNITS_RMAX : Fld := ⟨R.RFA_FBL_UNITS, 29, 24⟩
abbrev RFA_FBL_UNITS_RSVD : Fld := ⟨R.RFA_FBL_UNITS, 21, 16⟩
abbrev RFA_FBL_UNITS_FIRST : Fld := ⟨R.RFA_FBL_UNITS, 13, 8⟩
abbrev RFA_FBL_UNITS_FREE : Fld := ⟨R.RFA_FBL_UNITS, 5, 0⟩
abbrev RFA_FBL_TOCNT_HI : Fld := ⟨R.RFA_FBL_TOCNT, 31, 16⟩
abbrev RFA_FBL_TOCNT_LO : Fld := ⟨R.RFA_FBL_TOCNT, 15, 0⟩
abbrev RFA_FBL_NOUNIT_HI : Fld := ⟨R.RFA_FBL_NOUNIT, 31, 16⟩
abbrev RFA_FBL_NOUNIT_LO : Fld := ⟨R.RFA_FBL_NOUNIT, 15, 0⟩
abbrev RFA_FBL_SHORT_HI : Fld := ⟨R.RFA_FBL_SHORT, 31, 16⟩
abbrev RFA_FBL_SHORT_LO : Fld := ⟨R.RFA_FBL_SHORT, 15, 0⟩
abbrev RFA_FBL_ACKHELD_HI : Fld := ⟨R.RFA_FBL_ACKHELD, 31, 16⟩
abbrev RFA_FBL_ACKHELD_LO : Fld := ⟨R.RFA_FBL_ACKHELD, 15, 0⟩
abbrev RFA_FBL_GAIN_STEPS : Fld := ⟨R.RFA_FBL_GAIN, 31, 16⟩
abbrev RFA_FBL_GAIN_GAIN : Fld := ⟨R.RFA_FBL_GAIN, 7, 0⟩
abbrev RFA_FBL_UNITu_STATE (u : Nat) : Fld := ⟨R.RFA_FBL_UNITu u, 31, 30⟩
abbrev RFA_FBL_UNITu_RSV (u : Nat) : Fld := ⟨R.RFA_FBL_UNITu u, 29, 29⟩
abbrev RFA_FBL_UNITu_LOW (u : Nat) : Fld := ⟨R.RFA_FBL_UNITu u, 28, 24⟩
abbrev RFA_FBL_UNITu_OUT (u : Nat) : Fld := ⟨R.RFA_FBL_UNITu u, 23, 16⟩
abbrev RFA_FBL_UNITu_PHY (u : Nat) : Fld := ⟨R.RFA_FBL_UNITu u, 15, 8⟩
abbrev RFA_FBL_OUTc_EN (c : Nat) : Fld := ⟨R.RFA_FBL_OUTc c, 31, 31⟩
abbrev RFA_FBL_OUTc_MUTED (c : Nat) : Fld := ⟨R.RFA_FBL_OUTc c, 30, 30⟩
abbrev RFA_FBL_OUTc_BUSY (c : Nat) : Fld := ⟨R.RFA_FBL_OUTc c, 29, 29⟩
abbrev VLT_PGn_SLOTs_VALID (n : Nat) (s : Nat) : Fld := ⟨R.VLT_PGn_SLOTs n s, 31, 31⟩
abbrev VLT_PGn_SLOTs_SIZE (n : Nat) (s : Nat) : Fld := ⟨R.VLT_PGn_SLOTs n s, 30, 30⟩
abbrev VLT_PGn_SLOTs_ERR (n : Nat) (s : Nat) : Fld := ⟨R.VLT_PGn_SLOTs n s, 27, 24⟩
abbrev VLT_PGn_SLOTs_USE (n : Nat) (s : Nat) : Fld := ⟨R.VLT_PGn_SLOTs n s, 17, 16⟩
abbrev VLT_PGn_SLOTs_KEYIDX (n : Nat) (s : Nat) : Fld := ⟨R.VLT_PGn_SLOTs n s, 15, 8⟩
abbrev VLT_PGn_SLOTs_MASK (n : Nat) (s : Nat) : Fld := ⟨R.VLT_PGn_SLOTs n s, 7, 0⟩
abbrev VLT_PGn_OWN_OWNER (n : Nat) : Fld := ⟨R.VLT_PGn_OWN n, 2, 0⟩
abbrev VLT_CMD_OP : Fld := ⟨R.VLT_CMD, 28, 24⟩
abbrev VLT_CMD_PURPOSE : Fld := ⟨R.VLT_CMD, 21, 20⟩
abbrev VLT_CMD_PAGE : Fld := ⟨R.VLT_CMD, 18, 16⟩
abbrev VLT_CMD_SLOT : Fld := ⟨R.VLT_CMD, 14, 12⟩
abbrev VLT_CMD_LEN_LEN : Fld := ⟨R.VLT_CMD_LEN, 12, 0⟩
abbrev VLT_ALARM_CFG_TAMPER_EN : Fld := ⟨R.VLT_ALARM_CFG, 0, 0⟩
abbrev VLT_PK_CTLc_HASHMSG (c : Nat) : Fld := ⟨R.VLT_PK_CTLc c, 0, 0⟩
abbrev VLT_PK_PROGc_HI (c : Nat) : Fld := ⟨R.VLT_PK_PROGc c, 31, 16⟩
abbrev VLT_PK_PROGc_LO (c : Nat) : Fld := ⟨R.VLT_PK_PROGc c, 15, 0⟩
abbrev VLT_TRNG_STAT_READY : Fld := ⟨R.VLT_TRNG_STAT, 31, 31⟩
abbrev VLT_TRNG_STAT_FAIL : Fld := ⟨R.VLT_TRNG_STAT, 30, 30⟩
abbrev VLT_TRNG_STAT_WORDS : Fld := ⟨R.VLT_TRNG_STAT, 3, 0⟩
abbrev LCE_JOB_CTL_OP : Fld := ⟨R.LCE_JOB_CTL, 29, 28⟩
abbrev LCE_JOB_CTL_PAGE : Fld := ⟨R.LCE_JOB_CTL, 26, 24⟩
abbrev LCE_JOB_CTL_SLOT : Fld := ⟨R.LCE_JOB_CTL, 18, 16⟩
abbrev LCE_JOB_LEN_LEN : Fld := ⟨R.LCE_JOB_LEN, 15, 0⟩
abbrev LCE_CTR_STALL_ACK : Fld := ⟨R.LCE_CTR_STALL, 31, 16⟩
abbrev LCE_CTR_STALL_CELL : Fld := ⟨R.LCE_CTR_STALL, 15, 0⟩
abbrev LCE_RSV_STAT_AREA_LOST : Fld := ⟨R.LCE_RSV_STAT, 31, 31⟩
abbrev LCE_RSV_STAT_PENDING : Fld := ⟨R.LCE_RSV_STAT, 30, 30⟩
abbrev LCE_RSV_STAT_FAILED : Fld := ⟨R.LCE_RSV_STAT, 29, 29⟩
abbrev LCE_RSV_STAT_BLOCK : Fld := ⟨R.LCE_RSV_STAT, 24, 24⟩
abbrev LCE_RSV_STAT_PAGE : Fld := ⟨R.LCE_RSV_STAT, 23, 16⟩
abbrev LCE_RSV_STAT_RECS : Fld := ⟨R.LCE_RSV_STAT, 15, 0⟩
abbrev LCS_STATE_OWNER_SET : Fld := ⟨R.LCS_STATE, 10, 10⟩
abbrev LCS_STATE_STATE : Fld := ⟨R.LCS_STATE, 2, 0⟩
abbrev LCS_DBG_CHAL_VALID : Fld := ⟨R.LCS_DBG, 1, 1⟩
abbrev LCS_DBG_OPEN : Fld := ⟨R.LCS_DBG, 0, 0⟩
abbrev LCS_CMD_OP : Fld := ⟨R.LCS_CMD, 27, 24⟩
abbrev LCS_CMD_RES_STATE : Fld := ⟨R.LCS_CMD_RES, 31, 30⟩
abbrev LCS_CMD_RES_CODE : Fld := ⟨R.LCS_CMD_RES, 27, 24⟩
abbrev FLU_SUM_MISS : Fld := ⟨R.FLU_SUM, 2, 2⟩
abbrev FLU_SUM_MERGE : Fld := ⟨R.FLU_SUM, 1, 1⟩
abbrev FLU_SUM_LOOP : Fld := ⟨R.FLU_SUM, 0, 0⟩
abbrev FLU_CHc_CFG_EN (c : Nat) : Fld := ⟨R.FLU_CHc_CFG c, 31, 31⟩
abbrev FLU_CHc_CFG_WAKE (c : Nat) : Fld := ⟨R.FLU_CHc_CFG c, 30, 30⟩
abbrev FLU_CHc_CFG_LOCK (c : Nat) : Fld := ⟨R.FLU_CHc_CFG c, 29, 29⟩
abbrev FLU_CHc_CFG_OWNER (c : Nat) : Fld := ⟨R.FLU_CHc_CFG c, 26, 24⟩
abbrev FLU_CHc_CFG_SEC (c : Nat) : Fld := ⟨R.FLU_CHc_CFG c, 20, 20⟩
abbrev FLU_CHc_CFG_EVENT (c : Nat) : Fld := ⟨R.FLU_CHc_CFG c, 7, 0⟩
abbrev FLU_CHc_STAT_DENIED (c : Nat) : Fld := ⟨R.FLU_CHc_STAT c, 31, 24⟩
abbrev FLU_CHc_STAT_DROPPED (c : Nat) : Fld := ⟨R.FLU_CHc_STAT c, 23, 16⟩
abbrev FLU_CHc_STAT_HOP (c : Nat) : Fld := ⟨R.FLU_CHc_STAT c, 10, 8⟩
abbrev FLU_CHc_STAT_WERR (c : Nat) : Fld := ⟨R.FLU_CHc_STAT c, 1, 1⟩
abbrev FLU_TKt_STAT_MERGE (t : Nat) : Fld := ⟨R.FLU_TKt_STAT t, 8, 8⟩
abbrev FLU_TKt_STAT_MISSED (t : Nat) : Fld := ⟨R.FLU_TKt_STAT t, 7, 0⟩
abbrev PWR_CORE_A_MODE : Fld := ⟨R.PWR_CORE_A, 1, 0⟩
abbrev PWR_CORE_B_MODE : Fld := ⟨R.PWR_CORE_B, 1, 0⟩
abbrev PWR_CFG_DIM_HOLD : Fld := ⟨R.PWR_CFG, 1, 1⟩
abbrev PWR_CFG_PAD_AUTO : Fld := ⟨R.PWR_CFG, 0, 0⟩
abbrev PWR_BUDGET_LIMIT : Fld := ⟨R.PWR_BUDGET, 10, 0⟩
abbrev PWR_ENTRY_RES_SUM : Fld := ⟨R.PWR_ENTRY_RES, 11, 0⟩
abbrev PWR_WAKE_SRC_CINDER : Fld := ⟨R.PWR_WAKE_SRC, 16, 16⟩
abbrev PWR_EVT_ERR : Fld := ⟨R.PWR_EVT, 4, 4⟩
abbrev PWR_EVT_WAKEFAIL : Fld := ⟨R.PWR_EVT, 3, 3⟩
abbrev PWR_EVT_BUDGET : Fld := ⟨R.PWR_EVT, 2, 2⟩
abbrev PWR_EVT_PFW : Fld := ⟨R.PWR_EVT, 1, 1⟩
abbrev PWR_EVT_ABANDON : Fld := ⟨R.PWR_EVT, 0, 0⟩
abbrev CLK_STAT_XO_RDY : Fld := ⟨R.CLK_STAT, 31, 31⟩
abbrev CLK_STAT_XO_FAIL : Fld := ⟨R.CLK_STAT, 30, 30⟩
abbrev CLK_STAT_PLL_LOCK : Fld := ⟨R.CLK_STAT, 29, 29⟩
abbrev CLK_STAT_X32_RDY : Fld := ⟨R.CLK_STAT, 28, 28⟩
abbrev CLK_STAT_X32_FAIL : Fld := ⟨R.CLK_STAT, 27, 27⟩
abbrev CLK_STAT_FRC_RDY : Fld := ⟨R.CLK_STAT, 26, 26⟩
abbrev CLK_STAT_PERF_BUSY : Fld := ⟨R.CLK_STAT, 25, 25⟩
abbrev CLK_STAT_CORE_SRC : Fld := ⟨R.CLK_STAT, 9, 8⟩
abbrev CLK_STAT_LEVEL : Fld := ⟨R.CLK_STAT, 0, 0⟩
abbrev CLK_SEL_PLL_REQ : Fld := ⟨R.CLK_SEL, 8, 8⟩
abbrev CLK_EVT_ERR : Fld := ⟨R.CLK_EVT, 4, 4⟩
abbrev CLK_EVT_X32_OK : Fld := ⟨R.CLK_EVT, 3, 3⟩
abbrev CLK_EVT_X32_FAIL : Fld := ⟨R.CLK_EVT, 2, 2⟩
abbrev CLK_EVT_XO_OK : Fld := ⟨R.CLK_EVT, 1, 1⟩
abbrev CLK_EVT_XO_FAIL : Fld := ⟨R.CLK_EVT, 0, 0⟩
abbrev EMB_REG31_T0 : Fld := ⟨R.EMB_REG31, 31, 16⟩
abbrev EMB_REG31_ST0 : Fld := ⟨R.EMB_REG31, 15, 0⟩
abbrev RST_CAUSE_COUNT : Fld := ⟨R.RST_CAUSE, 31, 16⟩
abbrev RST_CAUSE_POR_SRC : Fld := ⟨R.RST_CAUSE, 9, 9⟩
abbrev RST_CAUSE_CAUSE : Fld := ⟨R.RST_CAUSE, 4, 0⟩
abbrev RST_HRT_CNT : Fld := ⟨R.RST_HRT, 31, 16⟩
abbrev RST_HRT_B0 : Fld := ⟨R.RST_HRT, 0, 0⟩
abbrev RST_DEFER_US : Fld := ⟨R.RST_DEFER, 9, 0⟩
abbrev RST_EVT_ERR : Fld := ⟨R.RST_EVT, 0, 0⟩
abbrev KND_STAT_DONE : Fld := ⟨R.KND_STAT, 31, 31⟩
abbrev KND_STAT_OPTFAIL : Fld := ⟨R.KND_STAT, 30, 30⟩
abbrev KND_STAT_TRIM_BAD : Fld := ⟨R.KND_STAT, 29, 29⟩
abbrev KND_STAT_SLOW : Fld := ⟨R.KND_STAT, 28, 28⟩
abbrev KND_STAT_NO0 : Fld := ⟨R.KND_STAT, 27, 27⟩
abbrev KND_STAT_NO1 : Fld := ⟨R.KND_STAT, 26, 26⟩
abbrev KND_STAT_SECT : Fld := ⟨R.KND_STAT, 25, 25⟩
abbrev KND_STAT_TRIM : Fld := ⟨R.KND_STAT, 24, 24⟩
abbrev KND_STAT_RESTARTS : Fld := ⟨R.KND_STAT, 23, 16⟩
abbrev KND_BOOT_TWIN : Fld := ⟨R.KND_BOOT, 1, 1⟩
abbrev KND_BOOT_CORE : Fld := ⟨R.KND_BOOT, 0, 0⟩
abbrev KND_TIME_US : Fld := ⟨R.KND_TIME, 15, 0⟩
abbrev FLC_STAT_READY : Fld := ⟨R.FLC_STAT, 27, 27⟩
abbrev FLC_EVT_JRN_LOST : Fld := ⟨R.FLC_EVT, 6, 6⟩
abbrev FLC_EVT_PAUSE_EXP : Fld := ⟨R.FLC_EVT, 5, 5⟩
abbrev FLC_EVT_ECC : Fld := ⟨R.FLC_EVT, 4, 4⟩
abbrev FLC_EVT_SUSPECT_HIT : Fld := ⟨R.FLC_EVT, 3, 3⟩
abbrev FLC_EVT_SUSPECT_FOUND : Fld := ⟨R.FLC_EVT, 2, 2⟩
abbrev FLC_EVT_REFUSED : Fld := ⟨R.FLC_EVT, 1, 1⟩
abbrev FLC_ECC_CNT_UNC : Fld := ⟨R.FLC_ECC_CNT, 31, 16⟩
abbrev FLC_ECC_CNT_COR : Fld := ⟨R.FLC_ECC_CNT, 15, 0⟩
abbrev FLC_PROT_LOCK : Fld := ⟨R.FLC_PROT, 31, 31⟩
abbrev FLC_PROT_NONE : Fld := ⟨R.FLC_PROT, 30, 30⟩
abbrev FLC_PROT_UNIT : Fld := ⟨R.FLC_PROT, 0, 0⟩
abbrev FLC_CMDs_OP (s : Nat) : Fld := ⟨R.FLC_CMDs s, 27, 24⟩
abbrev FLC_RESs_STATE (s : Nat) : Fld := ⟨R.FLC_RESs s, 31, 30⟩
abbrev FLC_RESs_CODE (s : Nat) : Fld := ⟨R.FLC_RESs s, 27, 24⟩
abbrev FLC_RESs_WERR (s : Nat) : Fld := ⟨R.FLC_RESs s, 16, 16⟩
abbrev FLC_RESs_STEPS (s : Nat) : Fld := ⟨R.FLC_RESs s, 15, 0⟩
abbrev UPD_STAT_STATE : Fld := ⟨R.UPD_STAT, 31, 28⟩
abbrev UPD_STAT_KIND : Fld := ⟨R.UPD_STAT, 27, 27⟩
abbrev UPD_STAT_TARGET : Fld := ⟨R.UPD_STAT, 26, 26⟩
abbrev UPD_STAT_IDLE_CORE : Fld := ⟨R.UPD_STAT, 25, 25⟩
abbrev UPD_STAT_OWNER_LOCK : Fld := ⟨R.UPD_STAT, 24, 24⟩
abbrev UPD_STAT_COMMIT_WAIT : Fld := ⟨R.UPD_STAT, 21, 21⟩
abbrev UPD_STAT_FROZEN : Fld := ⟨R.UPD_STAT, 20, 20⟩
abbrev UPD_EVT_ASK : Fld := ⟨R.UPD_EVT, 7, 7⟩
abbrev UPD_EVT_EXPORTED : Fld := ⟨R.UPD_EVT, 6, 6⟩
abbrev UPD_EVT_SWAPPED : Fld := ⟨R.UPD_EVT, 5, 5⟩
abbrev UPD_EVT_DECLINED : Fld := ⟨R.UPD_EVT, 4, 4⟩
abbrev UPD_EVT_ROLLED_BACK : Fld := ⟨R.UPD_EVT, 3, 3⟩
abbrev UPD_EVT_COMMITTED : Fld := ⟨R.UPD_EVT, 2, 2⟩
abbrev UPD_EVT_CFG_APPLIED : Fld := ⟨R.UPD_EVT, 1, 1⟩
abbrev UPD_EVT_DONE : Fld := ⟨R.UPD_EVT, 0, 0⟩
abbrev UPD_CMD_OP : Fld := ⟨R.UPD_CMD, 27, 24⟩
abbrev UPD_CMD_KIND : Fld := ⟨R.UPD_CMD, 16, 16⟩
abbrev UPD_OFF_OFF : Fld := ⟨R.UPD_OFF, 19, 0⟩
abbrev UPD_LEN_LEN : Fld := ⟨R.UPD_LEN, 12, 0⟩
abbrev UPD_RES_WERR : Fld := ⟨R.UPD_RES, 16, 16⟩
abbrev UPD_NEXT_NEXT : Fld := ⟨R.UPD_NEXT, 19, 0⟩
abbrev UPD_BOOTFAIL_ALIVE : Fld := ⟨R.UPD_BOOTFAIL, 8, 8⟩
abbrev UPD_BOOTFAIL_COUNT : Fld := ⟨R.UPD_BOOTFAIL, 7, 0⟩
abbrev UPD_CFG_KEY_PAGE : Fld := ⟨R.UPD_CFG_KEY, 18, 16⟩
abbrev UPD_CFG_KEY_SLOT : Fld := ⟨R.UPD_CFG_KEY, 14, 12⟩
abbrev ASH_STAT_READY : Fld := ⟨R.ASH_STAT, 31, 31⟩
abbrev ASH_STAT_FLUSHING : Fld := ⟨R.ASH_STAT, 30, 30⟩
abbrev ASH_STAT_RECLAIM : Fld := ⟨R.ASH_STAT, 29, 29⟩
abbrev ASH_STAT_CLEARING : Fld := ⟨R.ASH_STAT, 28, 28⟩
abbrev ASH_STAT_BLOCK : Fld := ⟨R.ASH_STAT, 25, 24⟩
abbrev ASH_EVT_WERR : Fld := ⟨R.ASH_EVT, 4, 4⟩
abbrev ASH_EVT_LOST : Fld := ⟨R.ASH_EVT, 3, 3⟩
abbrev ASH_EVT_CLEARED : Fld := ⟨R.ASH_EVT, 2, 2⟩
abbrev ASH_EVT_RECLAIMED : Fld := ⟨R.ASH_EVT, 1, 1⟩
abbrev ASH_EVT_FLUSHED : Fld := ⟨R.ASH_EVT, 0, 0⟩
abbrev ASH_LOST_CNT_RATE : Fld := ⟨R.ASH_LOST_CNT, 31, 16⟩
abbrev ASH_LOST_CNT_FULL : Fld := ⟨R.ASH_LOST_CNT, 15, 0⟩
abbrev ASH_RD_STAT_RESULT : Fld := ⟨R.ASH_RD_STAT, 27, 24⟩
abbrev ASH_CLR_RES_STATE : Fld := ⟨R.ASH_CLR_RES, 31, 30⟩
abbrev ASH_CLR_RES_CODE : Fld := ⟨R.ASH_CLR_RES, 27, 24⟩
abbrev HST_STAT_EN : Fld := ⟨R.HST_STAT, 31, 31⟩
abbrev HST_STAT_MODE : Fld := ⟨R.HST_STAT, 30, 30⟩
abbrev HST_STAT_READY : Fld := ⟨R.HST_STAT, 29, 29⟩
abbrev HST_STAT_SEQ : Fld := ⟨R.HST_STAT, 15, 8⟩
abbrev HST_STAT_NSEQ : Fld := ⟨R.HST_STAT, 7, 0⟩
abbrev HST_CFG_FLOW : Fld := ⟨R.HST_CFG, 0, 0⟩
abbrev HST_ERR_CNT_HDR : Fld := ⟨R.HST_ERR_CNT, 31, 24⟩
abbrev HST_ERR_CNT_PCRC : Fld := ⟨R.HST_ERR_CNT, 23, 16⟩
abbrev HST_ERR_CNT_OVSZ : Fld := ⟨R.HST_ERR_CNT, 15, 8⟩
abbrev HST_ERR_CNT_OVRN : Fld := ⟨R.HST_ERR_CNT, 7, 0⟩
abbrev HST_OWN_OWNER : Fld := ⟨R.HST_OWN, 2, 0⟩
abbrev SVC_STAT_SESSION : Fld := ⟨R.SVC_STAT, 31, 30⟩
abbrev SVC_EVT_TAG_FAIL : Fld := ⟨R.SVC_EVT, 3, 3⟩
abbrev SVC_EVT_AUTH_FAIL : Fld := ⟨R.SVC_EVT, 2, 2⟩
abbrev SVC_EVT_CLOSED : Fld := ⟨R.SVC_EVT, 1, 1⟩
abbrev SVC_EVT_OPENED : Fld := ⟨R.SVC_EVT, 0, 0⟩
abbrev SVC_AUTH_CNT_OK : Fld := ⟨R.SVC_AUTH_CNT, 31, 16⟩
abbrev SVC_AUTH_CNT_FAIL : Fld := ⟨R.SVC_AUTH_CNT, 15, 0⟩
abbrev LUM_STAT_BUS_UP : Fld := ⟨R.LUM_STAT, 31, 31⟩
abbrev LUM_STAT_RLY_B : Fld := ⟨R.LUM_STAT, 17, 17⟩
abbrev LUM_STAT_RLY_A : Fld := ⟨R.LUM_STAT, 16, 16⟩
abbrev LUM_STAT_PULSE_B : Fld := ⟨R.LUM_STAT, 15, 15⟩
abbrev LUM_STAT_PULSE_A : Fld := ⟨R.LUM_STAT, 14, 14⟩
abbrev LUM_STAT_DIM : Fld := ⟨R.LUM_STAT, 11, 0⟩
abbrev LUM_EVT_WERR : Fld := ⟨R.LUM_EVT, 8, 8⟩
abbrev LUM_EVT_DIM_FAULT : Fld := ⟨R.LUM_EVT, 7, 7⟩
abbrev LUM_EVT_RLY_B_FAULT : Fld := ⟨R.LUM_EVT, 6, 6⟩
abbrev LUM_EVT_RLY_A_FAULT : Fld := ⟨R.LUM_EVT, 5, 5⟩
abbrev LUM_EVT_BUS_DOWN : Fld := ⟨R.LUM_EVT, 4, 4⟩
abbrev LUM_EVT_RX_OVF : Fld := ⟨R.LUM_EVT, 2, 2⟩
abbrev LUM_EVT_DALI_TXDONE : Fld := ⟨R.LUM_EVT, 1, 1⟩
abbrev LUM_EVT_DALI_RX : Fld := ⟨R.LUM_EVT, 0, 0⟩
abbrev LUM_DALI_CFG_EN : Fld := ⟨R.LUM_DALI_CFG, 31, 31⟩
abbrev LUM_DALI_CFG_PRIO : Fld := ⟨R.LUM_DALI_CFG, 26, 24⟩
abbrev LUM_DALI_RES_STATE : Fld := ⟨R.LUM_DALI_RES, 31, 30⟩
abbrev LUM_DALI_RES_CODE : Fld := ⟨R.LUM_DALI_RES, 27, 24⟩
abbrev LUM_DALI_RES_BACK : Fld := ⟨R.LUM_DALI_RES, 7, 0⟩
abbrev LUM_DALI_CNT_COLL : Fld := ⟨R.LUM_DALI_CNT, 31, 24⟩
abbrev LUM_DALI_CNT_OVF : Fld := ⟨R.LUM_DALI_CNT, 23, 16⟩
abbrev LUM_DALI_CNT_DOWN : Fld := ⟨R.LUM_DALI_CNT, 15, 8⟩
abbrev LUM_DALI_CNT_FRM : Fld := ⟨R.LUM_DALI_CNT, 7, 0⟩
abbrev LUM_DIM_STG_RAMP : Fld := ⟨R.LUM_DIM_STG, 23, 16⟩
abbrev LUM_DIM_STG_LEVEL : Fld := ⟨R.LUM_DIM_STG, 11, 0⟩
abbrev LUM_DIM_CTL_EN : Fld := ⟨R.LUM_DIM_CTL, 31, 31⟩
abbrev LUM_DIM_ACT_RAMPING : Fld := ⟨R.LUM_DIM_ACT, 31, 31⟩
abbrev LUM_DIM_ACT_TARGET : Fld := ⟨R.LUM_DIM_ACT, 27, 16⟩
abbrev LUM_DIM_ACT_LEVEL : Fld := ⟨R.LUM_DIM_ACT, 11, 0⟩
abbrev LUM_RLY_CFG_PAIR : Fld := ⟨R.LUM_RLY_CFG, 31, 31⟩
abbrev LUM_RLY_CFG_B_MODE : Fld := ⟨R.LUM_RLY_CFG, 1, 1⟩
abbrev LUM_RLY_CFG_A_MODE : Fld := ⟨R.LUM_RLY_CFG, 0, 0⟩
abbrev LUM_RLY_CTL_B_ON : Fld := ⟨R.LUM_RLY_CTL, 17, 17⟩
abbrev LUM_RLY_CTL_A_ON : Fld := ⟨R.LUM_RLY_CTL, 16, 16⟩
abbrev LUM_RLY_CNT_B : Fld := ⟨R.LUM_RLY_CNT, 31, 16⟩
abbrev LUM_RLY_CNT_A : Fld := ⟨R.LUM_RLY_CNT, 15, 0⟩
abbrev LUM_MOT_CFG_PIN_EN : Fld := ⟨R.LUM_MOT_CFG, 31, 31⟩
abbrev LUM_MOT_CFG_EDGE : Fld := ⟨R.LUM_MOT_CFG, 25, 24⟩
abbrev LUM_SAFE_RLY_A : Fld := ⟨R.LUM_SAFE, 31, 30⟩
abbrev LUM_SAFE_RLY_B : Fld := ⟨R.LUM_SAFE, 29, 28⟩
abbrev LUM_SAFE_DALI_EN : Fld := ⟨R.LUM_SAFE, 27, 27⟩
abbrev LUM_SAFE_DALI : Fld := ⟨R.LUM_SAFE, 23, 16⟩
abbrev LUM_SAFE_DIM : Fld := ⟨R.LUM_SAFE, 11, 0⟩
abbrev LUM_OWN_SEC : Fld := ⟨R.LUM_OWN, 4, 4⟩
abbrev LUM_OWN_OWNER : Fld := ⟨R.LUM_OWN, 2, 0⟩
abbrev MET_CFG_EN : Fld := ⟨R.MET_CFG, 31, 31⟩
abbrev MET_CFG_I2_EN : Fld := ⟨R.MET_CFG, 1, 1⟩
abbrev MET_STAT_LINE : Fld := ⟨R.MET_STAT, 31, 31⟩
abbrev MET_STAT_FREQ : Fld := ⟨R.MET_STAT, 15, 0⟩
abbrev MET_EVT_OVF : Fld := ⟨R.MET_EVT, 2, 2⟩
abbrev MET_EVT_ENERGY : Fld := ⟨R.MET_EVT, 1, 1⟩
abbrev MET_EVT_ZC : Fld := ⟨R.MET_EVT, 0, 0⟩
abbrev MET_OWN_SEC : Fld := ⟨R.MET_OWN, 4, 4⟩
abbrev MET_OWN_OWNER : Fld := ⟨R.MET_OWN, 2, 0⟩
abbrev SEn_CFG_EN (n : Nat) : Fld := ⟨R.SEn_CFG n, 31, 31⟩
abbrev SEn_CFG_MODE (n : Nat) : Fld := ⟨R.SEn_CFG n, 29, 28⟩
abbrev SEn_CFG_TXGATE (n : Nat) : Fld := ⟨R.SEn_CFG n, 8, 8⟩
abbrev SEn_STAT_BUSY (n : Nat) : Fld := ⟨R.SEn_STAT n, 31, 31⟩
abbrev SEn_STAT_RX (n : Nat) : Fld := ⟨R.SEn_STAT n, 20, 16⟩
abbrev SEn_STAT_TX (n : Nat) : Fld := ⟨R.SEn_STAT n, 12, 8⟩
abbrev SEn_EVT_WERR (n : Nat) : Fld := ⟨R.SEn_EVT n, 7, 7⟩
abbrev SEn_EVT_TXDONE (n : Nat) : Fld := ⟨R.SEn_EVT n, 6, 6⟩
abbrev SEn_EVT_RX (n : Nat) : Fld := ⟨R.SEn_EVT n, 5, 5⟩
abbrev SEn_EVT_NACK (n : Nat) : Fld := ⟨R.SEn_EVT n, 4, 4⟩
abbrev SEn_EVT_ARB (n : Nat) : Fld := ⟨R.SEn_EVT n, 3, 3⟩
abbrev SEn_EVT_PARITY (n : Nat) : Fld := ⟨R.SEn_EVT n, 2, 2⟩
abbrev SEn_EVT_FRAMING (n : Nat) : Fld := ⟨R.SEn_EVT n, 1, 1⟩
abbrev SEn_EVT_OVERRUN (n : Nat) : Fld := ⟨R.SEn_EVT n, 0, 0⟩
abbrev SEn_XFER_LEN (n : Nat) : Fld := ⟨R.SEn_XFER n, 15, 0⟩
abbrev SEn_XFER_WR (n : Nat) : Fld := ⟨R.SEn_XFER n, 15, 8⟩
abbrev SEn_XFER_RD (n : Nat) : Fld := ⟨R.SEn_XFER n, 7, 0⟩
abbrev SEn_THR_RX (n : Nat) : Fld := ⟨R.SEn_THR n, 12, 8⟩
abbrev SEn_THR_TX (n : Nat) : Fld := ⟨R.SEn_THR n, 4, 0⟩
abbrev SEn_OWN_SEC (n : Nat) : Fld := ⟨R.SEn_OWN n, 4, 4⟩
abbrev SEn_OWN_OWNER (n : Nat) : Fld := ⟨R.SEn_OWN n, 2, 0⟩
abbrev TMR_CFGt_EN (t : Nat) : Fld := ⟨R.TMR_CFGt t, 31, 31⟩
abbrev TMR_CFGt_PERIODIC (t : Nat) : Fld := ⟨R.TMR_CFGt t, 30, 30⟩
abbrev TMR_CFGt_SRC (t : Nat) : Fld := ⟨R.TMR_CFGt t, 29, 28⟩
abbrev TMR_CFGt_PRESCALE (t : Nat) : Fld := ⟨R.TMR_CFGt t, 27, 16⟩
abbrev TMR_CFGt_CMP1 (t : Nat) : Fld := ⟨R.TMR_CFGt t, 11, 10⟩
abbrev TMR_CFGt_CMP0 (t : Nat) : Fld := ⟨R.TMR_CFGt t, 9, 8⟩
abbrev TMR_CFGt_EDGE (t : Nat) : Fld := ⟨R.TMR_CFGt t, 5, 4⟩
abbrev TMR_EVTt_OVF (t : Nat) : Fld := ⟨R.TMR_EVTt t, 2, 2⟩
abbrev TMR_EVTt_CMP1 (t : Nat) : Fld := ⟨R.TMR_EVTt t, 1, 1⟩
abbrev TMR_EVTt_CMP0 (t : Nat) : Fld := ⟨R.TMR_EVTt t, 0, 0⟩
abbrev TMR_STATt_RUNNING (t : Nat) : Fld := ⟨R.TMR_STATt t, 0, 0⟩
abbrev TMR_OWN_SEC : Fld := ⟨R.TMR_OWN, 4, 4⟩
abbrev TMR_OWN_OWNER : Fld := ⟨R.TMR_OWN, 2, 0⟩
abbrev ADC_CFG_EN : Fld := ⟨R.ADC_CFG, 31, 31⟩
abbrev ADC_CFG_SEQ : Fld := ⟨R.ADC_CFG, 23, 16⟩
abbrev ADC_STAT_BUSY : Fld := ⟨R.ADC_STAT, 31, 31⟩
abbrev ADC_EVT_LIMIT : Fld := ⟨R.ADC_EVT, 1, 1⟩
abbrev ADC_EVT_DONE : Fld := ⟨R.ADC_EVT, 0, 0⟩
abbrev ADC_RESk_RES (k : Nat) : Fld := ⟨R.ADC_RESk k, 11, 0⟩
abbrev ADC_LIMk_HI (k : Nat) : Fld := ⟨R.ADC_LIMk k, 27, 16⟩
abbrev ADC_LIMk_LO (k : Nat) : Fld := ⟨R.ADC_LIMk k, 11, 0⟩
abbrev ADC_OWN_SEC : Fld := ⟨R.ADC_OWN, 4, 4⟩
abbrev ADC_OWN_OWNER : Fld := ⟨R.ADC_OWN, 2, 0⟩
abbrev SUP_STAT_VIN_UV : Fld := ⟨R.SUP_STAT, 31, 31⟩
abbrev SUP_STAT_PFW : Fld := ⟨R.SUP_STAT, 30, 30⟩
abbrev SUP_STAT_VSYS_OK : Fld := ⟨R.SUP_STAT, 29, 29⟩
abbrev SUP_STAT_SRC : Fld := ⟨R.SUP_STAT, 28, 28⟩
abbrev SUP_STAT_VREG_OK : Fld := ⟨R.SUP_STAT, 27, 27⟩
abbrev SUP_STAT_IOA_LOW : Fld := ⟨R.SUP_STAT, 26, 26⟩
abbrev SUP_STAT_IOB_LOW : Fld := ⟨R.SUP_STAT, 25, 25⟩
abbrev SUP_STAT_CHG : Fld := ⟨R.SUP_STAT, 18, 16⟩
abbrev SUP_STAT_NTC_OK : Fld := ⟨R.SUP_STAT, 8, 8⟩
abbrev SUP_EVT_WERR : Fld := ⟨R.SUP_EVT, 7, 7⟩
abbrev SUP_EVT_KEEP_LOW : Fld := ⟨R.SUP_EVT, 6, 6⟩
abbrev SUP_EVT_CHG_FAULT : Fld := ⟨R.SUP_EVT, 5, 5⟩
abbrev SUP_EVT_CHG_DONE : Fld := ⟨R.SUP_EVT, 4, 4⟩
abbrev SUP_EVT_CHG_PAUSE : Fld := ⟨R.SUP_EVT, 3, 3⟩
abbrev SUP_EVT_PFW_OFF : Fld := ⟨R.SUP_EVT, 2, 2⟩
abbrev SUP_EVT_VIN_DOWN : Fld := ⟨R.SUP_EVT, 1, 1⟩
abbrev SUP_EVT_VIN_UP : Fld := ⟨R.SUP_EVT, 0, 0⟩
abbrev SUP_PFW_THR_THR : Fld := ⟨R.SUP_PFW_THR, 9, 0⟩
abbrev SUP_KEEP_THR_THR : Fld := ⟨R.SUP_KEEP_THR, 15, 0⟩
abbrev SUP_IO_CFG_BOR_B_EN : Fld := ⟨R.SUP_IO_CFG, 1, 1⟩
abbrev SUP_IO_CFG_BOR_A_EN : Fld := ⟨R.SUP_IO_CFG, 0, 0⟩
abbrev SUP_CHG_STG_EN : Fld := ⟨R.SUP_CHG_STG, 31, 31⟩
abbrev SUP_CHG_STG_I_CC : Fld := ⟨R.SUP_CHG_STG, 19, 16⟩
abbrev SUP_CHG_STG_V_CV : Fld := ⟨R.SUP_CHG_STG, 5, 0⟩
abbrev SUP_CHG_ACT_EN : Fld := ⟨R.SUP_CHG_ACT, 31, 31⟩
abbrev SUP_CHG_ACT_NTC_EN : Fld := ⟨R.SUP_CHG_ACT, 25, 25⟩
abbrev SUP_CHG_ACT_TERM : Fld := ⟨R.SUP_CHG_ACT, 24, 24⟩
abbrev SUP_CHG_ACT_I_CC : Fld := ⟨R.SUP_CHG_ACT, 19, 16⟩
abbrev SUP_CHG_ACT_V_CV : Fld := ⟨R.SUP_CHG_ACT, 5, 0⟩
abbrev SUP_CHG_NTC_COLD : Fld := ⟨R.SUP_CHG_NTC, 23, 16⟩
abbrev SUP_CHG_NTC_HOT : Fld := ⟨R.SUP_CHG_NTC, 7, 0⟩
abbrev PAD_HOLD_LAMP : Fld := ⟨R.PAD_HOLD, 2, 2⟩
abbrev PAD_HOLD_BANK_B : Fld := ⟨R.PAD_HOLD, 1, 1⟩
abbrev PAD_HOLD_BANK_A : Fld := ⟨R.PAD_HOLD, 0, 0⟩
abbrev PAD_EVT_WERR : Fld := ⟨R.PAD_EVT, 0, 0⟩
abbrev PAD_TSKk_EN (k : Nat) : Fld := ⟨R.PAD_TSKk k, 31, 31⟩
abbrev PAD_TSKk_IO (k : Nat) : Fld := ⟨R.PAD_TSKk k, 5, 0⟩
abbrev PAD_CFGn_LOCK (n : Nat) : Fld := ⟨R.PAD_CFGn n, 31, 31⟩
abbrev PAD_CFGn_OWNER (n : Nat) : Fld := ⟨R.PAD_CFGn n, 26, 24⟩
abbrev PAD_CFGn_SEC (n : Nat) : Fld := ⟨R.PAD_CFGn n, 20, 20⟩
abbrev PAD_CFGn_IRQ (n : Nat) : Fld := ⟨R.PAD_CFGn n, 18, 18⟩
abbrev PAD_CFGn_IE (n : Nat) : Fld := ⟨R.PAD_CFGn n, 8, 8⟩
abbrev PAD_CFGn_FUNC (n : Nat) : Fld := ⟨R.PAD_CFGn n, 5, 4⟩
end F

def rowsPwr : List RegRow := [
  ⟨0x40000000, 1, 0x4, 0x0, 0x0, 0x0, 0x1⟩, -- PWR_ID
  ⟨0x40000004, 1, 0x4, 0x0, 0x0, 0x0, 0x0⟩, -- PWR_STAT
  ⟨0x40000008, 1, 0x4, 0x3, 0x0, 0x0, 0x0⟩, -- PWR_CORE_A
  ⟨0x4000000C, 1, 0x4, 0x3, 0x0, 0x0, 0x0⟩, -- PWR_CORE_B
  ⟨0x40000010, 1, 0x4, 0xFFFFFFFC, 0x0, 0x0, 0x0⟩, -- PWR_RESUME_A
  ⟨0x40000014, 1, 0x4, 0xFFFFFFFC, 0x0, 0x0, 0x0⟩, -- PWR_RESUME_B
  ⟨0x40000018, 1, 0x4, 0xFFF, 0x0, 0x0, 0x1⟩, -- PWR_RET
  ⟨0x4000001C, 1, 0x4, 0x3, 0x0, 0x0, 0x1⟩, -- PWR_CFG
  ⟨0x40000020, 1, 0x4, 0x7FF, 0x0, 0x0, 0x640⟩, -- PWR_BUDGET
  ⟨0x40000024, 1, 0x4, 0x0, 0x0, 0x0, 0x0⟩, -- PWR_ENTRY_RES
  ⟨0x40000028, 1, 0x4, 0xFF, 0x0, 0x0, 0x43⟩, -- PWR_WAKE_EN
  ⟨0x4000002C, 1, 0x4, 0x0, 0x307FF, 0x0, 0x0⟩, -- PWR_WAKE_SRC
  ⟨0x40000030, 1, 0x4, 0xFFFFF, 0x0, 0x0, 0x0⟩, -- PWR_WAKE_PIN
  ⟨0x40000034, 1, 0x4, 0x0, 0x0, 0x0, 0x0⟩, -- PWR_CLASS0
  ⟨0x40000038, 1, 0x4, 0x0, 0x0, 0x0, 0x0⟩, -- PWR_CLASS1
  ⟨0x4000003C, 1, 0x4, 0x0, 0x1F, 0x0, 0x0⟩, -- PWR_EVT
  ⟨0x40000040, 1, 0x4, 0x1F, 0x0, 0x0, 0x0⟩, -- PWR_EVT_EN
  ⟨0x40000044, 1, 0x4, 0x0, 0x0, 0x0, 0x0⟩] -- PWR_WFAIL

def rowsRst : List RegRow := [
  ⟨0x40001000, 1, 0x4, 0x0, 0x0, 0x0, 0x1⟩, -- RST_ID
  ⟨0x40001004, 1, 0x4, 0x0, 0x0, 0x0, 0x0⟩, -- RST_CAUSE
  ⟨0x40001008, 1, 0x4, 0x0, 0xFFFE, 0x0, 0x0⟩, -- RST_HIST
  ⟨0x4000100C, 1, 0x4, 0x0, 0x0, 0x0, 0x0⟩, -- RST_HRT
  ⟨0x40001010, 1, 0x4, 0x0, 0x0, 0x0, 0x0⟩, -- RST_SOFT
  ⟨0x40001014, 1, 0x4, 0x0, 0x0, 0x0, 0x0⟩, -- RST_DEFER
  ⟨0x40001018, 1, 0x4, 0x0, 0x0, 0x0, 0x0⟩, -- RST_SECPG0
  ⟨0x4000101C, 1, 0x4, 0x0, 0x0, 0x0, 0x0⟩, -- RST_SECPG1
  ⟨0x40001020, 1, 0x4, 0x0, 0x0, 0x0, 0x0⟩, -- RST_SECPG2
  ⟨0x40001030, 1, 0x4, 0xC0FFFFFF, 0x0, 0x0, 0x0⟩, -- RST_WDT_A_CFG
  ⟨0x40001034, 1, 0x4, 0x0, 0x0, 0x0, 0x0⟩, -- RST_WDT_A_KICK
  ⟨0x40001038, 1, 0x4, 0x0, 0x0, 0x0, 0x10000⟩, -- RST_WDT_A_CNT
  ⟨0x40001040, 1, 0x4, 0xC0FFFFFF, 0x0, 0x0, 0x0⟩, -- RST_WDT_B_CFG
  ⟨0x40001044, 1, 0x4, 0x0, 0x0, 0x0, 0x0⟩, -- RST_WDT_B_KICK
  ⟨0x40001048, 1, 0x4, 0x0, 0x0, 0x0, 0x10000⟩, -- RST_WDT_B_CNT
  ⟨0x40001050, 1, 0x4, 0x0, 0x1, 0x0, 0x0⟩] -- RST_EVT

def rowsKnd : List RegRow := [
  ⟨0x40002000, 1, 0x4, 0x0, 0x0, 0x0, 0x1⟩, -- KND_ID
  ⟨0x40002004, 1, 0x4, 0x0, 0x0, 0x0, 0x0⟩, -- KND_STAT
  ⟨0x40002008, 1, 0x4, 0x0, 0x0, 0x0, 0x0⟩, -- KND_OPT_SEQ
  ⟨0x4000200C, 1, 0x4, 0x0, 0x0, 0x0, 0x0⟩, -- KND_BOOT
  ⟨0x40002010, 1, 0x4, 0x0, 0x0, 0x0, 0x0⟩, -- KND_TIME
  ⟨0x40002020, 16, 0x4, 0x0, 0x0, 0x0, 0x0⟩, -- KND_OPTn
  ⟨0x40002080, 8, 0x4, 0xFFFFFFFF, 0x0, 0x0, 0x0⟩, -- KND_OPT_STGm
  ⟨0x400020A0, 1, 0x4, 0xFFFFFFFF, 0x0, 0x0, 0x0⟩, -- KND_OPT_ARG
  ⟨0x400020A4, 1, 0x4, 0x0, 0x0, 0x0, 0x0⟩, -- KND_OPT_CMD
  ⟨0x400020A8, 1, 0x4, 0x0, 0x10000, 0x0, 0x700000⟩] -- KND_OPT_RES

def rowsEmb : List RegRow := [
  ⟨0x40003000, 30, 0x4, 0xFFFFFFFF, 0x0, 0x0, 0x0⟩, -- EMB_REGn
  ⟨0x40003078, 1, 0x4, 0x0, 0x0, 0x0, 0x0⟩, -- EMB_REG30
  ⟨0x4000307C, 1, 0x4, 0x0, 0x0, 0x0, 0x19000300⟩] -- EMB_REG31

def rowsClk : List RegRow := [
  ⟨0x40004000, 1, 0x4, 0x0, 0x0, 0x0, 0x1⟩, -- CLK_ID
  ⟨0x40004004, 1, 0x4, 0x0, 0x0, 0x0, 0x4000000⟩, -- CLK_STAT
  ⟨0x40004008, 1, 0x4, 0x103, 0x0, 0x0, 0x0⟩, -- CLK_SEL
  ⟨0x4000400C, 1, 0x4, 0x1, 0x0, 0x0, 0x0⟩, -- CLK_PERF
  ⟨0x40004010, 1, 0x4, 0x0, 0x1F, 0x0, 0x0⟩, -- CLK_EVT
  ⟨0x40004014, 1, 0x4, 0x1F, 0x0, 0x0, 0x0⟩, -- CLK_EVT_EN
  ⟨0x40004018, 1, 0x4, 0x0, 0x0, 0x0, 0x0⟩, -- CLK_REQ
  ⟨0x4000401C, 1, 0x4, 0x0, 0x0, 0x0, 0x0⟩] -- CLK_FRC_TRIM

def rowsSup : List RegRow := [
  ⟨0x40005000, 1, 0x4, 0x0, 0x0, 0x0, 0x1⟩, -- SUP_ID
  ⟨0x40005004, 1, 0x4, 0x0, 0x0, 0x0, 0x0⟩, -- SUP_STAT
  ⟨0x40005008, 1, 0x4, 0x0, 0xFF, 0x0, 0x0⟩, -- SUP_EVT
  ⟨0x4000500C, 1, 0x4, 0xFF, 0x0, 0x0, 0x0⟩, -- SUP_EVT_EN
  ⟨0x40005010, 1, 0x4, 0x3FF, 0x0, 0x0, 0x0⟩, -- SUP_PFW_THR
  ⟨0x40005014, 1, 0x4, 0x0, 0x0, 0x0, 0x0⟩, -- SUP_VMON
  ⟨0x40005018, 1, 0x4, 0xFFFF, 0x0, 0x0, 0x9C4⟩, -- SUP_KEEP_THR
  ⟨0x4000501C, 1, 0x4, 0x3, 0x0, 0x0, 0x0⟩, -- SUP_IO_CFG
  ⟨0x40005020, 1, 0x4, 0x1, 0x0, 0x0, 0x1⟩, -- SUP_VREG_CFG
  ⟨0x40005030, 1, 0x4, 0x830F003F, 0x0, 0x0, 0x0⟩, -- SUP_CHG_STG
  ⟨0x40005034, 1, 0x4, 0x0, 0x0, 0x0, 0x0⟩, -- SUP_CHG_ACT
  ⟨0x40005038, 1, 0x4, 0x301FF, 0x100000, 0x0, 0x7000⟩, -- SUP_CHG_COMMIT
  ⟨0x4000503C, 1, 0x4, 0xFFFFFFFF, 0x0, 0x0, 0x0⟩, -- SUP_CHG_CASN
  ⟨0x40005040, 1, 0x4, 0xFF00FF, 0x0, 0x0, 0xBB0054⟩, -- SUP_CHG_NTC
  ⟨0x40005044, 1, 0x4, 0x0, 0x0, 0x0, 0x0⟩] -- SUP_CHG_MON

def rowsPad : List RegRow := [
  ⟨0x40006000, 1, 0x4, 0x0, 0x0, 0x0, 0x1⟩, -- PAD_ID
  ⟨0x40006004, 1, 0x4, 0x0, 0x0, 0x0, 0x0⟩, -- PAD_IN0
  ⟨0x40006008, 1, 0x4, 0x0, 0x0, 0x0, 0x0⟩, -- PAD_IN1
  ⟨0x40006010, 1, 0x4, 0xFFFFFFFF, 0x0, 0x0, 0x0⟩, -- PAD_OUT0
  ⟨0x40006014, 1, 0x4, 0xFFFFFFFF, 0x0, 0x0, 0x0⟩, -- PAD_OUT1
  ⟨0x40006018, 1, 0x4, 0x0, 0x0, 0x0, 0x0⟩, -- PAD_OUTSET0
  ⟨0x4000601C, 1, 0x4, 0x0, 0x0, 0x0, 0x0⟩, -- PAD_OUTSET1
  ⟨0x40006020, 1, 0x4, 0x0, 0x0, 0x0, 0x0⟩, -- PAD_OUTCLR0
  ⟨0x40006024, 1, 0x4, 0x0, 0x0, 0x0, 0x0⟩, -- PAD_OUTCLR1
  ⟨0x40006028, 1, 0x4, 0x0, 0x0, 0x0, 0x0⟩, -- PAD_OUTTGL0
  ⟨0x4000602C, 1, 0x4, 0x0, 0x0, 0x0, 0x0⟩, -- PAD_OUTTGL1
  ⟨0x40006030, 1, 0x4, 0x0, 0xFFFFFFFF, 0x0, 0x0⟩, -- PAD_EDGE0
  ⟨0x40006034, 1, 0x4, 0x0, 0xFFFFFFFF, 0x0, 0x0⟩, -- PAD_EDGE1
  ⟨0x40006038, 1, 0x4, 0x0, 0xF, 0x0, 0x0⟩, -- PAD_WAKE_EDGE
  ⟨0x4000603C, 1, 0x4, 0x0, 0x0, 0x0, 0x0⟩, -- PAD_HOLD
  ⟨0x40006040, 1, 0x4, 0x0, 0x0, 0x0, 0x0⟩, -- PAD_RELEASE
  ⟨0x40006044, 1, 0x4, 0x0, 0x1, 0x0, 0x0⟩, -- PAD_EVT
  ⟨0x40006060, 8, 0x4, 0x8000003F, 0x0, 0x0, 0x0⟩, -- PAD_TSKk
  ⟨0x40006100, 8, 0x4, 0x7173F32, 0x0, 0x0, 0x7101200⟩, -- PAD_CFGn
  ⟨0x40006120, 1, 0x4, 0x7173F32, 0x0, 0x0, 0x7101400⟩, -- PAD_CFGn
  ⟨0x40006124, 3, 0x4, 0x7173F32, 0x0, 0x0, 0x7101200⟩, -- PAD_CFGn
  ⟨0x40006130, 1, 0x4, 0x7173F32, 0x0, 0x0, 0x7101400⟩, -- PAD_CFGn
  ⟨0x40006134, 1, 0x4, 0x7173F32, 0x0, 0x0, 0x7101200⟩, -- PAD_CFGn
  ⟨0x40006138, 1, 0x4, 0x7173F32, 0x0, 0x0, 0x6101310⟩, -- PAD_CFGn
  ⟨0x4000613C, 1, 0x4, 0x7173F32, 0x0, 0x0, 0x6101510⟩, -- PAD_CFGn
  ⟨0x40006140, 40, 0x4, 0x7173F32, 0x0, 0x0, 0x7101200⟩, -- PAD_CFGn
  ⟨0x400061E0, 8, 0x4, 0x7173F32, 0x0, 0x0, 0x7101000⟩] -- PAD_CFGn

def rowsRtc : List RegRow := [
  ⟨0x40007000, 1, 0x4, 0x0, 0x0, 0x0, 0x0⟩, -- RTC_EMB_LO
  ⟨0x40007004, 1, 0x4, 0x0, 0x0, 0x0, 0x0⟩, -- RTC_EMB_HI
  ⟨0x40007008, 1, 0x4, 0x0, 0x0, 0x0, 0x0⟩, -- RTC_WC_LO
  ⟨0x4000700C, 1, 0x4, 0x0, 0x0, 0x0, 0x0⟩, -- RTC_WC_HI
  ⟨0x40007010, 1, 0x4, 0xFFFFFFFF, 0x0, 0x0, 0x0⟩, -- RTC_WC_STG_LO
  ⟨0x40007014, 1, 0x4, 0xFFFF, 0x0, 0x0, 0x0⟩, -- RTC_WC_STG_HI
  ⟨0x40007018, 1, 0x4, 0xFFFFFF, 0x0, 0x0, 0x0⟩, -- RTC_TRIM_STG
  ⟨0x4000701C, 1, 0x4, 0x0, 0x0, 0x0, 0x0⟩, -- RTC_TRIM_ACT
  ⟨0x40007020, 1, 0x4, 0x301FF, 0x100000, 0x0, 0x7000⟩, -- RTC_COMMIT
  ⟨0x40007024, 1, 0x4, 0xFFFFFFFF, 0x0, 0x0, 0x0⟩, -- RTC_CASN
  ⟨0x40007028, 1, 0x4, 0xFFFFFFFF, 0x0, 0x0, 0x0⟩, -- RTC_ALARM_LO
  ⟨0x4000702C, 1, 0x4, 0x8000FFFF, 0x0, 0x0, 0x0⟩, -- RTC_ALARM_HI
  ⟨0x40007030, 1, 0x4, 0x0, 0x2, 0x0, 0x0⟩] -- RTC_STAT

def rowsFlu : List RegRow := [
  ⟨0x40008000, 1, 0x4, 0x0, 0x0, 0x0, 0x30⟩, -- FLU_ID
  ⟨0x40008004, 1, 0x4, 0x0, 0xFFFFFFFF, 0x0, 0x0⟩, -- FLU_WATCH0
  ⟨0x40008008, 1, 0x4, 0x0, 0xFFFF, 0x0, 0x0⟩, -- FLU_WATCH1
  ⟨0x4000800C, 1, 0x4, 0x0, 0xFFFFFFFF, 0x0, 0x0⟩, -- FLU_LOOP0
  ⟨0x40008010, 1, 0x4, 0x0, 0xFFFF, 0x0, 0x0⟩, -- FLU_LOOP1
  ⟨0x40008014, 1, 0x4, 0x0, 0x6, 0x0, 0x0⟩, -- FLU_SUM
  ⟨0x40008018, 1, 0x4, 0x7, 0x0, 0x0, 0x0⟩, -- FLU_SUM_EN
  ⟨0x40008020, 1, 0x4, 0x0, 0x0, 0x0, 0x0⟩, -- FLU_STAMP_ASN_LO
  ⟨0x40008024, 1, 0x4, 0x0, 0x0, 0x0, 0x0⟩, -- FLU_STAMP_ASN_HI
  ⟨0x40008028, 1, 0x4, 0x0, 0x0, 0x0, 0x0⟩, -- FLU_STAMP_OFF
  ⟨0x4000802C, 1, 0x4, 0x0, 0x0, 0x0, 0x0⟩, -- FLU_STAMP_EMB
  ⟨0x40008100, 48, 0x10, 0xC71000FF, 0x0, 0x0, 0x7100000⟩, -- FLU_CHc_CFG
  ⟨0x40008104, 48, 0x10, 0xFFFFFFFF, 0x0, 0x0, 0x0⟩, -- FLU_CHc_TSK
  ⟨0x40008108, 48, 0x10, 0x0, 0x2, 0x0, 0x0⟩, -- FLU_CHc_STAT
  ⟨0x4000810C, 48, 0x10, 0x0, 0x0, 0x0, 0x0⟩, -- FLU_CHc_CNT
  ⟨0x40008400, 255, 0x4, 0x0, 0x100, 0xFF, 0x0⟩] -- FLU_TKt_STAT

def rowsAsh : List RegRow := [
  ⟨0x40009000, 1, 0x4, 0x0, 0x0, 0x0, 0x1⟩, -- ASH_ID
  ⟨0x40009004, 1, 0x4, 0x0, 0x0, 0x0, 0x0⟩, -- ASH_STAT
  ⟨0x40009008, 1, 0x4, 0x0, 0x0, 0x0, 0x0⟩, -- ASH_NEXT
  ⟨0x4000900C, 1, 0x4, 0x0, 0x0, 0x0, 0x0⟩, -- ASH_OLDEST
  ⟨0x40009010, 1, 0x4, 0x0, 0x1F, 0x0, 0x0⟩, -- ASH_EVT
  ⟨0x40009014, 1, 0x4, 0x1F, 0x0, 0x0, 0x0⟩, -- ASH_EVT_EN
  ⟨0x40009018, 1, 0x4, 0x0, 0x0, 0x0, 0x0⟩, -- ASH_FLUSH
  ⟨0x4000901C, 1, 0x4, 0x0, 0x0, 0x0, 0x0⟩, -- ASH_LOST_CNT
  ⟨0x40009020, 3, 0x4, 0xFFFFFFFF, 0x0, 0x0, 0x0⟩, -- ASH_WR_Dn
  ⟨0x4000902C, 1, 0x4, 0x0, 0x0, 0x0, 0x0⟩, -- ASH_WR_CODE
  ⟨0x40009040, 1, 0x4, 0xFFFFFFFF, 0x0, 0x0, 0x0⟩, -- ASH_RD_SEQ
  ⟨0x40009044, 1, 0x4, 0x0, 0x10000, 0x0, 0x700000⟩, -- ASH_RD_STAT
  ⟨0x40009060, 8, 0x4, 0x0, 0x0, 0x0, 0x0⟩, -- ASH_RDn
  ⟨0x40009080, 1, 0x4, 0xFFFFFFFF, 0x0, 0x0, 0x0⟩, -- ASH_CLR_TOKEN
  ⟨0x40009084, 1, 0x4, 0x0, 0x0, 0x0, 0x0⟩, -- ASH_CLR_CMD
  ⟨0x40009088, 1, 0x4, 0x0, 0x10000, 0x0, 0x700000⟩] -- ASH_CLR_RES

def rowsFlc : List RegRow := [
  ⟨0x40010000, 1, 0x4, 0x0, 0x0, 0x0, 0x1⟩, -- FLC_ID
  ⟨0x40010004, 1, 0x4, 0x0, 0x0, 0x0, 0xF00000⟩, -- FLC_STAT
  ⟨0x40010008, 1, 0x4, 0x0, 0x7E, 0x0, 0x0⟩, -- FLC_EVT
  ⟨0x4001000C, 1, 0x4, 0x7E, 0x0, 0x0, 0x0⟩, -- FLC_EVT_EN
  ⟨0x40010010, 1, 0x4, 0x0, 0x7E, 0x0, 0x0⟩, -- FLC_DONE
  ⟨0x40010014, 1, 0x4, 0x3, 0x0, 0x0, 0x0⟩, -- FLC_PAUSE
  ⟨0x40010018, 1, 0x4, 0x0, 0x0, 0x0, 0x0⟩, -- FLC_HIT_ADDR
  ⟨0x4001001C, 1, 0x4, 0x0, 0x0, 0x0, 0x0⟩, -- FLC_ECC_ADDR
  ⟨0x40010020, 1, 0x4, 0x0, 0x0, 0x0, 0x0⟩, -- FLC_ECC_CNT
  ⟨0x40010024, 1, 0x4, 0x1, 0x0, 0x0, 0x0⟩, -- FLC_PROT
  ⟨0x40010028, 1, 0x4, 0x0, 0x0, 0x0, 0x0⟩, -- FLC_SEL
  ⟨0x4001002C, 1, 0x4, 0x0, 0x0, 0x0, 0x0⟩, -- FLC_SEL_SEQ
  ⟨0x40010030, 4, 0x4, 0x0, 0x0, 0x0, 0x0⟩, -- FLC_ULOCKn
  ⟨0x40010040, 4, 0x4, 0x0, 0x0, 0x0, 0x0⟩, -- FLC_SUSPECTn
  ⟨0x40010050, 1, 0x4, 0x0, 0x0, 0x0, 0x0⟩, -- FLC_INT_STAT
  ⟨0x40010100, 7, 0x20, 0xF000000, 0x0, 0x0, 0x0⟩, -- FLC_CMDs
  ⟨0x40010104, 7, 0x20, 0xFFFFFFFF, 0x0, 0x0, 0x0⟩, -- FLC_ADDRs
  ⟨0x40010108, 7, 0x20, 0xFFFFFFFC, 0x0, 0x0, 0x0⟩, -- FLC_SRCs
  ⟨0x4001010C, 7, 0x20, 0x0, 0x10000, 0x0, 0x0⟩, -- FLC_RESs
  ⟨0x40010110, 7, 0x20, 0x0, 0x0, 0x0, 0x0⟩, -- FLC_QRYs
  ⟨0x40010114, 7, 0x20, 0x0, 0x0, 0x0, 0x0⟩] -- FLC_QCNTs

def rowsUpd : List RegRow := [
  ⟨0x40011000, 1, 0x4, 0x0, 0x0, 0x0, 0x1⟩, -- UPD_ID
  ⟨0x40011004, 1, 0x4, 0x0, 0x0, 0x0, 0x0⟩, -- UPD_STAT
  ⟨0x40011008, 1, 0x4, 0x0, 0xFF, 0x0, 0x0⟩, -- UPD_EVT
  ⟨0x4001100C, 1, 0x4, 0xFF, 0x0, 0x0, 0x0⟩, -- UPD_EVT_EN
  ⟨0x40011010, 1, 0x4, 0xF010000, 0x0, 0x0, 0x0⟩, -- UPD_CMD
  ⟨0x40011014, 1, 0x4, 0xFFFFFFFC, 0x0, 0x0, 0x0⟩, -- UPD_SRC
  ⟨0x40011018, 1, 0x4, 0xFFFFF, 0x0, 0x0, 0x0⟩, -- UPD_OFF
  ⟨0x4001101C, 1, 0x4, 0x1FFF, 0x0, 0x0, 0x0⟩, -- UPD_LEN
  ⟨0x40011020, 1, 0x4, 0x0, 0x10000, 0x0, 0x700000⟩, -- UPD_RES
  ⟨0x40011024, 1, 0x4, 0x0, 0x0, 0x0, 0x0⟩, -- UPD_NEXT
  ⟨0x40011028, 1, 0x4, 0x0, 0x0, 0x0, 0x0⟩, -- UPD_HAND
  ⟨0x4001102C, 1, 0x4, 0x0, 0x0, 0x0, 0x0⟩, -- UPD_MBOX
  ⟨0x40011030, 1, 0x4, 0x0, 0x0, 0x0, 0x0⟩, -- UPD_GEN_OLD
  ⟨0x40011034, 1, 0x4, 0x0, 0x0, 0x0, 0x0⟩, -- UPD_GEN_NEW
  ⟨0x40011038, 1, 0x4, 0x0, 0x0, 0x0, 0x0⟩, -- UPD_PROB_LEFT
  ⟨0x4001103C, 1, 0x4, 0x0, 0x0, 0x0, 0x0⟩, -- UPD_VER_RUN
  ⟨0x40011040, 1, 0x4, 0x0, 0x0, 0x0, 0x0⟩, -- UPD_VER_NEW
  ⟨0x40011044, 1, 0x4, 0x0, 0x0, 0x0, 0xA0BB8⟩, -- UPD_POLICY0
  ⟨0x40011048, 1, 0x4, 0x0, 0x0, 0x0, 0x14003C⟩, -- UPD_POLICY1
  ⟨0x4001104C, 1, 0x4, 0x0, 0x0, 0x0, 0x15180⟩, -- UPD_PROB_TIME
  ⟨0x40011050, 1, 0x4, 0xFFFFFFFF, 0x0, 0x0, 0x0⟩, -- UPD_TOKEN
  ⟨0x40011054, 1, 0x4, 0x0, 0x0, 0x0, 0x0⟩, -- UPD_BOOTFAIL
  ⟨0x40011058, 1, 0x4, 0x77000, 0x0, 0x0, 0x0⟩, -- UPD_CFG_KEY
  ⟨0x40011060, 1, 0x4, 0x301FF, 0x100000, 0x0, 0x7000⟩, -- UPD_CFG_COMMIT
  ⟨0x40011064, 1, 0x4, 0xFFFFFFFF, 0x0, 0x0, 0x0⟩, -- UPD_CFG_CASN
  ⟨0x40011068, 1, 0x4, 0x0, 0x0, 0x0, 0xFFFFFFFF⟩] -- UPD_MOTION_AGO

def rowsVltPg0 : List RegRow := [
  ⟨0x40020000, 8, 0x4, 0x0, 0x0, 0x0, 0x0⟩, -- VLT_PGn_Ks_Ww
  ⟨0x40020020, 8, 0x4, 0x0, 0x0, 0x0, 0x0⟩, -- VLT_PGn_Ks_Ww
  ⟨0x40020040, 8, 0x4, 0x0, 0x0, 0x0, 0x0⟩, -- VLT_PGn_Ks_Ww
  ⟨0x40020060, 8, 0x4, 0x0, 0x0, 0x0, 0x0⟩, -- VLT_PGn_Ks_Ww
  ⟨0x40020080, 8, 0x4, 0x0, 0x0, 0x0, 0x0⟩, -- VLT_PGn_Ks_Ww
  ⟨0x400200A0, 8, 0x4, 0x0, 0x0, 0x0, 0x0⟩, -- VLT_PGn_Ks_Ww
  ⟨0x400200C0, 8, 0x4, 0x0, 0x0, 0x0, 0x0⟩, -- VLT_PGn_Ks_Ww
  ⟨0x400200E0, 8, 0x4, 0x0, 0x0, 0x0, 0x0⟩, -- VLT_PGn_Ks_Ww
  ⟨0x40020100, 8, 0x4, 0x4003FF00, 0x0, 0x0, 0x0⟩, -- VLT_PGn_SLOTs
  ⟨0x40020120, 8, 0x4, 0x0, 0x0, 0x0, 0x0⟩, -- VLT_PGn_KCVs
  ⟨0x40020140, 1, 0x4, 0x0, 0x0, 0x0, 0x0⟩, -- VLT_PGn_CTL
  ⟨0x40020FFC, 1, 0x4, 0x0, 0x0, 0x0, 0x10⟩] -- VLT_PGn_OWN

def rowsVltPg1 : List RegRow := [
  ⟨0x40021000, 8, 0x4, 0x0, 0x0, 0x0, 0x0⟩, -- VLT_PGn_Ks_Ww
  ⟨0x40021020, 8, 0x4, 0x0, 0x0, 0x0, 0x0⟩, -- VLT_PGn_Ks_Ww
  ⟨0x40021040, 8, 0x4, 0x0, 0x0, 0x0, 0x0⟩, -- VLT_PGn_Ks_Ww
  ⟨0x40021060, 8, 0x4, 0x0, 0x0, 0x0, 0x0⟩, -- VLT_PGn_Ks_Ww
  ⟨0x40021080, 8, 0x4, 0x0, 0x0, 0x0, 0x0⟩, -- VLT_PGn_Ks_Ww
  ⟨0x400210A0, 8, 0x4, 0x0, 0x0, 0x0, 0x0⟩, -- VLT_PGn_Ks_Ww
  ⟨0x400210C0, 8, 0x4, 0x0, 0x0, 0x0, 0x0⟩, -- VLT_PGn_Ks_Ww
  ⟨0x400210E0, 8, 0x4, 0x0, 0x0, 0x0, 0x0⟩, -- VLT_PGn_Ks_Ww
  ⟨0x40021100, 8, 0x4, 0x4003FF00, 0x0, 0x0, 0x0⟩, -- VLT_PGn_SLOTs
  ⟨0x40021120, 8, 0x4, 0x0, 0x0, 0x0, 0x0⟩, -- VLT_PGn_KCVs
  ⟨0x40021140, 1, 0x4, 0x0, 0x0, 0x0, 0x0⟩, -- VLT_PGn_CTL
  ⟨0x40021FFC, 1, 0x4, 0x0, 0x0, 0x0, 0x11⟩] -- VLT_PGn_OWN

def rowsVltPg2 : List RegRow := [
  ⟨0x40022000, 8, 0x4, 0x0, 0x0, 0x0, 0x0⟩, -- VLT_PGn_Ks_Ww
  ⟨0x40022020, 8, 0x4, 0x0, 0x0, 0x0, 0x0⟩, -- VLT_PGn_Ks_Ww
  ⟨0x40022040, 8, 0x4, 0x0, 0x0, 0x0, 0x0⟩, -- VLT_PGn_Ks_Ww
  ⟨0x40022060, 8, 0x4, 0x0, 0x0, 0x0, 0x0⟩, -- VLT_PGn_Ks_Ww
  ⟨0x40022080, 8, 0x4, 0x0, 0x0, 0x0, 0x0⟩, -- VLT_PGn_Ks_Ww
  ⟨0x400220A0, 8, 0x4, 0x0, 0x0, 0x0, 0x0⟩, -- VLT_PGn_Ks_Ww
  ⟨0x400220C0, 8, 0x4, 0x0, 0x0, 0x0, 0x0⟩, -- VLT_PGn_Ks_Ww
  ⟨0x400220E0, 8, 0x4, 0x0, 0x0, 0x0, 0x0⟩, -- VLT_PGn_Ks_Ww
  ⟨0x40022100, 8, 0x4, 0x4003FF00, 0x0, 0x0, 0x0⟩, -- VLT_PGn_SLOTs
  ⟨0x40022120, 8, 0x4, 0x0, 0x0, 0x0, 0x0⟩, -- VLT_PGn_KCVs
  ⟨0x40022140, 1, 0x4, 0x0, 0x0, 0x0, 0x0⟩, -- VLT_PGn_CTL
  ⟨0x40022FFC, 1, 0x4, 0x0, 0x0, 0x0, 0x12⟩] -- VLT_PGn_OWN

def rowsVltPg3 : List RegRow := [
  ⟨0x40023000, 8, 0x4, 0x0, 0x0, 0x0, 0x0⟩, -- VLT_PGn_Ks_Ww
  ⟨0x40023020, 8, 0x4, 0x0, 0x0, 0x0, 0x0⟩, -- VLT_PGn_Ks_Ww
  ⟨0x40023040, 8, 0x4, 0x0, 0x0, 0x0, 0x0⟩, -- VLT_PGn_Ks_Ww
  ⟨0x40023060, 8, 0x4, 0x0, 0x0, 0x0, 0x0⟩, -- VLT_PGn_Ks_Ww
  ⟨0x40023080, 8, 0x4, 0x0, 0x0, 0x0, 0x0⟩, -- VLT_PGn_Ks_Ww
  ⟨0x400230A0, 8, 0x4, 0x0, 0x0, 0x0, 0x0⟩, -- VLT_PGn_Ks_Ww
  ⟨0x400230C0, 8, 0x4, 0x0, 0x0, 0x0, 0x0⟩, -- VLT_PGn_Ks_Ww
  ⟨0x400230E0, 8, 0x4, 0x0, 0x0, 0x0, 0x0⟩, -- VLT_PGn_Ks_Ww
  ⟨0x40023100, 8, 0x4, 0x4003FF00, 0x0, 0x0, 0x0⟩, -- VLT_PGn_SLOTs
  ⟨0x40023120, 8, 0x4, 0x0, 0x0, 0x0, 0x0⟩, -- VLT_PGn_KCVs
  ⟨0x40023140, 1, 0x4, 0x0, 0x0, 0x0, 0x0⟩, -- VLT_PGn_CTL
  ⟨0x40023FFC, 1, 0x4, 0x0, 0x0, 0x0, 0x13⟩] -- VLT_PGn_OWN

def rowsVltPg4 : List RegRow := [
  ⟨0x40024000, 8, 0x4, 0x0, 0x0, 0x0, 0x0⟩, -- VLT_PGn_Ks_Ww
  ⟨0x40024020, 8, 0x4, 0x0, 0x0, 0x0, 0x0⟩, -- VLT_PGn_Ks_Ww
  ⟨0x40024040, 8, 0x4, 0x0, 0x0, 0x0, 0x0⟩, -- VLT_PGn_Ks_Ww
  ⟨0x40024060, 8, 0x4, 0x0, 0x0, 0x0, 0x0⟩, -- VLT_PGn_Ks_Ww
  ⟨0x40024080, 8, 0x4, 0x0, 0x0, 0x0, 0x0⟩, -- VLT_PGn_Ks_Ww
  ⟨0x400240A0, 8, 0x4, 0x0, 0x0, 0x0, 0x0⟩, -- VLT_PGn_Ks_Ww
  ⟨0x400240C0, 8, 0x4, 0x0, 0x0, 0x0, 0x0⟩, -- VLT_PGn_Ks_Ww
  ⟨0x400240E0, 8, 0x4, 0x0, 0x0, 0x0, 0x0⟩, -- VLT_PGn_Ks_Ww
  ⟨0x40024100, 8, 0x4, 0x4003FF00, 0x0, 0x0, 0x0⟩, -- VLT_PGn_SLOTs
  ⟨0x40024120, 8, 0x4, 0x0, 0x0, 0x0, 0x0⟩, -- VLT_PGn_KCVs
  ⟨0x40024140, 1, 0x4, 0x0, 0x0, 0x0, 0x0⟩, -- VLT_PGn_CTL
  ⟨0x40024FFC, 1, 0x4, 0x0, 0x0, 0x0, 0x14⟩] -- VLT_PGn_OWN

def rowsVltPg5 : List RegRow := [
  ⟨0x40025000, 8, 0x4, 0x0, 0x0, 0x0, 0x0⟩, -- VLT_PGn_Ks_Ww
  ⟨0x40025020, 8, 0x4, 0x0, 0x0, 0x0, 0x0⟩, -- VLT_PGn_Ks_Ww
  ⟨0x40025040, 8, 0x4, 0x0, 0x0, 0x0, 0x0⟩, -- VLT_PGn_Ks_Ww
  ⟨0x40025060, 8, 0x4, 0x0, 0x0, 0x0, 0x0⟩, -- VLT_PGn_Ks_Ww
  ⟨0x40025080, 8, 0x4, 0x0, 0x0, 0x0, 0x0⟩, -- VLT_PGn_Ks_Ww
  ⟨0x400250A0, 8, 0x4, 0x0, 0x0, 0x0, 0x0⟩, -- VLT_PGn_Ks_Ww
  ⟨0x400250C0, 8, 0x4, 0x0, 0x0, 0x0, 0x0⟩, -- VLT_PGn_Ks_Ww
  ⟨0x400250E0, 8, 0x4, 0x0, 0x0, 0x0, 0x0⟩, -- VLT_PGn_Ks_Ww
  ⟨0x40025100, 8, 0x4, 0x4003FF00, 0x0, 0x0, 0x0⟩, -- VLT_PGn_SLOTs
  ⟨0x40025120, 8, 0x4, 0x0, 0x0, 0x0, 0x0⟩, -- VLT_PGn_KCVs
  ⟨0x40025140, 1, 0x4, 0x0, 0x0, 0x0, 0x0⟩, -- VLT_PGn_CTL
  ⟨0x40025FFC, 1, 0x4, 0x0, 0x0, 0x0, 0x17⟩] -- VLT_PGn_OWN

def rowsVltPg6 : List RegRow := [
  ⟨0x40026000, 8, 0x4, 0x0, 0x0, 0x0, 0x0⟩, -- VLT_PGn_Ks_Ww
  ⟨0x40026020, 8, 0x4, 0x0, 0x0, 0x0, 0x0⟩, -- VLT_PGn_Ks_Ww
  ⟨0x40026040, 8, 0x4, 0x0, 0x0, 0x0, 0x0⟩, -- VLT_PGn_Ks_Ww
  ⟨0x40026060, 8, 0x4, 0x0, 0x0, 0x0, 0x0⟩, -- VLT_PGn_Ks_Ww
  ⟨0x40026080, 8, 0x4, 0x0, 0x0, 0x0, 0x0⟩, -- VLT_PGn_Ks_Ww
  ⟨0x400260A0, 8, 0x4, 0x0, 0x0, 0x0, 0x0⟩, -- VLT_PGn_Ks_Ww
  ⟨0x400260C0, 8, 0x4, 0x0, 0x0, 0x0, 0x0⟩, -- VLT_PGn_Ks_Ww
  ⟨0x400260E0, 8, 0x4, 0x0, 0x0, 0x0, 0x0⟩, -- VLT_PGn_Ks_Ww
  ⟨0x40026100, 8, 0x4, 0x4003FF00, 0x0, 0x0, 0x0⟩, -- VLT_PGn_SLOTs
  ⟨0x40026120, 8, 0x4, 0x0, 0x0, 0x0, 0x0⟩, -- VLT_PGn_KCVs
  ⟨0x40026140, 1, 0x4, 0x0, 0x0, 0x0, 0x0⟩, -- VLT_PGn_CTL
  ⟨0x40026FFC, 1, 0x4, 0x17, 0x0, 0x0, 0x17⟩] -- VLT_PGn_OWN

def rowsVltPg7 : List RegRow := [
  ⟨0x40027000, 8, 0x4, 0x0, 0x0, 0x0, 0x0⟩, -- VLT_PGn_Ks_Ww
  ⟨0x40027020, 8, 0x4, 0x0, 0x0, 0x0, 0x0⟩, -- VLT_PGn_Ks_Ww
  ⟨0x40027040, 8, 0x4, 0x0, 0x0, 0x0, 0x0⟩, -- VLT_PGn_Ks_Ww
  ⟨0x40027060, 8, 0x4, 0x0, 0x0, 0x0, 0x0⟩, -- VLT_PGn_Ks_Ww
  ⟨0x40027080, 8, 0x4, 0x0, 0x0, 0x0, 0x0⟩, -- VLT_PGn_Ks_Ww
  ⟨0x400270A0, 8, 0x4, 0x0, 0x0, 0x0, 0x0⟩, -- VLT_PGn_Ks_Ww
  ⟨0x400270C0, 8, 0x4, 0x0, 0x0, 0x0, 0x0⟩, -- VLT_PGn_Ks_Ww
  ⟨0x400270E0, 8, 0x4, 0x0, 0x0, 0x0, 0x0⟩, -- VLT_PGn_Ks_Ww
  ⟨0x40027100, 8, 0x4, 0x4003FF00, 0x0, 0x0, 0x0⟩, -- VLT_PGn_SLOTs
  ⟨0x40027120, 8, 0x4, 0x0, 0x0, 0x0, 0x0⟩, -- VLT_PGn_KCVs
  ⟨0x40027140, 1, 0x4, 0x0, 0x0, 0x0, 0x0⟩, -- VLT_PGn_CTL
  ⟨0x40027FFC, 1, 0x4, 0x17, 0x0, 0x0, 0x17⟩] -- VLT_PGn_OWN

def rowsVlt : List RegRow := [
  ⟨0x40028000, 1, 0x4, 0x1F377000, 0x0, 0x0, 0x0⟩, -- VLT_CMD
  ⟨0x40028004, 1, 0x4, 0xFFFFFFFF, 0x0, 0x0, 0x0⟩, -- VLT_CMD_IN
  ⟨0x40028008, 1, 0x4, 0x1FFF, 0x0, 0x0, 0x0⟩, -- VLT_CMD_LEN
  ⟨0x4002800C, 1, 0x4, 0xFFFFFFFF, 0x0, 0x0, 0x0⟩, -- VLT_CMD_OUT
  ⟨0x40028010, 1, 0x4, 0x0, 0x10000, 0x0, 0x700000⟩, -- VLT_CMD_RES
  ⟨0x40028020, 1, 0x4, 0x0, 0x1F, 0x0, 0x0⟩, -- VLT_ALARM
  ⟨0x40028028, 1, 0x4, 0x0, 0x0, 0x0, 0x0⟩, -- VLT_ALARM_CFG
  ⟨0x40028040, 2, 0x10, 0x1, 0x10000, 0x0, 0x700000⟩, -- VLT_PK_CTLc
  ⟨0x40028044, 2, 0x10, 0xFFFFFFFF, 0x0, 0x0, 0x0⟩, -- VLT_PK_ARGc
  ⟨0x40028048, 2, 0x10, 0x0, 0x0, 0x0, 0x0⟩, -- VLT_PK_PROGc
  ⟨0x40028060, 1, 0x4, 0x0, 0x0, 0x0, 0x0⟩, -- VLT_TRNG_DATA
  ⟨0x40028064, 1, 0x4, 0x0, 0x0, 0x0, 0x0⟩] -- VLT_TRNG_STAT

def rowsLce : List RegRow := [
  ⟨0x40030000, 1, 0x4, 0x0, 0x0, 0x0, 0x10⟩, -- LCE_ID
  ⟨0x40030010, 1, 0x4, 0x37070000, 0x0, 0x0, 0x0⟩, -- LCE_JOB_CTL
  ⟨0x40030014, 1, 0x4, 0xFFFFFFFF, 0x0, 0x0, 0x0⟩, -- LCE_JOB_SRC
  ⟨0x40030018, 1, 0x4, 0xFFFFFFFF, 0x0, 0x0, 0x0⟩, -- LCE_JOB_DST
  ⟨0x4003001C, 1, 0x4, 0xFFFF, 0x0, 0x0, 0x0⟩, -- LCE_JOB_LEN
  ⟨0x40030020, 4, 0x4, 0xFFFFFFFF, 0x0, 0x0, 0x0⟩, -- LCE_JOB_IVn
  ⟨0x40030030, 4, 0x4, 0x0, 0x0, 0x0, 0x0⟩, -- LCE_JOB_MACn
  ⟨0x40030040, 1, 0x4, 0x0, 0x10000, 0x0, 0x700000⟩, -- LCE_JOB_RES
  ⟨0x40030080, 1, 0x4, 0x0, 0x0, 0x0, 0x0⟩, -- LCE_CTR_STALL
  ⟨0x400300A0, 8, 0x4, 0x0, 0x0, 0x0, 0x0⟩, -- LCE_CTRs
  ⟨0x400300C0, 8, 0x4, 0x0, 0x0, 0x0, 0x0⟩, -- LCE_CEILs
  ⟨0x400300E0, 1, 0x4, 0x0, 0x0, 0x0, 0x0⟩, -- LCE_RSV_STAT
  ⟨0x400300E4, 1, 0x4, 0x0, 0x0, 0x0, 0x0⟩] -- LCE_RSV_SEQ

def rowsHrt : List RegRow := [
  ⟨0x40040000, 1, 0x4, 0x0, 0x0, 0x0, 0x10000⟩, -- HRT_ID
  ⟨0x40040004, 1, 0x4, 0x0, 0x0, 0x0, 0x0⟩, -- HRT_STAT
  ⟨0x40040008, 1, 0x4, 0x0, 0x1FF, 0x0, 0x0⟩, -- HRT_EVT
  ⟨0x4004000C, 1, 0x4, 0x1FF, 0x0, 0x0, 0x0⟩, -- HRT_EVT_EN
  ⟨0x40040010, 1, 0x4, 0x0, 0x0, 0x0, 0x0⟩, -- HRT_REC_STAT
  ⟨0x40040014, 1, 0x4, 0x0, 0x0, 0x0, 0x0⟩, -- HRT_REC_ASN_LO
  ⟨0x40040018, 1, 0x4, 0x0, 0x0, 0x0, 0x0⟩, -- HRT_REC_ASN_HI
  ⟨0x4004001C, 1, 0x4, 0x0, 0x0, 0x0, 0x0⟩, -- HRT_SEQ_VOTE
  ⟨0x40040020, 1, 0x4, 0x0, 0x0, 0x0, 0x0⟩, -- HRT_ASN_A_LO
  ⟨0x40040024, 1, 0x4, 0x0, 0x0, 0x0, 0x0⟩, -- HRT_ASN_A_HI
  ⟨0x40040028, 1, 0x4, 0x0, 0x0, 0x0, 0x0⟩, -- HRT_ASN_B_LO
  ⟨0x4004002C, 1, 0x4, 0x0, 0x0, 0x0, 0x0⟩, -- HRT_ASN_B_HI
  ⟨0x40040040, 1, 0x4, 0x0, 0x0, 0x0, 0x0⟩, -- HRT_BUF_ALLOC
  ⟨0x40040044, 1, 0x4, 0x0, 0x0, 0x0, 0x0⟩, -- HRT_BUF_RET
  ⟨0x40040048, 1, 0x4, 0x0, 0x0, 0x0, 0x3E⟩, -- HRT_BUF_FREE
  ⟨0x4004004C, 1, 0x4, 0x0, 0x0, 0x0, 0x0⟩, -- HRT_RXDROP_A
  ⟨0x40040050, 1, 0x4, 0x0, 0x0, 0x0, 0x0⟩, -- HRT_RXDROP_B
  ⟨0x40040100, 1, 0x4, 0x10F, 0x0, 0x0, 0x0⟩, -- HRT_SNAP_REQ
  ⟨0x40040104, 1, 0x4, 0x0, 0x0, 0x0, 0x7000000⟩, -- HRT_SNAP_STAT
  ⟨0x40040108, 1, 0x4, 0x0, 0x0, 0x0, 0x0⟩, -- HRT_SNAP_ASN_LO
  ⟨0x4004010C, 1, 0x4, 0x0, 0x0, 0x0, 0x0⟩, -- HRT_SNAP_ASN_HI
  ⟨0x40040110, 1, 0x4, 0x0, 0x0, 0x0, 0x0⟩, -- HRT_SNAP_VER
  ⟨0x40040114, 1, 0x4, 0x0, 0x0, 0x0, 0x0⟩, -- HRT_SNAP_REL
  ⟨0x40040200, 16, 0x20, 0x1001, 0x0, 0x0, 0x7000000⟩, -- HRT_Qn_CFG
  ⟨0x40040204, 32, 0x20, 0x7F, 0x0, 0x0, 0x0⟩, -- HRT_Qn_PROD
  ⟨0x40040208, 32, 0x20, 0x0, 0x0, 0x0, 0x0⟩, -- HRT_Qn_DONE
  ⟨0x4004020C, 32, 0x20, 0x7F, 0x0, 0x0, 0x0⟩, -- HRT_Qn_RECL
  ⟨0x40040210, 32, 0x20, 0x0, 0x3, 0x0, 0x0⟩, -- HRT_Qn_STAT
  ⟨0x40040214, 32, 0x20, 0x0, 0x0, 0x0, 0x0⟩, -- HRT_Qn_FLUSH
  ⟨0x40040400, 16, 0x20, 0x1001, 0x0, 0x0, 0x7000100⟩, -- HRT_Qn_CFG
  ⟨0x40040600, 1, 0x4, 0xFFF, 0x0, 0x0, 0x0⟩, -- HRT_SCH_IDX
  ⟨0x40040604, 1, 0x4, 0xFFFFFFFF, 0x0, 0x0, 0x0⟩, -- HRT_SCH_LO
  ⟨0x40040608, 1, 0x4, 0xFFFFFFFF, 0x0, 0x0, 0x0⟩, -- HRT_SCH_HI
  ⟨0x4004060C, 1, 0x4, 0xFFFFF, 0x0, 0x0, 0x0⟩, -- HRT_SCH_SF
  ⟨0x40040610, 1, 0x4, 0x0, 0x0, 0x0, 0x0⟩, -- HRT_SCH_STAT
  ⟨0x40040614, 1, 0x4, 0x301FF, 0x100000, 0x0, 0x7000⟩, -- HRT_SCH_COMMIT
  ⟨0x40040618, 1, 0x4, 0xFFFFFFFF, 0x0, 0x0, 0x0⟩, -- HRT_SCH_CASN
  ⟨0x4004061C, 1, 0x4, 0x0, 0x0, 0x0, 0x0⟩, -- HRT_SCH_VER
  ⟨0x40040620, 8, 0x4, 0x0, 0x0, 0x0, 0x0⟩, -- HRT_SF_As
  ⟨0x40040640, 8, 0x4, 0x0, 0x0, 0x0, 0x0⟩, -- HRT_SF_Bs
  ⟨0x40040660, 1, 0x4, 0x0, 0x0, 0x0, 0x0⟩, -- HRT_TPL_A
  ⟨0x40040664, 1, 0x4, 0x0, 0x0, 0x0, 0x0⟩, -- HRT_TPL_B
  ⟨0x40040668, 1, 0x4, 0x0, 0x0, 0x0, 0x0⟩, -- HRT_GUARD
  ⟨0x4004066C, 1, 0x4, 0x0, 0x0, 0x0, 0x0⟩, -- HRT_EXCL_VER
  ⟨0x40040670, 1, 0x4, 0x0, 0x0, 0x0, 0xFFFFFFFF⟩, -- HRT_EXCL_A0
  ⟨0x40040674, 1, 0x4, 0x0, 0x0, 0x0, 0xFFFFFFFF⟩, -- HRT_EXCL_A1
  ⟨0x40040678, 1, 0x4, 0x0, 0x0, 0x0, 0xFFFFFFFF⟩, -- HRT_EXCL_B0
  ⟨0x4004067C, 1, 0x4, 0x0, 0x0, 0x0, 0xFFFFFFFF⟩, -- HRT_EXCL_B1
  ⟨0x40040680, 1, 0x4, 0x0, 0x0, 0x0, 0x0⟩, -- HRT_PROF
  ⟨0x40040700, 1, 0x4, 0x780103FF, 0x0, 0x0, 0x0⟩, -- HRT_NBR_CMD
  ⟨0x40040704, 1, 0x4, 0xFFFFFFFF, 0x0, 0x0, 0x0⟩, -- HRT_NBR_ADDR_LO
  ⟨0x40040708, 1, 0x4, 0xFFFFFFFF, 0x0, 0x0, 0x0⟩, -- HRT_NBR_ADDR_HI
  ⟨0x4004070C, 1, 0x4, 0x1FFFF, 0x0, 0x0, 0x0⟩, -- HRT_NBR_SHORT
  ⟨0x40040710, 1, 0x4, 0x0, 0x10000, 0x0, 0x700000⟩, -- HRT_NBR_RES
  ⟨0x40040714, 1, 0x4, 0x0, 0x0, 0x0, 0x0⟩, -- HRT_NBR_USE
  ⟨0x40040718, 1, 0x4, 0x0, 0x0, 0x0, 0x0⟩, -- HRT_CHILD_USE
  ⟨0x4004071C, 1, 0x4, 0x0, 0x0, 0x0, 0x0⟩, -- HRT_NBR_FULL
  ⟨0x40040720, 1, 0x4, 0x0, 0x0, 0x0, 0xFF0000⟩, -- HRT_TS_A
  ⟨0x40040724, 1, 0x4, 0x0, 0x0, 0x0, 0xFF0000⟩, -- HRT_TS_B
  ⟨0x40040728, 1, 0x4, 0x0, 0x0, 0x0, 0x0⟩, -- HRT_FILT_CNT
  ⟨0x4004072C, 1, 0x4, 0x0, 0x0, 0x0, 0x0⟩, -- HRT_ADM
  ⟨0x40040730, 1, 0x4, 0x0, 0x0, 0x0, 0x0⟩] -- HRT_ADM_RSSI

def rowsRfa : List RegRow := [
  ⟨0x40050000, 1, 0x4, 0x0, 0x0, 0x0, 0x11⟩, -- RFA_ID
  ⟨0x40050004, 1, 0x4, 0x0, 0x0, 0x0, 0xFF00⟩, -- RFA_STAT
  ⟨0x40050008, 1, 0x4, 0x0, 0x7F, 0x0, 0x0⟩, -- RFA_EVT
  ⟨0x4005000C, 1, 0x4, 0x7F, 0x0, 0x0, 0x0⟩, -- RFA_EVT_EN
  ⟨0x40050010, 1, 0x4, 0x0, 0x0, 0x0, 0x0⟩, -- RFA_TEMP
  ⟨0x40050014, 1, 0x4, 0x0, 0x0, 0x0, 0x0⟩, -- RFA_SUPPLY
  ⟨0x40050018, 1, 0x4, 0x0, 0x0, 0x0, 0x80⟩, -- RFA_RSSI
  ⟨0x4005001C, 1, 0x4, 0x0, 0x0, 0x0, 0x0⟩, -- RFA_LASTTX
  ⟨0x40050020, 5, 0x4, 0x0, 0x0, 0x0, 0x0⟩, -- RFA_CALi
  ⟨0x40050040, 1, 0x4, 0x0, 0x0, 0x0, 0x0⟩, -- RFA_BAND
  ⟨0x40050044, 1, 0x4, 0x0, 0x0, 0x0, 0x0⟩, -- RFA_CCA
  ⟨0x40050048, 1, 0x4, 0x0, 0x0, 0x0, 0x0⟩, -- RFA_LBT
  ⟨0x4005004C, 1, 0x4, 0x0, 0x0, 0x0, 0x0⟩, -- RFA_THERM
  ⟨0x40050050, 1, 0x4, 0x0, 0x0, 0x0, 0x258⟩, -- RFA_CALPER
  ⟨0x40050054, 1, 0x4, 0x0, 0x0, 0x0, 0x0⟩, -- RFA_BLANK_CNT
  ⟨0x40050058, 1, 0x4, 0x0, 0x0, 0x0, 0x0⟩, -- RFA_CCA_CNT
  ⟨0x4005005C, 1, 0x4, 0x0, 0x0, 0x0, 0x0⟩, -- RFA_PADIS_CNT
  ⟨0x40050080, 16, 0x4, 0x0, 0x0, 0x0, 0x0⟩, -- RFA_MODEm
  ⟨0x400500C0, 16, 0x4, 0x0, 0x0, 0x0, 0x0⟩, -- RFA_TXPm
  ⟨0x40050100, 1, 0x4, 0xB1FFFF00, 0x0, 0x0, 0x0⟩, -- RFA_TEST
  ⟨0x40050104, 1, 0x4, 0x3FFFFF, 0x0, 0x0, 0x0⟩, -- RFA_TEST_FREQ
  ⟨0x40050400, 1, 0x4, 0x0, 0x0, 0x0, 0x0⟩, -- RFA_FBL_CFG
  ⟨0x40050404, 1, 0x4, 0x0, 0x0, 0x0, 0x0⟩, -- RFA_FBL_WIN
  ⟨0x40050408, 1, 0x4, 0x0, 0x0, 0x0, 0x0⟩, -- RFA_FBL_DET
  ⟨0x4005040C, 1, 0x4, 0x0, 0x0, 0x0, 0x100064⟩, -- RFA_FBL_LIM
  ⟨0x40050410, 1, 0x4, 0x0, 0x0, 0x0, 0x20⟩, -- RFA_FBL_UNITS
  ⟨0x40050414, 1, 0x4, 0x0, 0xF, 0x0, 0x0⟩, -- RFA_FBL_EVT
  ⟨0x40050418, 1, 0x4, 0x0, 0x0, 0x0, 0x0⟩, -- RFA_FBL_DETCNT
  ⟨0x4005041C, 1, 0x4, 0x0, 0x0, 0x0, 0x0⟩, -- RFA_FBL_TOCNT
  ⟨0x40050420, 1, 0x4, 0x0, 0x0, 0x0, 0x0⟩, -- RFA_FBL_NOUNIT
  ⟨0x40050424, 1, 0x4, 0x0, 0x0, 0x0, 0x0⟩, -- RFA_FBL_SHORT
  ⟨0x40050428, 1, 0x4, 0x0, 0x0, 0x0, 0x0⟩, -- RFA_FBL_ACKHELD
  ⟨0x4005042C, 1, 0x4, 0x0, 0x0, 0x0, 0x0⟩, -- RFA_FBL_GAIN
  ⟨0x40050480, 32, 0x4, 0x0, 0x0, 0x0, 0x0⟩, -- RFA_FBL_UNITu
  ⟨0x40050500, 140, 0x4, 0x0, 0x0, 0x0, 0x0⟩] -- RFA_FBL_OUTc

def rowsRfb : List RegRow := [
  ⟨0x40060000, 1, 0x4, 0x0, 0x0, 0x0, 0x11⟩, -- RFB_ID
  ⟨0x40060004, 1, 0x4, 0x0, 0x0, 0x0, 0xFF00⟩, -- RFB_STAT
  ⟨0x40060008, 1, 0x4, 0x0, 0x7F, 0x0, 0x0⟩, -- RFB_EVT
  ⟨0x4006000C, 1, 0x4, 0x7F, 0x0, 0x0, 0x0⟩, -- RFB_EVT_EN
  ⟨0x40060010, 1, 0x4, 0x0, 0x0, 0x0, 0x0⟩, -- RFB_TEMP
  ⟨0x40060014, 1, 0x4, 0x0, 0x0, 0x0, 0x0⟩, -- RFB_SUPPLY
  ⟨0x40060018, 1, 0x4, 0x0, 0x0, 0x0, 0x80⟩, -- RFB_RSSI
  ⟨0x4006001C, 1, 0x4, 0x0, 0x0, 0x0, 0x0⟩, -- RFB_LASTTX
  ⟨0x40060020, 5, 0x4, 0x0, 0x0, 0x0, 0x0⟩, -- RFB_CALi
  ⟨0x40060044, 1, 0x4, 0x0, 0x0, 0x0, 0x0⟩, -- RFB_CCA
  ⟨0x40060048, 1, 0x4, 0x0, 0x0, 0x0, 0x0⟩, -- RFB_LBT
  ⟨0x4006004C, 1, 0x4, 0x0, 0x0, 0x0, 0x0⟩, -- RFB_THERM
  ⟨0x40060050, 1, 0x4, 0x0, 0x0, 0x0, 0x258⟩, -- RFB_CALPER
  ⟨0x40060054, 1, 0x4, 0x0, 0x0, 0x0, 0x0⟩, -- RFB_BLANK_CNT
  ⟨0x40060058, 1, 0x4, 0x0, 0x0, 0x0, 0x0⟩, -- RFB_CCA_CNT
  ⟨0x4006005C, 1, 0x4, 0x0, 0x0, 0x0, 0x0⟩, -- RFB_PADIS_CNT
  ⟨0x40060080, 16, 0x4, 0x0, 0x0, 0x0, 0x0⟩, -- RFB_MODEm
  ⟨0x400600C0, 16, 0x4, 0x0, 0x0, 0x0, 0x0⟩, -- RFB_TXPm
  ⟨0x40060100, 1, 0x4, 0xB1FFFF00, 0x0, 0x0, 0x0⟩, -- RFB_TEST
  ⟨0x40060104, 1, 0x4, 0x3FFFFF, 0x0, 0x0, 0x0⟩, -- RFB_TEST_FREQ
  ⟨0x40060400, 1, 0x4, 0x0, 0x0, 0x0, 0xB0010⟩, -- RFB_FBL_CFG
  ⟨0x40060404, 1, 0x4, 0x0, 0x0, 0x0, 0x3BA1A348⟩, -- RFB_FBL_WIN
  ⟨0x40060408, 1, 0x4, 0x0, 0x0, 0x0, 0x0⟩, -- RFB_FBL_DET
  ⟨0x4006040C, 1, 0x4, 0x0, 0x0, 0x0, 0x100064⟩, -- RFB_FBL_LIM
  ⟨0x40060410, 1, 0x4, 0x0, 0x0, 0x0, 0x8⟩, -- RFB_FBL_UNITS
  ⟨0x40060414, 1, 0x4, 0x0, 0xF, 0x0, 0x0⟩, -- RFB_FBL_EVT
  ⟨0x40060418, 1, 0x4, 0x0, 0x0, 0x0, 0x0⟩, -- RFB_FBL_DETCNT
  ⟨0x4006041C, 1, 0x4, 0x0, 0x0, 0x0, 0x0⟩, -- RFB_FBL_BUSYCNT
  ⟨0x40060420, 1, 0x4, 0x0, 0x0, 0x0, 0x0⟩, -- RFB_FBL_UNLKCNT
  ⟨0x40060424, 1, 0x4, 0x0, 0x0, 0x0, 0x0⟩, -- RFB_FBL_MUTECNT
  ⟨0x40060428, 1, 0x4, 0x0, 0x0, 0x0, 0x0⟩, -- RFB_FBL_NOUNIT
  ⟨0x4006042C, 1, 0x4, 0x0, 0x0, 0x0, 0x0⟩, -- RFB_FBL_GAIN
  ⟨0x40060480, 8, 0x4, 0x0, 0x0, 0x0, 0x0⟩, -- RFB_FBL_UNITu
  ⟨0x40060500, 16, 0x4, 0x0, 0x0, 0x0, 0x0⟩] -- RFB_FBL_OUTc

def rowsLum : List RegRow := [
  ⟨0x40080000, 1, 0x4, 0x0, 0x0, 0x0, 0x1⟩, -- LUM_ID
  ⟨0x40080004, 1, 0x4, 0x0, 0x0, 0x0, 0x0⟩, -- LUM_STAT
  ⟨0x40080008, 1, 0x4, 0x0, 0x1F7, 0x0, 0x0⟩, -- LUM_EVT
  ⟨0x4008000C, 1, 0x4, 0x1F7, 0x0, 0x0, 0x0⟩, -- LUM_EVT_EN
  ⟨0x40080010, 1, 0x4, 0x87000000, 0x0, 0x0, 0x3000000⟩, -- LUM_DALI_CFG
  ⟨0x40080014, 1, 0x4, 0xD0FFFFFF, 0x0, 0x0, 0x0⟩, -- LUM_DALI_FWD
  ⟨0x40080018, 1, 0x4, 0x0, 0x0, 0x0, 0x0⟩, -- LUM_DALI_CTL
  ⟨0x4008001C, 1, 0x4, 0x0, 0x0, 0x0, 0x0⟩, -- LUM_DALI_RES
  ⟨0x40080020, 1, 0x4, 0x0, 0x0, 0x0, 0x0⟩, -- LUM_DALI_RX
  ⟨0x40080024, 1, 0x4, 0x0, 0x0, 0x0, 0x0⟩, -- LUM_DALI_RXT
  ⟨0x40080028, 1, 0x4, 0x0, 0x0, 0x0, 0x0⟩, -- LUM_DALI_CNT
  ⟨0x40080040, 1, 0x4, 0xFF0FFF, 0x0, 0x0, 0x0⟩, -- LUM_DIM_STG
  ⟨0x40080044, 1, 0x4, 0x80000000, 0x0, 0x0, 0x0⟩, -- LUM_DIM_CTL
  ⟨0x40080048, 1, 0x4, 0x0, 0x0, 0x0, 0x0⟩, -- LUM_DIM_ACT
  ⟨0x40080060, 1, 0x4, 0x83FF0003, 0x0, 0x0, 0x320000⟩, -- LUM_RLY_CFG
  ⟨0x40080064, 1, 0x4, 0x30000, 0x0, 0x0, 0x0⟩, -- LUM_RLY_CTL
  ⟨0x40080068, 1, 0x4, 0x0, 0x0, 0x0, 0x0⟩, -- LUM_RLY_CNT
  ⟨0x40080080, 1, 0x4, 0x830000FF, 0x0, 0x0, 0x0⟩, -- LUM_MOT_CFG
  ⟨0x40080084, 1, 0x4, 0x0, 0x0, 0x0, 0x0⟩, -- LUM_MOT_REPORT
  ⟨0x40080088, 1, 0x4, 0x0, 0x0, 0x0, 0x0⟩, -- LUM_MOT_CNT
  ⟨0x400800A0, 1, 0x4, 0x0, 0x0, 0x0, 0x0⟩, -- LUM_SAFE
  ⟨0x40080FFC, 1, 0x4, 0x17, 0x0, 0x0, 0x17⟩] -- LUM_OWN

def rowsMet : List RegRow := [
  ⟨0x40081000, 1, 0x4, 0x0, 0x0, 0x0, 0x1⟩, -- MET_ID
  ⟨0x40081004, 1, 0x4, 0x800000F3, 0x0, 0x0, 0x0⟩, -- MET_CFG
  ⟨0x40081008, 1, 0x4, 0x0, 0x0, 0x0, 0x0⟩, -- MET_STAT
  ⟨0x4008100C, 1, 0x4, 0x0, 0x7, 0x0, 0x0⟩, -- MET_EVT
  ⟨0x40081010, 1, 0x4, 0x7, 0x0, 0x0, 0x0⟩, -- MET_EVT_EN
  ⟨0x40081014, 1, 0x4, 0x0, 0x0, 0x0, 0x0⟩, -- MET_VRMS
  ⟨0x40081018, 1, 0x4, 0x0, 0x0, 0x0, 0x0⟩, -- MET_IRMS1
  ⟨0x4008101C, 1, 0x4, 0x0, 0x0, 0x0, 0x0⟩, -- MET_IRMS2
  ⟨0x40081020, 1, 0x4, 0x0, 0x0, 0x0, 0x0⟩, -- MET_P1
  ⟨0x40081024, 1, 0x4, 0x0, 0x0, 0x0, 0x0⟩, -- MET_P2
  ⟨0x40081030, 1, 0x4, 0x0, 0x0, 0x0, 0x0⟩, -- MET_E1_LO
  ⟨0x40081034, 1, 0x4, 0x0, 0x0, 0x0, 0x0⟩, -- MET_E1_HI
  ⟨0x40081038, 1, 0x4, 0x0, 0x0, 0x0, 0x0⟩, -- MET_E2_LO
  ⟨0x4008103C, 1, 0x4, 0x0, 0x0, 0x0, 0x0⟩, -- MET_E2_HI
  ⟨0x40081040, 1, 0x4, 0xFFFFFFFF, 0x0, 0x0, 0x0⟩, -- MET_QUANT
  ⟨0x40081044, 1, 0x4, 0x0, 0x0, 0x0, 0x0⟩, -- MET_CTL
  ⟨0x40081050, 1, 0x4, 0x0, 0x0, 0x0, 0x0⟩, -- MET_SNAP_E1_LO
  ⟨0x40081054, 1, 0x4, 0x0, 0x0, 0x0, 0x0⟩, -- MET_SNAP_E1_HI
  ⟨0x40081058, 1, 0x4, 0x0, 0x0, 0x0, 0x0⟩, -- MET_SNAP_E2_LO
  ⟨0x4008105C, 1, 0x4, 0x0, 0x0, 0x0, 0x0⟩, -- MET_SNAP_E2_HI
  ⟨0x40081060, 1, 0x4, 0x0, 0x0, 0x0, 0x0⟩, -- MET_SNAP_CNT
  ⟨0x40081064, 1, 0x4, 0x0, 0x0, 0x0, 0x0⟩, -- MET_SNAP_EMB
  ⟨0x40081080, 1, 0x4, 0xFFFFFFFF, 0x0, 0x0, 0x400000⟩, -- MET_CAL_STG_V
  ⟨0x40081084, 1, 0x4, 0xFFFFFFFF, 0x0, 0x0, 0x400000⟩, -- MET_CAL_STG_I1
  ⟨0x40081088, 1, 0x4, 0xFFFFFFFF, 0x0, 0x0, 0x400000⟩, -- MET_CAL_STG_I2
  ⟨0x40081090, 1, 0x4, 0x0, 0x0, 0x0, 0x400000⟩, -- MET_CAL_ACT_V
  ⟨0x40081094, 1, 0x4, 0x0, 0x0, 0x0, 0x400000⟩, -- MET_CAL_ACT_I1
  ⟨0x40081098, 1, 0x4, 0x0, 0x0, 0x0, 0x400000⟩, -- MET_CAL_ACT_I2
  ⟨0x4008109C, 1, 0x4, 0x301FF, 0x100000, 0x0, 0x7000⟩, -- MET_CAL_COMMIT
  ⟨0x400810A0, 1, 0x4, 0xFFFFFFFF, 0x0, 0x0, 0x0⟩, -- MET_CAL_CASN
  ⟨0x40081FFC, 1, 0x4, 0x17, 0x0, 0x0, 0x17⟩] -- MET_OWN

def rowsSe0 : List RegRow := [
  ⟨0x40090000, 1, 0x4, 0x0, 0x0, 0x0, 0x1⟩, -- SEn_ID
  ⟨0x40090004, 1, 0x4, 0xB3170100, 0x0, 0x0, 0x0⟩, -- SEn_CFG
  ⟨0x40090008, 1, 0x4, 0xFFFFFFFF, 0x0, 0x0, 0x1C200⟩, -- SEn_RATE
  ⟨0x4009000C, 1, 0x4, 0x0, 0x0, 0x0, 0x1C200⟩, -- SEn_RATE_ACT
  ⟨0x40090010, 1, 0x4, 0x0, 0x0, 0x0, 0x0⟩, -- SEn_STAT
  ⟨0x40090014, 1, 0x4, 0x0, 0xFF, 0x0, 0x0⟩, -- SEn_EVT
  ⟨0x40090018, 1, 0x4, 0xFF, 0x0, 0x0, 0x0⟩, -- SEn_EVT_EN
  ⟨0x40090020, 1, 0x4, 0x0, 0x0, 0x0, 0x0⟩, -- SEn_TXD
  ⟨0x40090024, 1, 0x4, 0x0, 0x0, 0x0, 0x0⟩, -- SEn_RXD
  ⟨0x40090028, 1, 0x4, 0x7FFFFF, 0x0, 0x0, 0x0⟩, -- SEn_XFER
  ⟨0x4009002C, 1, 0x4, 0x0, 0x0, 0x0, 0x0⟩, -- SEn_CTL
  ⟨0x40090030, 1, 0x4, 0x1F1F, 0x0, 0x0, 0x100⟩, -- SEn_THR
  ⟨0x40090FFC, 1, 0x4, 0x17, 0x0, 0x0, 0x17⟩] -- SEn_OWN

def rowsSe1 : List RegRow := [
  ⟨0x40091000, 1, 0x4, 0x0, 0x0, 0x0, 0x1⟩, -- SEn_ID
  ⟨0x40091004, 1, 0x4, 0xB3170100, 0x0, 0x0, 0x0⟩, -- SEn_CFG
  ⟨0x40091008, 1, 0x4, 0xFFFFFFFF, 0x0, 0x0, 0x1C200⟩, -- SEn_RATE
  ⟨0x4009100C, 1, 0x4, 0x0, 0x0, 0x0, 0x1C200⟩, -- SEn_RATE_ACT
  ⟨0x40091010, 1, 0x4, 0x0, 0x0, 0x0, 0x0⟩, -- SEn_STAT
  ⟨0x40091014, 1, 0x4, 0x0, 0xFF, 0x0, 0x0⟩, -- SEn_EVT
  ⟨0x40091018, 1, 0x4, 0xFF, 0x0, 0x0, 0x0⟩, -- SEn_EVT_EN
  ⟨0x40091020, 1, 0x4, 0x0, 0x0, 0x0, 0x0⟩, -- SEn_TXD
  ⟨0x40091024, 1, 0x4, 0x0, 0x0, 0x0, 0x0⟩, -- SEn_RXD
  ⟨0x40091028, 1, 0x4, 0x7FFFFF, 0x0, 0x0, 0x0⟩, -- SEn_XFER
  ⟨0x4009102C, 1, 0x4, 0x0, 0x0, 0x0, 0x0⟩, -- SEn_CTL
  ⟨0x40091030, 1, 0x4, 0x1F1F, 0x0, 0x0, 0x100⟩, -- SEn_THR
  ⟨0x40091FFC, 1, 0x4, 0x17, 0x0, 0x0, 0x17⟩] -- SEn_OWN

def rowsSe2 : List RegRow := [
  ⟨0x40092000, 1, 0x4, 0x0, 0x0, 0x0, 0x1⟩, -- SEn_ID
  ⟨0x40092004, 1, 0x4, 0xB3170100, 0x0, 0x0, 0x0⟩, -- SEn_CFG
  ⟨0x40092008, 1, 0x4, 0xFFFFFFFF, 0x0, 0x0, 0x1C200⟩, -- SEn_RATE
  ⟨0x4009200C, 1, 0x4, 0x0, 0x0, 0x0, 0x1C200⟩, -- SEn_RATE_ACT
  ⟨0x40092010, 1, 0x4, 0x0, 0x0, 0x0, 0x0⟩, -- SEn_STAT
  ⟨0x40092014, 1, 0x4, 0x0, 0xFF, 0x0, 0x0⟩, -- SEn_EVT
  ⟨0x40092018, 1, 0x4, 0xFF, 0x0, 0x0, 0x0⟩, -- SEn_EVT_EN
  ⟨0x40092020, 1, 0x4, 0x0, 0x0, 0x0, 0x0⟩, -- SEn_TXD
  ⟨0x40092024, 1, 0x4, 0x0, 0x0, 0x0, 0x0⟩, -- SEn_RXD
  ⟨0x40092028, 1, 0x4, 0x7FFFFF, 0x0, 0x0, 0x0⟩, -- SEn_XFER
  ⟨0x4009202C, 1, 0x4, 0x0, 0x0, 0x0, 0x0⟩, -- SEn_CTL
  ⟨0x40092030, 1, 0x4, 0x1F1F, 0x0, 0x0, 0x100⟩, -- SEn_THR
  ⟨0x40092FFC, 1, 0x4, 0x17, 0x0, 0x0, 0x17⟩] -- SEn_OWN

def rowsSe3 : List RegRow := [
  ⟨0x40093000, 1, 0x4, 0x0, 0x0, 0x0, 0x1⟩, -- SEn_ID
  ⟨0x40093004, 1, 0x4, 0xB3170100, 0x0, 0x0, 0x0⟩, -- SEn_CFG
  ⟨0x40093008, 1, 0x4, 0xFFFFFFFF, 0x0, 0x0, 0x1C200⟩, -- SEn_RATE
  ⟨0x4009300C, 1, 0x4, 0x0, 0x0, 0x0, 0x1C200⟩, -- SEn_RATE_ACT
  ⟨0x40093010, 1, 0x4, 0x0, 0x0, 0x0, 0x0⟩, -- SEn_STAT
  ⟨0x40093014, 1, 0x4, 0x0, 0xFF, 0x0, 0x0⟩, -- SEn_EVT
  ⟨0x40093018, 1, 0x4, 0xFF, 0x0, 0x0, 0x0⟩, -- SEn_EVT_EN
  ⟨0x40093020, 1, 0x4, 0x0, 0x0, 0x0, 0x0⟩, -- SEn_TXD
  ⟨0x40093024, 1, 0x4, 0x0, 0x0, 0x0, 0x0⟩, -- SEn_RXD
  ⟨0x40093028, 1, 0x4, 0x7FFFFF, 0x0, 0x0, 0x0⟩, -- SEn_XFER
  ⟨0x4009302C, 1, 0x4, 0x0, 0x0, 0x0, 0x0⟩, -- SEn_CTL
  ⟨0x40093030, 1, 0x4, 0x1F1F, 0x0, 0x0, 0x100⟩, -- SEn_THR
  ⟨0x40093FFC, 1, 0x4, 0x17, 0x0, 0x0, 0x17⟩] -- SEn_OWN

def rowsTmr : List RegRow := [
  ⟨0x40098000, 1, 0x4, 0x0, 0x0, 0x0, 0x1⟩, -- TMR_ID
  ⟨0x40098100, 4, 0x40, 0xFFFF0F30, 0x0, 0x0, 0x0⟩, -- TMR_CFGt
  ⟨0x40098104, 4, 0x40, 0x0, 0x0, 0x0, 0x0⟩, -- TMR_CNTt
  ⟨0x40098108, 4, 0x40, 0xFFFFFFFF, 0x0, 0x0, 0xFFFFFFFF⟩, -- TMR_TOPt
  ⟨0x4009810C, 4, 0x40, 0xFFFFFFFF, 0x0, 0x0, 0xFFFFFFFF⟩, -- TMR_CMP0t
  ⟨0x40098110, 4, 0x40, 0xFFFFFFFF, 0x0, 0x0, 0xFFFFFFFF⟩, -- TMR_CMP1t
  ⟨0x40098114, 4, 0x40, 0x0, 0x0, 0x0, 0x0⟩, -- TMR_CAPt
  ⟨0x40098118, 4, 0x40, 0x0, 0x0, 0x0, 0x0⟩, -- TMR_CTLt
  ⟨0x4009811C, 4, 0x40, 0x0, 0x7, 0x0, 0x0⟩, -- TMR_EVTt
  ⟨0x40098120, 4, 0x40, 0x7, 0x0, 0x0, 0x0⟩, -- TMR_EVT_ENt
  ⟨0x40098124, 4, 0x40, 0x0, 0x0, 0x0, 0x0⟩, -- TMR_STATt
  ⟨0x40098FFC, 1, 0x4, 0x17, 0x0, 0x0, 0x17⟩] -- TMR_OWN

def rowsAdc : List RegRow := [
  ⟨0x4009A000, 1, 0x4, 0x0, 0x0, 0x0, 0x1⟩, -- ADC_ID
  ⟨0x4009A004, 1, 0x4, 0xC0FF0F03, 0x0, 0x0, 0x0⟩, -- ADC_CFG
  ⟨0x4009A008, 1, 0x4, 0x0, 0x0, 0x0, 0x0⟩, -- ADC_CTL
  ⟨0x4009A00C, 1, 0x4, 0x0, 0x0, 0x0, 0x0⟩, -- ADC_STAT
  ⟨0x4009A010, 1, 0x4, 0x0, 0x3, 0x0, 0x0⟩, -- ADC_EVT
  ⟨0x4009A014, 1, 0x4, 0x3, 0x0, 0x0, 0x0⟩, -- ADC_EVT_EN
  ⟨0x4009A020, 8, 0x4, 0x0, 0x0, 0x0, 0x0⟩, -- ADC_RESk
  ⟨0x4009A040, 8, 0x4, 0xFFF0FFF, 0x0, 0x0, 0xFFF0000⟩, -- ADC_LIMk
  ⟨0x4009AFFC, 1, 0x4, 0x17, 0x0, 0x0, 0x17⟩] -- ADC_OWN

def rowsDma : List RegRow := [
  ⟨0x400A0000, 1, 0x4, 0x0, 0xFFFF, 0x0, 0x0⟩, -- DMA_DONE_STAT
  ⟨0x400A0004, 1, 0x4, 0x0, 0xFFFF, 0x0, 0x0⟩, -- DMA_ERR_STAT
  ⟨0x400A0100, 16, 0x20, 0xB7110000, 0x0, 0x0, 0x7000000⟩, -- DMA_CHn_CFG
  ⟨0x400A0104, 16, 0x20, 0xFFFFFFF0, 0x0, 0x0, 0x0⟩, -- DMA_CHn_DESC
  ⟨0x400A0108, 16, 0x20, 0x0, 0x0, 0x0, 0x0⟩, -- DMA_CHn_CTL
  ⟨0x400A010C, 16, 0x20, 0x0, 0x0, 0x0, 0x0⟩, -- DMA_CHn_STAT
  ⟨0x400A0110, 16, 0x20, 0x0, 0x0, 0x0, 0x0⟩] -- DMA_CHn_CUR

def rowsInt : List RegRow := [
  ⟨0x400B0000, 3, 0x4, 0x0, 0x0, 0x0, 0x0⟩, -- INT_PENDn
  ⟨0x400B0010, 1, 0x4, 0x0, 0x0, 0x0, 0x7F⟩, -- INT_CLAIM_A
  ⟨0x400B0014, 1, 0x4, 0x0, 0x0, 0x0, 0x0⟩, -- INT_DONE_A
  ⟨0x400B0018, 1, 0x4, 0x0, 0x0, 0x0, 0x7F⟩, -- INT_CLAIM_B
  ⟨0x400B001C, 1, 0x4, 0x0, 0x0, 0x0, 0x0⟩, -- INT_DONE_B
  ⟨0x400B0020, 1, 0x4, 0x7, 0x0, 0x0, 0x0⟩, -- INT_THRESH_A
  ⟨0x400B0024, 1, 0x4, 0x7, 0x0, 0x0, 0x0⟩, -- INT_THRESH_B
  ⟨0x400B0030, 1, 0x4, 0x0, 0x0, 0x0, 0x0⟩, -- INT_DOORBELL
  ⟨0x400B0040, 1, 0x4, 0x0, 0x0, 0x0, 0x0⟩, -- INT_FAULT_A_ADDR
  ⟨0x400B0044, 1, 0x4, 0x0, 0x0, 0xC000010F, 0x0⟩, -- INT_FAULT_A_SYN
  ⟨0x400B0048, 1, 0x4, 0x0, 0x0, 0x0, 0x0⟩, -- INT_FAULT_B_ADDR
  ⟨0x400B004C, 1, 0x4, 0x0, 0x0, 0xC000010F, 0x0⟩, -- INT_FAULT_B_SYN
  ⟨0x400B0050, 1, 0x4, 0x0, 0x7F, 0x0, 0x0⟩, -- INT_VIOL
  ⟨0x400B0100, 96, 0x4, 0x37, 0x0, 0x0, 0x0⟩] -- INT_CFGn

def rowsHst : List RegRow := [
  ⟨0x400C0000, 1, 0x4, 0x0, 0x0, 0x0, 0x1⟩, -- HST_ID
  ⟨0x400C0004, 1, 0x4, 0x0, 0x0, 0x0, 0x0⟩, -- HST_STAT
  ⟨0x400C0008, 1, 0x4, 0x0, 0x0, 0x0, 0x1C200⟩, -- HST_BAUD
  ⟨0x400C000C, 1, 0x4, 0x1, 0x0, 0x0, 0x0⟩, -- HST_CFG
  ⟨0x400C0010, 1, 0x4, 0x0, 0xF, 0x0, 0x0⟩, -- HST_EVT
  ⟨0x400C0014, 1, 0x4, 0xF, 0x0, 0x0, 0x0⟩, -- HST_EVT_EN
  ⟨0x400C0018, 1, 0x4, 0x0, 0x0, 0x0, 0x0⟩, -- HST_ERR_CNT
  ⟨0x400C001C, 1, 0x4, 0x0, 0x0, 0x0, 0x0⟩, -- HST_CMD_CNT
  ⟨0x400C0FFC, 1, 0x4, 0x17, 0x0, 0x0, 0x17⟩] -- HST_OWN

def rowsSvc : List RegRow := [
  ⟨0x400C1000, 1, 0x4, 0x0, 0x0, 0x0, 0x1⟩, -- SVC_ID
  ⟨0x400C1004, 1, 0x4, 0x0, 0x0, 0x0, 0x0⟩, -- SVC_STAT
  ⟨0x400C1008, 1, 0x4, 0x0, 0x0, 0x0, 0x0⟩, -- SVC_BAUD
  ⟨0x400C100C, 1, 0x4, 0x0, 0xF, 0x0, 0x0⟩, -- SVC_EVT
  ⟨0x400C1010, 1, 0x4, 0xF, 0x0, 0x0, 0x0⟩, -- SVC_EVT_EN
  ⟨0x400C1014, 1, 0x4, 0x0, 0x0, 0x0, 0x0⟩, -- SVC_ERR_CNT
  ⟨0x400C1018, 1, 0x4, 0x0, 0x0, 0x0, 0x0⟩] -- SVC_AUTH_CNT

def rowsLcs : List RegRow := [
  ⟨0x400D0000, 1, 0x4, 0x0, 0x0, 0x0, 0x0⟩, -- LCS_PART_ID
  ⟨0x400D0004, 1, 0x4, 0x0, 0x0, 0x0, 0x0⟩, -- LCS_UID_LO
  ⟨0x400D0008, 1, 0x4, 0x0, 0x0, 0x0, 0x0⟩, -- LCS_UID_HI
  ⟨0x400D0010, 1, 0x4, 0x0, 0x0, 0x0, 0x0⟩, -- LCS_STATE
  ⟨0x400D0014, 1, 0x4, 0x0, 0x0, 0x0, 0x0⟩, -- LCS_DBG
  ⟨0x400D0020, 4, 0x4, 0x0, 0x0, 0x0, 0x0⟩, -- LCS_CHALn
  ⟨0x400D0030, 1, 0x4, 0xF000000, 0x0, 0x0, 0x0⟩, -- LCS_CMD
  ⟨0x400D0034, 1, 0x4, 0xFFFFFFFF, 0x0, 0x0, 0x0⟩, -- LCS_CMD_ARG
  ⟨0x400D0038, 1, 0x4, 0x0, 0x0, 0x0, 0x0⟩, -- LCS_CMD_RES
  ⟨0x400D0040, 8, 0x4, 0x0, 0x0, 0x0, 0x0⟩, -- LCS_OWNER_HASHn
  ⟨0x400D0100, 48, 0x4, 0xFFFFFFFF, 0x0, 0x0, 0x0⟩] -- LCS_TOKENn

/-- The register table of the block whose 4 KB page holds the address (Table 0-4, R16). -/
def rowsOfPage (p : Nat) : List RegRow :=
  if p == 0x40000 then rowsPwr
  else if p == 0x40001 then rowsRst
  else if p == 0x40002 then rowsKnd
  else if p == 0x40003 then rowsEmb
  else if p == 0x40004 then rowsClk
  else if p == 0x40005 then rowsSup
  else if p == 0x40006 then rowsPad
  else if p == 0x40007 then rowsRtc
  else if p == 0x40008 then rowsFlu
  else if p == 0x40009 then rowsAsh
  else if p == 0x40010 then rowsFlc
  else if p == 0x40011 then rowsUpd
  else if p == 0x40020 then rowsVltPg0
  else if p == 0x40021 then rowsVltPg1
  else if p == 0x40022 then rowsVltPg2
  else if p == 0x40023 then rowsVltPg3
  else if p == 0x40024 then rowsVltPg4
  else if p == 0x40025 then rowsVltPg5
  else if p == 0x40026 then rowsVltPg6
  else if p == 0x40027 then rowsVltPg7
  else if p == 0x40028 then rowsVlt
  else if p == 0x40030 then rowsLce
  else if p == 0x40040 then rowsHrt
  else if p == 0x40050 then rowsRfa
  else if p == 0x40060 then rowsRfb
  else if p == 0x40080 then rowsLum
  else if p == 0x40081 then rowsMet
  else if p == 0x40090 then rowsSe0
  else if p == 0x40091 then rowsSe1
  else if p == 0x40092 then rowsSe2
  else if p == 0x40093 then rowsSe3
  else if p == 0x40098 then rowsTmr
  else if p == 0x4009A then rowsAdc
  else if p == 0x400A0 then rowsDma
  else if p == 0x400B0 then rowsInt
  else if p == 0x400C0 then rowsHst
  else if p == 0x400C1 then rowsSvc
  else if p == 0x400D0 then rowsLcs
  else []

/-- True of the 4 KB pages that a block of Table 0-4 occupies (R16). -/
def blockPages : List Nat := [0x40000, 0x40001, 0x40002, 0x40003, 0x40004, 0x40005, 0x40006, 0x40007, 0x40008, 0x40009, 0x40010, 0x40011, 0x40020, 0x40021, 0x40022, 0x40023, 0x40024, 0x40025, 0x40026, 0x40027, 0x40028, 0x40030, 0x40040, 0x40050, 0x40060, 0x40080, 0x40081, 0x40090, 0x40091, 0x40092, 0x40093, 0x40098, 0x4009A, 0x400A0, 0x400B0, 0x400C0, 0x400C1, 0x400D0]

end Sys2Proof.Machine
end

