-- ==== Sys2Proof/Machine/Sparse.lean ====
section
/-! DEFINITION. Sparse maps from addresses: a list of (address, value) pairs and the value `d` an unlisted address reads as.
Memory and the register file are both held in this form. -/

namespace Sys2Proof.Machine

/-- The value at `k`. -/
def Sparse.get {α : Type} (d : Nat → α) : List (Nat × α) → Nat → α
  | [], k => d k
  | (a, v) :: t, k => if a = k then v else Sparse.get d t k

/-- The list without the address `k`. -/
def Sparse.erase {α : Type} : List (Nat × α) → Nat → List (Nat × α)
  | [], _ => []
  | (a, v) :: t, k => if a = k then Sparse.erase t k else (a, v) :: Sparse.erase t k

/-- The list with (`k`, `v`) placed before the first greater address. -/
def Sparse.insert {α : Type} : List (Nat × α) → Nat → α → List (Nat × α)
  | [], k, v => [(k, v)]
  | (a, w) :: t, k, v => if k < a then (k, v) :: (a, w) :: t else (a, w) :: Sparse.insert t k v

/-- The map with `v` at `k`: an address that reads as unlisted is not listed. -/
def Sparse.put {α : Type} [DecidableEq α] (d : Nat → α) (l : List (Nat × α)) (k : Nat) (v : α) : List (Nat × α) :=
  if v = d k then Sparse.erase l k else Sparse.insert (Sparse.erase l k) k v

/-- Every address of the list is above `lo`, rising strictly, and no entry equals what its address reads as unlisted. -/
def Sparse.above {α : Type} [DecidableEq α] (d : Nat → α) : Nat → List (Nat × α) → Bool
  | _, [] => true
  | lo, (a, v) :: t => decide (lo ≤ a) && decide (v ≠ d a) && Sparse.above d (a + 1) t

/-- The canonical form. -/
def Sparse.wf {α : Type} [DecidableEq α] (d : Nat → α) (l : List (Nat × α)) : Bool := Sparse.above d 0 l

/-- The map with every address that `p` accepts back at its unlisted value. -/
def Sparse.drop {α : Type} (p : Nat → Bool) (l : List (Nat × α)) : List (Nat × α) := l.filter (fun c => !p c.1)

end Sys2Proof.Machine
end

