-- ==== Sys2Proof/Machine/Ops.lean ====
section
/-! DEFINITION. The named operations over the register file and memory, the clocks, free values and the flue's event queue. -/

namespace Sys2Proof

/-- The other core. -/
def CoreId.other : CoreId → CoreId
  | .a => .b
  | .b => .a

/-- The core of a bit: 0 A, 1 B. -/
def CoreId.ofBit (n : Nat) : CoreId := if n = 0 then .a else .b

/-- A core's number: 0 A, 1 B. -/
def CoreId.bit : CoreId → Nat
  | .a => 0
  | .b => 1

/-- The identity of a core as an application core (Table 1-5). -/
def CoreId.owner : CoreId → Nat
  | .a => 1
  | .b => 2

end Sys2Proof

namespace Sys2Proof.Machine

/-! ## Registers -/

/-- The row of a register table covers the address. -/
def RegRow.has (r : RegRow) (a : Nat) : Bool :=
  decide (r.base ≤ a) && decide (a < r.base + r.count * r.stride) && (a - r.base) % r.stride == 0

/-- The register table row of an address (R7: none for an offset that is not listed). -/
def rowOf (a : Nat) : Option RegRow := (rowsOfPage (a / 0x1000)).find? (fun r => r.has a)

/-- The value of the Reset column at an address (R9); 0 where no register is (R7). -/
def regDefault (a : Nat) : Word := match rowOf a with
  | some r => r.reset
  | none => 0

/-- Read a register. -/
def State.rd (s : State) (a : Nat) : Word := Sparse.get regDefault s.regs a

/-- Set a register. -/
def State.wr (s : State) (a : Nat) (v : Word) : State := s.mRegs (fun r => Sparse.put regDefault r a v)

/-- Read a field of a register. -/
def State.fg (s : State) (f : Fld) : Nat := wField (s.rd f.addr) f.hi f.lo

/-- Set a field of a register. -/
def State.fp (s : State) (f : Fld) (v : Nat) : State := s.wr f.addr (wSetField (s.rd f.addr) f.hi f.lo v)

/-- A field is not zero. -/
def State.fb (s : State) (f : Fld) : Bool := s.fg f != 0

/-- Set a one-bit field. -/
def State.fset (s : State) (f : Fld) : State := s.fp f 1

/-- Clear a field. -/
def State.fclr (s : State) (f : Fld) : State := s.fp f 0

/-- Count a saturating field up by `n`. -/
def State.fadd (s : State) (f : Fld) (n : Nat) : State := s.fp f (min (s.fg f + n) (2 ^ (f.hi + 1 - f.lo) - 1))

/-- Count a saturating field up by one. -/
def State.fsat (s : State) (f : Fld) : State := s.fadd f 1

/-- A whole register that counts and saturates. -/
def State.rsat (s : State) (a : Nat) : State := s.wr a (w32 (min ((s.rd a).toNat + 1) 0xFFFFFFFF))

/-- A whole register that counts modulo 2^32. -/
def State.rinc (s : State) (a : Nat) : State := s.wr a (s.rd a + 1)

/-- Set bit `n` of a register. -/
def State.rset (s : State) (a n : Nat) : State := s.wr a (s.rd a ||| w32 (2 ^ n))

/-- Clear bit `n` of a register. -/
def State.rclr (s : State) (a n : Nat) : State := s.wr a (s.rd a &&& ~~~ w32 (2 ^ n))

/-- Bit `n` of a register. -/
def State.rbit (s : State) (a n : Nat) : Bool := wBit (s.rd a) n

/-- What a write of `v` leaves in a register under the access type of each field: read/write bits take the value, write-1-to-clear
bits written as 1 clear, every other bit stays (Table 0-2, R8). -/
def regWritten (r : RegRow) (old v : Word) : Word :=
  ((old &&& ~~~ r.rw) ||| (v &&& r.rw)) &&& ~~~ (v &&& r.w1c)

/-- A plain register write by the access types of its fields (R6-R8). -/
def State.regStore (s : State) (a : Nat) (v : Word) : State := match rowOf a with
  | some r => s.wr a (regWritten r (s.rd a) v)
  | none => s

/-- Put every register of the addresses `p` accepts back to its reset value. -/
def State.regsReset (s : State) (p : Nat → Bool) : State := s.mRegs (Sparse.drop p)

/-! ## Memory -/

/-- The regions of Table 1-3. -/
inductive Region where
  | rom
  | flash
  | sram (bank : Nat)
  | ember
  | window
  | link (off : Nat)
  | periph (page : Nat)
  | unmapped
  deriving DecidableEq, Repr

/-- The region of an address (R16). -/
def regionOf (a : Nat) : Region :=
  if a < 0x40000 then .rom
  else if 0x10000000 ≤ a ∧ a < 0x10800000 then .flash
  else if 0x20000000 ≤ a ∧ a < 0x20180000 then .sram ((a - 0x20000000) / 0x20000)
  else if 0x28000000 ≤ a ∧ a < 0x28008000 then .ember
  else if 0x30000000 ≤ a ∧ a < 0x30020000 then .window
  else if 0x30040000 ≤ a ∧ a < 0x30080000 then .link (a - 0x30040000)
  else if blockPages.contains (a / 0x1000) then .periph (a / 0x1000)
  else .unmapped

/-- An address of flash. -/
def isFlash (a : Nat) : Bool := decide (0x10000000 ≤ a) && decide (a < 0x10800000)

/-- What an octet of memory that nothing has written reads as: erased flash reads 0xFF (R332); SRAM, ember memory, link RAM and the
window are wiped to zero at power-on (R308). -/
def memDefault (a : Nat) : Byte := if isFlash a then 0xFF else 0

/-- The flash block of an address (R329). -/
def blockOf (a : Nat) : Nat := (a - 0x10000000) / 0x10000

/-- The flash page of an address, numbered over the whole array. -/
def pageOf (a : Nat) : Nat := (a - 0x10000000) / 0x100

/-- The first address of a flash block. -/
def blockAddr (b : Nat) : Nat := 0x10000000 + b * 0x10000

/-- The block table's entry. -/
def State.blk (s : State) (b : Nat) : BlockSt := nth s.flc.blocks b ⟨0, 0, false, false⟩

/-- Read one octet of memory. A SUSPECT block and a torn page hold what the manual leaves open (R333, R337). -/
def State.rb (s : State) (a : Nat) : Byte :=
  if a < 0x40000 then Config.romByte a
  else if isFlash a then
    if (s.blk (blockOf a)).suspect then Config.suspectByte (s.blk (blockOf a)).count a
    else if s.flc.torn.contains (pageOf a) then Config.tornByte (s.blk (blockOf a)).count a
    else Sparse.get memDefault s.mem a
  else Sparse.get memDefault s.mem a

/-- Write one octet of memory. -/
def State.wb (s : State) (a : Nat) (v : Byte) : State := s.mMem (fun m => Sparse.put memDefault m a v)

/-- The `n` octets from an address, as a number, least significant octet first (R493). -/
def State.ld (s : State) (a : Nat) : Nat → Nat
  | 0 => 0
  | n + 1 => (s.rb a).toNat + 256 * s.ld (a + 1) n

/-- Write a number into `n` octets, least significant octet first (R493). -/
def State.st (s : State) (a : Nat) : Nat → Nat → State
  | 0, _ => s
  | n + 1, v => (s.wb a (BitVec.ofNat 8 v)).st (a + 1) n (v / 256)

/-- The word at an address. -/
def State.lw (s : State) (a : Nat) : Word := w32 (s.ld a 4)

/-- The words that lie wholly in a range are written with new ECC (R19). -/
def State.eccFix (s : State) (a e : Nat) : State :=
  s.mEccBad (fun l => l.filter (fun x => !(decide (a ≤ x) && decide (x + 4 ≤ e))))

/-- Write a word. -/
def State.sw (s : State) (a : Nat) (v : Word) : State := (s.st a 4 v.toNat).eccFix a (a + 4)

/-- The `n` octets from an address. -/
def State.bytes (s : State) (a : Nat) : Nat → List Byte
  | 0 => []
  | n + 1 => s.rb a :: s.bytes (a + 1) n

/-- Write octets from an address up, one by one. -/
def State.putOctets (s : State) (a : Nat) : List Byte → State
  | [] => s
  | b :: t => (s.wb a b).putOctets (a + 1) t

/-- Write octets from an address up. -/
def State.putBytes (s : State) (a : Nat) (l : List Byte) : State := (s.putOctets a l).eccFix a (a + l.length)

/-- Write zero, with valid ECC, to the addresses from `a` up to but not including `e` (R308). -/
def State.wipe (s : State) (a e : Nat) : State :=
  (s.mMem (Sparse.drop (fun x => decide (a ≤ x) && decide (x < e)))).mEccBad (fun l => l.filter (fun x => !(decide (a ≤ x) && decide (x < e))))

/-- Octets of a number, least significant first. -/
def leBytes : Nat → Nat → List Byte
  | 0, _ => []
  | n + 1, v => BitVec.ofNat 8 v :: leBytes n (v / 256)

/-- Octets of a number, most significant first. -/
def beBytes (n v : Nat) : List Byte := (leBytes n v).reverse

/-- The number octets stand for, least significant first. -/
def ofLe : List Byte → Nat
  | [] => 0
  | b :: t => b.toNat + 256 * ofLe t

/-- The number octets stand for, most significant first. -/
def ofBe (l : List Byte) : Nat := ofLe l.reverse

/-! ## Checks of stored records -/

/-- One bit of the CRC-32 of IEEE 802.3, in its reflected form. -/
def crc32Bit (c : Nat) : Nat := if c % 2 = 1 then Nat.xor 0xEDB88320 (c / 2) else c / 2

/-- One octet of the CRC-32. -/
def crc32Step (c : Nat) (b : Byte) : Nat :=
  crc32Bit (crc32Bit (crc32Bit (crc32Bit (crc32Bit (crc32Bit (crc32Bit (crc32Bit (Nat.xor c b.toNat))))))))

/-- CRC-32 (IEEE 802.3 polynomial) over octets. -/
def crc32 (l : List Byte) : Nat := Nat.xor 0xFFFFFFFF (l.foldl crc32Step 0xFFFFFFFF)

/-! ## Free values and time -/

/-- Draw a free value: nothing constrains it (log 3, DESIGN CHOICE). -/
def State.draw (s : State) : Word × State := (Config.freeWord s.free, { s with free := s.free + 1 })

/-- Draw `n` free values. -/
def State.draws (s : State) : Nat → List Word × State
  | 0 => ([], s)
  | n + 1 => let r := { s with free := s.free + 1 }.draws n; (Config.freeWord s.free :: r.1, r.2)

/-- The second of the ember timer (32,768 Hz, R34). -/
def State.sec (s : State) : Nat := s.rtc.ember / 32768

/-- Whole seconds since the ember timer read `t` (48 bits, R34). -/
def State.since (s : State) (t : Nat) : Nat := (s.rtc.ember + 0x1000000000000 - t) % 0x1000000000000 / 32768

/-! ## The flue's input -/

/-- A producer event of hop count `hop` goes to the flue (R268, R277). -/
def State.emit (s : State) (code hop : Nat) : State :=
  s.mFlue (fun x => { x with events := x.events ++ [⟨code, hop⟩] })

/-- A chained event: one above the hop count stored by the trigger of task `tk`, or 0 where the action was not started by the
flue (R277). -/
def State.emitChained (s : State) (code tk : Nat) : State :=
  match alGet s.flue.hops tk with
  | some h => s.emit code (h + 1)
  | none => s.emit code 0

/-- The hop count task `tk` stores while the action it started runs; `none`: the action was started otherwise (R277). -/
def State.setHop (s : State) (tk : Nat) (h : Option Nat) : State :=
  s.mFlue (fun x => { x with hops := match h with
    | some n => alSet x.hops tk n
    | none => alDel x.hops tk })

/-! ## Cores -/

/-- A core by name. -/
def State.core (s : State) : CoreId → CoreSt
  | .a => s.coreA
  | .b => s.coreB

/-- The state with a core replaced. -/
def State.setCore (s : State) (c : CoreId) (x : CoreSt) : State := match c with
  | .a => { s with coreA := x }
  | .b => { s with coreB := x }

/-- Repeat a state change over a list. -/
def State.forEach {α : Type} (s : State) (l : List α) (f : State → α → State) : State := l.foldl f s

/-- A pin whose owner changes loses its task slots (R487). -/
def State.slotsOff (s : State) (n : Nat) : State :=
  s.forEach (List.range 8) (fun s k => if s.fg (F.PAD_TSKk_IO k) = n then s.fclr (F.PAD_TSKk_EN k) else s)

end Sys2Proof.Machine
end

