-- ==== Sys2Proof/Machine/Crypto.lean ====
section
/-! DEFINITION. The published functions the manual names: SHA-256, AES, CMAC, counter mode, CBC-MAC, CCM*, the SP 800-108 KDF and
ECDSA P-256 verification. Octet strings are lists, first octet first. -/

namespace Sys2Proof.Machine

/-! ## SHA-256 (FIPS 180) -/

/-- The primes whose roots give the constants. -/
def shaPrimes : List Nat :=
  [2, 3, 5, 7, 11, 13, 17, 19, 23, 29, 31, 37, 41, 43, 47, 53, 59, 61, 67, 71, 73, 79, 83, 89, 97, 101, 103, 107, 109, 113, 127, 131] ++
  [137, 139, 149, 151, 157, 163, 167, 173, 179, 181, 191, 193, 197, 199, 211, 223, 227, 229, 233, 239, 241, 251, 257, 263, 269, 271, 277,
   281, 283, 293, 307, 311]

/-- The largest `x` over `r` with `x ^ d` at most `n`, its lower `k` bits being looked for. -/
def rootBits (d n : Nat) : Nat → Nat → Nat
  | 0, r => r
  | k + 1, r => rootBits d n k (if (r + 2 ^ k) ^ d ≤ n then r + 2 ^ k else r)

/-- The first 32 bits of the fraction of the `d`-th root of `p`. -/
def rootFraction (d p : Nat) : Word := w32 (rootBits d (p * 2 ^ (32 * d)) 37 0)

/-- XOR of a word's rotations to the right. -/
def rotSum (x : Word) (by_ : List Nat) : Word := by_.foldl (fun z k => z ^^^ x.rotateRight k) 0

/-- The working variables as the two sequences that the rounds extend, newest first: `as` begins a, b, c, d and `es` begins
e, f, g, h. -/
structure ShaRun where
  as : List Word
  es : List Word
  deriving DecidableEq, Repr

/-- One round with its constant and its schedule word. -/
def ShaRun.round (r : ShaRun) (k w : Word) : ShaRun :=
  let old (l : List Word) (i : Nat) := nth l i 0
  let choice := old r.es 2 ^^^ (old r.es 0 &&& (old r.es 1 ^^^ old r.es 2))
  let majority := (old r.as 0 &&& (old r.as 1 ||| old r.as 2)) ||| (old r.as 1 &&& old r.as 2)
  let mixed := k + w + old r.es 3 + choice + rotSum (old r.es 0) [6, 11, 25]
  { as := (majority + rotSum (old r.as 0) [2, 13, 22] + mixed) :: r.as.take 3
    es := (old r.as 3 + mixed) :: r.es.take 3 }

/-- The schedule word sixteen places on from the oldest of the last sixteen, which stand oldest first. -/
def shaNext (win : List Word) : Word :=
  let near := nth win 14 0
  let far := nth win 1 0
  nth win 0 0 + nth win 9 0 + (rotSum near [17, 19] ^^^ (near >>> 10)) + (rotSum far [7, 18] ^^^ (far >>> 3))

/-- The rounds of one block, one per constant; the schedule runs beside them as a window of sixteen words. -/
def ShaRun.rounds : List Word → List Word → ShaRun → ShaRun
  | [], _, r => r
  | k :: ks, win, r => ShaRun.rounds ks (win.tail ++ [shaNext win]) (r.round k (nth win 0 0))

/-- The words of octets, most significant octet first. -/
def beWords : Nat → List Byte → List Word
  | 0, _ => []
  | n + 1, l => w32 (ofBe (l.take 4)) :: beWords n (l.drop 4)

/-- One 64-octet block over the chaining value. -/
def ShaRun.absorb (ks : List Word) (h : ShaRun) (block : List Byte) : ShaRun :=
  let r := ShaRun.rounds ks (beWords 16 block) h
  { as := List.zipWith (fun x y => x + y) h.as r.as, es := List.zipWith (fun x y => x + y) h.es r.es }

/-- The next `n` blocks of a padded message. -/
def ShaRun.absorbAll (ks : List Word) : Nat → ShaRun → List Byte → ShaRun
  | 0, h, _ => h
  | n + 1, h, l => ShaRun.absorbAll ks n (h.absorb ks (l.take 64)) (l.drop 64)

/-- The octets that follow a message of `n` octets up to a whole block: a one bit, zeros, the length in bits. -/
def shaTail (n : Nat) : List Byte := (0x80 : Byte) :: (List.replicate ((119 - n % 64) % 64) 0 ++ beBytes 8 (8 * n))

/-- SHA-256 of an octet string. -/
def sha256 (m : List Byte) : List Byte :=
  let start : ShaRun := { as := (shaPrimes.take 4).map (rootFraction 2), es := ((shaPrimes.drop 4).take 4).map (rootFraction 2) }
  let r := ShaRun.absorbAll (shaPrimes.map (rootFraction 3)) (m.length / 64 + if 56 ≤ m.length % 64 then 2 else 1) start
    (m ++ shaTail m.length)
  (r.as ++ r.es).flatMap (fun w => beBytes 4 w.toNat)

/-! ## AES (FIPS 197) -/

/-- Doubling in GF(2^8). -/
def gfDbl (a : Byte) : Byte := (a <<< 1) ^^^ (if a.getLsbD 7 then 0x1B else 0)

/-- The S-box's table in FIPS 197: a row for each high digit of the octet, in which the value for low digit 0 stands first. -/
def aesRows : List Nat :=
  [0x637c777bf26b6fc53001672bfed7ab76, 0xca82c97dfa5947f0add4a2af9ca472c0, 0xb7fd9326363ff7cc34a5e5f171d83115,
   0x04c723c31896059a071280e2eb27b275, 0x09832c1a1b6e5aa0523bd6b329e32f84, 0x53d100ed20fcb15b6acbbe394a4c58cf,
   0xd0efaafb434d338545f9027f503c9fa8, 0x51a3408f929d38f5bcb6da2110fff3d2, 0xcd0c13ec5f974417c4a77e3d645d1973,
   0x60814fdc222a908846eeb814de5e0bdb, 0xe0323a0a4906245cc2d3ac629195e479, 0xe7c8376d8dd54ea96c56f4ea657aae08,
   0xba78252e1ca6b4c6e8dd741f4bbd8b8a, 0x703eb5664803f60e613557b986c11d9e, 0xe1f8981169d98e949b1e87e9ce5528df,
   0x8ca1890dbfe6426841992d0fb054bb16]

/-- The S-box. -/
def aesSub (a : Byte) : Byte := BitVec.ofNat 8 (nth aesRows (a.toNat / 16) 0 / 2 ^ (8 * (15 - a.toNat % 16)))

/-- XOR of two octet strings, over the shorter. -/
def xorL (a b : List Byte) : List Byte := List.zipWith (fun x y => x ^^^ y) a b

/-- Key expansion: the words so far, newest first, for a key of `nk` words; `i` is the next word's index. -/
def aesExpand (nk : Nat) : Nat → Nat → Byte → List (List Byte) → List (List Byte)
  | 0, _, _, w => w
  | n + 1, i, rc, w =>
    let t := nth w 0 []
    let o := nth w (nk - 1) []
    if i % nk = 0 then
      let r := (t.drop 1 ++ t.take 1).map aesSub
      aesExpand nk n (i + 1) (gfDbl rc) (xorL o (xorL r [rc, 0, 0, 0]) :: w)
    else if 6 < nk ∧ i % nk = 4 then aesExpand nk n (i + 1) rc (xorL o (t.map aesSub) :: w)
    else aesExpand nk n (i + 1) rc (xorL o t :: w)

/-- Octets in groups of four. -/
def groups4 : Nat → List Byte → List (List Byte)
  | 0, _ => []
  | n + 1, l => l.take 4 :: groups4 n (l.drop 4)

/-- The round keys of a 16- or 32-octet key, 16 octets each. -/
def aesKeys (k : List Byte) : List (List Byte) :=
  let nk := k.length / 4
  let rounds := nk + 6
  let w := (aesExpand nk (4 * (rounds + 1) - nk) nk 1 (groups4 nk k).reverse).reverse
  (List.range (rounds + 1)).map (fun r => ((w.drop (4 * r)).take 4).flatten)

/-- ShiftRows over the 16 octets in column order. -/
def aesShift (st : List Byte) : List Byte :=
  [0, 5, 10, 15, 4, 9, 14, 3, 8, 13, 2, 7, 12, 1, 6, 11].map (fun i => nth st i 0)

/-- MixColumns of one column. -/
def aesMixCol (c : List Byte) : List Byte := match c with
  | [a, b, c, d] =>
    [gfDbl a ^^^ gfDbl b ^^^ b ^^^ c ^^^ d, a ^^^ gfDbl b ^^^ gfDbl c ^^^ c ^^^ d,
     a ^^^ b ^^^ gfDbl c ^^^ gfDbl d ^^^ d, gfDbl a ^^^ a ^^^ b ^^^ c ^^^ gfDbl d]
  | _ => c

/-- The rounds of one block. -/
def aesRounds : List (List Byte) → List Byte → List Byte
  | [], st => st
  | [k], st => xorL (aesShift (st.map aesSub)) k
  | k :: t, st => aesRounds t (xorL ((groups4 4 (aesShift (st.map aesSub))).flatMap aesMixCol) k)

/-- AES of one 16-octet block under a 16- or 32-octet key. -/
def aes (k b : List Byte) : List Byte := match aesKeys k with
  | [] => b
  | k0 :: t => aesRounds t (xorL b k0)

/-! ## Modes -/

/-- CBC chaining over 16-octet blocks; the last block. -/
def cbcMac (k : List Byte) : Nat → List Byte → List Byte → List Byte
  | 0, c, _ => c
  | n + 1, c, l => cbcMac k n (aes k (xorL c (l.take 16))) (l.drop 16)

/-- Doubling in GF(2^128) for the CMAC subkeys. -/
def cmacDbl (l : List Byte) : List Byte :=
  let n := ofBe l
  beBytes 16 (if 2 ^ 127 ≤ n then Nat.xor (2 * n % 2 ^ 128) 0x87 else 2 * n)

/-- AES-CMAC (SP 800-38B). -/
def cmac (k m : List Byte) : List Byte :=
  let k1 := cmacDbl (aes k (List.replicate 16 0))
  let k2 := cmacDbl k1
  let nb := if m.isEmpty then 1 else (m.length + 15) / 16
  let lastB := m.drop (16 * (nb - 1))
  let fin := if lastB.length = 16 then xorL lastB k1
    else xorL (lastB ++ (0x80 : Byte) :: List.replicate (15 - lastB.length) 0) k2
  cbcMac k nb (List.replicate 16 0) (m.take (16 * (nb - 1)) ++ fin)

/-- The next counter block: the block as a 128-bit number, plus one. -/
def ctrNext (c : List Byte) : List Byte := beBytes 16 ((ofBe c + 1) % 2 ^ 128)

/-- Counter mode from a counter block. -/
def ctrMode (k : List Byte) : Nat → List Byte → List Byte → List Byte
  | 0, _, _ => []
  | n + 1, c, l => xorL (aes k c) (l.take 16) ++ ctrMode k n (ctrNext c) (l.drop 16)

/-- The counter block after `n` blocks. -/
def ctrAfter (c : List Byte) (n : Nat) : List Byte := beBytes 16 ((ofBe c + n) % 2 ^ 128)

/-- Octets padded with zero to whole blocks. -/
def padZero (l : List Byte) : List Byte := l ++ List.replicate ((16 - l.length % 16) % 16) 0

/-- Octets of the MIC of an IEEE 802.15.4 security level. -/
def micLen (level : Nat) : Nat := match level % 4 with
  | 1 => 4
  | 2 => 8
  | 3 => 16
  | _ => 0

/-- The CCM* tag of a-data and m-data before encryption (IEEE 802.15.4, L = 2). -/
def ccmTag (k nonce a m : List Byte) (tl : Nat) : List Byte :=
  let flags := (if a.isEmpty then 0 else 64) + (if tl = 0 then 0 else (tl - 2) / 2 * 8) + 1
  let b0 := BitVec.ofNat 8 flags :: nonce ++ beBytes 2 m.length
  let auth := (if a.isEmpty then [] else padZero (beBytes 2 a.length ++ a)) ++ padZero m
  (cbcMac k ((b0 ++ auth).length / 16) (List.replicate 16 0) (b0 ++ auth)).take tl

/-- The CCM* counter block `i`. -/
def ccmA (nonce : List Byte) (i : Nat) : List Byte := (0x01 : Byte) :: nonce ++ beBytes 2 i

/-- CCM* protection: the m-data as sent and the encrypted tag. -/
def ccmSeal (k nonce a m : List Byte) (tl : Nat) (enc : Bool) : List Byte × List Byte :=
  let t := ccmTag k nonce a m tl
  (if enc then ctrMode k ((m.length + 15) / 16) (ccmA nonce 1) m else m, xorL t (aes k (ccmA nonce 0)))

/-- CCM* opening: the m-data in clear, and whether the tag is right. -/
def ccmOpen (k nonce a c tag : List Byte) (enc : Bool) : List Byte × Bool :=
  let m := if enc then ctrMode k ((c.length + 15) / 16) (ccmA nonce 1) c else c
  (m, decide (xorL (ccmTag k nonce a m tag.length) (aes k (ccmA nonce 0)) = tag))

/-- SP 800-108 KDF in counter mode with CMAC: two outputs for 256 bits; counter and length of 32 bits, most significant octet first
(log 31, PRESUMED). -/
def kdf256 (k label : List Byte) : List Byte :=
  cmac k (beBytes 4 1 ++ label ++ [0] ++ beBytes 4 256) ++ cmac k (beBytes 4 2 ++ label ++ [0] ++ beBytes 4 256)

/-- The octets of an ASCII label. -/
def label (t : String) : List Byte := t.toList.map (fun c => BitVec.ofNat 8 c.toNat)

/-! ## ECDSA P-256 (FIPS 186) -/

/-- The field prime. -/
def p256 : Nat := 0xffffffff00000001000000000000000000000000ffffffffffffffffffffffff
/-- The group order. -/
def n256 : Nat := 0xffffffff00000000ffffffffffffffffbce6faada7179e84f3b9cac2fc632551
/-- The curve constant b. -/
def b256 : Nat := 0x5ac635d8aa3a93e7b3ebbd55769886bc651d06b0cc53b0f63bce3c3e27d2604b
/-- The base point. -/
def g256 : Nat × Nat :=
  (0x6b17d1f2e12c4247f8bce6e563a440f277037d812deb33a0f4a13945d898c296,
   0x4fe342e2fe1a7f9b8ee7eb4a7c0f9e162bce33576b315ececbb6406837bf51f5)

/-- `x ^ e mod m` over the low `n` bits of `e`. -/
def powMod (m : Nat) : Nat → Nat → Nat → Nat → Nat
  | 0, _, _, acc => acc
  | n + 1, x, e, acc => powMod m n (x * x % m) (e / 2) (if e % 2 = 1 then acc * x % m else acc)

/-- The inverse modulo a prime. -/
def invMod (m x : Nat) : Nat := powMod m 256 (x % m) (m - 2) 1

/-- Difference modulo `m`. -/
def subMod (m x y : Nat) : Nat := (x + (m - y % m)) % m

/-- Addition of curve points; `none` is the point at infinity. -/
def ecAdd : Option (Nat × Nat) → Option (Nat × Nat) → Option (Nat × Nat)
  | none, q => q
  | p, none => p
  | some (x1, y1), some (x2, y2) =>
    if x1 = x2 ∧ (y1 + y2) % p256 = 0 then none
    else
      let l := if x1 = x2 then subMod p256 (3 * x1 * x1) 3 * invMod p256 (2 * y1) % p256
        else subMod p256 y2 y1 * invMod p256 (subMod p256 x2 x1) % p256
      let x3 := subMod p256 (l * l) (x1 + x2)
      some (x3, subMod p256 (l * subMod p256 x1 x3) y1)

/-- Multiple of a point over the low `n` bits of the scalar. -/
def ecMul : Nat → Nat → Option (Nat × Nat) → Option (Nat × Nat)
  | 0, _, _ => none
  | n + 1, k, p => ecAdd (if k % 2 = 1 then p else none) (ecMul n (k / 2) (ecAdd p p))

/-- RESULT of a verification of a digest (R253): 1 VALID, 2 INVALID, 3 BADKEY, 4 BADSIG. -/
def ecdsaVerify (key sig digest : List Byte) : Nat :=
  let x := ofBe (key.take 32)
  let y := ofBe (key.drop 32)
  let r := ofBe (sig.take 32)
  let t := ofBe (sig.drop 32)
  let onCurve := decide (x < p256) && decide (y < p256) && decide (y * y % p256 = (x * x * x + (p256 - 3) * x + b256) % p256)
  if onCurve = false then 3
  else if r = 0 ∨ n256 ≤ r ∨ t = 0 ∨ n256 ≤ t then 4
  else
    let w := invMod n256 t
    let u1 := ofBe digest * w % n256
    let u2 := r * w % n256
    match ecAdd (ecMul 256 u1 (some g256)) (ecMul 256 u2 (some (x, y))) with
    | none => 2
    | some (px, _) => if px % n256 = r then 1 else 2

end Sys2Proof.Machine
end

