-- ==== Sys2Proof/Machine/Operands.lean ====
section
/-! DEFINITION. The operand forms of commands: who an initiator is to the owner model, whether its access is secure, the size of an
access, and the timelines and radios by name. -/

namespace Sys2Proof

/-- The core an initiator is, if it is one. -/
def Initiator.core : Initiator → Option CoreId
  | .coreA _ => some .a
  | .coreB _ => some .b
  | _ => none

/-- Octets of an access. -/
def Size.octets : Size → Nat
  | .byte => 1
  | .half => 2
  | .word => 4

/-- The access writes. -/
def Access.isWrite : Access → Bool
  | .write _ => true
  | _ => false

/-- A timeline's bit: 0 A, 1 B. -/
def Tl.bit : Tl → Nat
  | .a => 0
  | .b => 1

/-- The timeline of a bit. -/
def Tl.ofBit (n : Nat) : Tl := if n = 0 then .a else .b

/-- The other timeline. -/
def Tl.other : Tl → Tl
  | .a => .b
  | .b => .a

/-- The base address of a radio's registers (Table 0-4): Radio B's lie at the same offsets as Radio A's. -/
def Tl.radio : Tl → Nat
  | .a => 0
  | .b => 0x10000

/-- A field of Radio A's register block, as the same field of the radio of `t`. -/
def Tl.f (t : Tl) (f : Machine.Fld) : Machine.Fld := ⟨f.addr + t.radio, f.hi, f.lo⟩

end Sys2Proof

namespace Sys2Proof.Machine

/-- HEARTH's identity (Table 1-5). -/
abbrev ownHearth : Nat := 0
/-- CORE_A's identity. -/
abbrev ownA : Nat := 1
/-- CORE_B's identity. -/
abbrev ownB : Nat := 2
/-- PILOT's identity. -/
abbrev ownPilot : Nat := 3
/-- SVC's identity. -/
abbrev ownSvc : Nat := 4
/-- HOST's identity. -/
abbrev ownHost : Nat := 5
/-- DEBUG's identity. -/
abbrev ownDebug : Nat := 6
/-- No owner. -/
abbrev ownNone : Nat := 7

/-- The identity an initiator presents (Table 1-1, R21). -/
def State.owner (s : State) : Initiator → Nat
  | .coreA _ => if s.coreA.pilot then ownPilot else ownA
  | .coreB _ => if s.coreB.pilot then ownPilot else ownB
  | .dma ch => s.fg (F.DMA_CHn_CFG_OWNER ch)
  | .svc => ownSvc
  | .host => ownHost
  | .debug => ownDebug

/-- The number that stands for an initiator among the captures and held writes that each initiator has of its own (R37, R43, R494): a DMA
channel's are its own, apart from those of the core that owns it. -/
def State.capKey (s : State) : Initiator → Nat
  | .dma ch => 16 + ch
  | who => s.owner who

/-- The number of an initiator of Table 1-1, whatever identity it presents: core A 1, core B 2, a port 4 to 6, DMA channel n 16 + n. -/
def initNo : Initiator → Nat
  | .coreA _ => 1
  | .coreB _ => 2
  | .svc => 4
  | .host => 5
  | .debug => 6
  | .dma ch => 16 + ch

/-- The access is secure (R22). -/
def State.secure (s : State) : Initiator → Bool
  | .coreA m => m
  | .coreB m => m
  | .dma ch => s.fb (F.DMA_CHn_CFG_SEC ch)
  | .svc => s.fb F.SVC_STAT_SESSION
  | .host => false
  | .debug => s.fb F.LCS_DBG_OPEN

/-- The part has Radio B and timeline B (R1, R2). -/
def State.hasB (s : State) : Bool := decide (s.part = .dnl7240)

/-- The SYNC bit of a timeline in HRT_STAT. -/
def State.sync (s : State) : Tl → Bool
  | .a => s.fb F.HRT_STAT_SYNC_A
  | .b => s.fb F.HRT_STAT_SYNC_B

/-- HRT_STAT.STATE codes. -/
abbrev hOff : Nat := 0
/-- LOADING. -/
abbrev hLoading : Nat := 1
/-- JOINING. -/
abbrev hJoining : Nat := 2
/-- SYNCED. -/
abbrev hSynced : Nat := 3
/-- RECOVERING. -/
abbrev hRecovering : Nat := 4
/-- RESTARTING. -/
abbrev hRestarting : Nat := 5
/-- NOCONFIG. -/
abbrev hNoConfig : Nat := 6

/-- The domain PER is on: in RUN and DOZE, and not in BANKED, in CINDER or after a failed wake (Table 1-2). -/
def State.perOn (s : State) : Bool := s.pwr.state == .run

/-- What happens at a block of the domain PER: nothing while it has no power (R15). -/
def State.perDo (s : State) (f : State → State) : State := if s.perOn then f s else s

/-- The slot sequencer's domain SEQ is on: in RUN, DOZE and BANKED, and not in CINDER or after a failed wake (Table 1-2, R295). -/
def State.seqOn (s : State) : Bool := s.pwr.state == .run || s.pwr.state == .banked

/-- The timeline runs slot boundaries (R15, R40, R46). -/
def State.runs (s : State) (t : Tl) : Bool :=
  s.seqOn && !([hOff, hLoading, hRestarting, hNoConfig].contains (s.fg F.HRT_STAT_STATE)) && s.sync t

/-- The current ASN of a timeline, 40 bits (HRT_ASN_x). -/
def State.asn (s : State) : Tl → Nat
  | .a => (s.rd R.HRT_ASN_A_LO).toNat + 0x100000000 * ((s.rd R.HRT_ASN_A_HI).toNat % 256)
  | .b => (s.rd R.HRT_ASN_B_LO).toNat + 0x100000000 * ((s.rd R.HRT_ASN_B_HI).toNat % 256)

/-- Set a timeline's ASN. -/
def State.setAsn (s : State) (t : Tl) (n : Nat) : State := match t with
  | .a => (s.wr R.HRT_ASN_A_LO (w32 n)).wr R.HRT_ASN_A_HI (w32 (n / 0x100000000 % 256))
  | .b => (s.wr R.HRT_ASN_B_LO (w32 n)).wr R.HRT_ASN_B_HI (w32 (n / 0x100000000 % 256))

/-- D0 and D1 of an Ash record that carries an ASN (R404): ASN [31:0]; [8] TL, [7:0] ASN [39:32]. -/
def asnData (t : Tl) (n : Nat) : Word × Word := (w32 n, w32 (t.bit * 256 + n / 0x100000000 % 256))

/-- The two parts of the ember timer's value read as words. -/
def State.emberLo (s : State) : Word := w32 s.rtc.ember

/-- VIN_OK as HRT_PROF shows it (R127). -/
def State.vinOk (s : State) : Bool := s.fb F.HRT_PROF_VIN_OK

end Sys2Proof.Machine
end

