-- ==== Sys2Proof/Machine/AshCore.lean ====
section
/-! DEFINITION. The Ash engine's own operations: entering a record, flushing, the ring, reclaim, clear and the read port's search
(R389-R402). Flash commands are only queued here; the flash controller's settling starts them. -/

namespace Sys2Proof.Machine

/-- A flash command enters the queue (R343). -/
def State.flcEnqueue (s : State) (req : Nat) (op : FlashOp) (urgent : Bool) (tag : Nat) : State :=
  s.mFlc (fun x => { x with queue := x.queue ++ [⟨req, op, urgent, tag, 0, false, false, false, false⟩] })

/-- The requester codes of FLC_STAT [23:20]. -/
abbrev reqHearth : Nat := 0
/-- The update engine. -/
abbrev reqUpd : Nat := 8
/-- The Ash log. -/
abbrev reqAsh : Nat := 9
/-- Kindling's option writer. -/
abbrev reqKnd : Nat := 10

/-- The octets of a record (Table 13-1), with its CRC-32. -/
def AshRec.octets (r : AshRec) : List Byte :=
  let h := leBytes 4 r.seq ++ leBytes 6 r.time ++ leBytes 2 r.epoch ++ leBytes 2 r.code ++ leBytes 1 r.src ++
    leBytes 1 r.flags ++ leBytes 4 r.d0.toNat ++ leBytes 4 r.d1.toNat ++ leBytes 4 r.d2.toNat
  h ++ leBytes 4 (crc32 h)

/-- A record stamped with the wall clock of this instant; FLAGS carries CLK0 and LATE (R389). -/
def State.ashRec (s : State) (code src : Nat) (late : Bool) (d0 d1 d2 : Word) : AshRec :=
  ⟨s.ash.next, s.rtc.wcMs, s.rtc.wcEpoch, code, src, (if s.rtc.committed then 0 else 1) + (if late then 2 else 0), d0, d1, d2⟩

/-- The device has reached SEQ 0xFFFF_FFFF: it accepts no more records, and ASH_STAT.END is 1 (R390). -/
def State.ashOver (s : State) : Bool := s.ash.ended || decide (0xFFFFFFFF ≤ s.ash.next)

/-- The record takes the next SEQ and the next place in the buffer; SEQ 0xFFFF_FFFF is never given (R390). -/
def State.ashTake (s : State) (code src : Nat) (late : Bool) (d0 d1 d2 : Word) : State :=
  if s.ashOver then s.mAsh (fun x => { x with ended := true })
  else s.mAsh (fun x => { x with buf := s.ash.buf ++ [s.ashRec code src late d0 d1 d2], next := s.ash.next + 1 })

/-- Once places are free again, one LOST record before any other (R393). -/
def State.ashLostNote (s : State) : State :=
  if s.ash.lostFull = 0 ∨ 256 ≤ s.ash.buf.length then s
  else (s.ashTake 0x0007 0xFF false (w32 s.ash.lostFull) (w32 s.ash.lostRate) 0).mAsh (fun x => { x with lostFull := 0, lostRate := 0 })

/-! ## The ring -/

/-- The ring's block after a block (R398). -/
def ashNextBlock (b : Nat) : Nat := if b = 25 then 22 else b + 1

/-- The active block. -/
def State.ashActive (s : State) : Nat := 22 + s.fg F.ASH_STAT_BLOCK

/-- The block is ERASED (Table 11-3). -/
def BlockSt.erased (b : BlockSt) : Bool := !b.suspect && b.ptr == 0

/-- The SEQ of the record in the slot at an address; none where the slot is empty or fails its CRC (R399), as every slot of a torn page does
(Table 13-2). -/
def State.ashSlot (s : State) (a : Nat) : Option Nat :=
  let o := s.bytes a 32
  if s.flc.torn.contains (pageOf a) || o.all (fun b => b == 0xFF) then none
  else if ofLe (o.drop 28) = crc32 (o.take 28) then some (ofLe (o.take 4)) else none

/-- The valid SEQs in a block of the ring; a SUSPECT block counts as empty (R400). -/
def State.ashSeqs (s : State) (b : Nat) : List Nat :=
  if (s.blk b).suspect then []
  else (List.range ((s.blk b).ptr * 8)).filterMap (fun i => s.ashSlot (blockAddr b + 32 * i))

/-- The lowest of a list, or none. -/
def lowest : List Nat → Option Nat
  | [] => none
  | n :: t => match lowest t with
    | some m => some (min n m)
    | none => some n

/-- The highest of a list, or none. -/
def highest : List Nat → Option Nat
  | [] => none
  | n :: t => match highest t with
    | some m => some (max n m)
    | none => some n

/-- The oldest block: the first block after the active one, in ring order, that is not ERASED (R398). -/
def State.ashOldestBlock (s : State) : Option Nat :=
  let b1 := ashNextBlock s.ashActive
  let b2 := ashNextBlock b1
  let b3 := ashNextBlock b2
  [b1, b2, b3].find? (fun b => !(s.blk b).erased)

/-- Reclaim the oldest block once the active block's next free page reaches 192 and no other block is ERASED (R398). -/
def State.ashReclaim (s : State) : State :=
  let act := s.ashActive
  let others := [22, 23, 24, 25].filter (fun b => b != act)
  if s.ash.reclaim.isSome || decide ((s.blk act).ptr < 192) || others.any (fun b => (s.blk b).erased) then s
  else match s.ashOldestBlock with
    | none => s
    | some o =>
      let low := (lowest (s.ashSeqs (ashNextBlock o))).getD s.ash.oldest
      let s := s.mAsh (fun x => { x with oldest := max s.ash.oldest low, reclaim := some o })
      ((s.fset F.ASH_STAT_RECLAIM).fset F.ASH_EVT_RECLAIMED).flcEnqueue reqAsh (.erase o) false 0

/-! ## Flushing -/

/-- The octets of a page that holds up to eight records: places left over stay empty (R395). -/
def ashPage (l : List AshRec) : List Byte :=
  let o := l.flatMap AshRec.octets
  o ++ List.replicate (256 - o.length) 0xFF

/-- The flush ends (R395). -/
def State.ashFlushEnd (s : State) : State :=
  let s := s.mAsh (fun x => { x with flush := none })
  ((s.fclr F.ASH_STAT_FLUSHING).fset F.ASH_EVT_FLUSHED |>.emitChained 0xA0 0x60).setHop 0x60 none

/-- Queue the flush's next page, if it has one and no page of it is in the queue (R395). During a damper attempt and outside RUN and DOZE the rest
of the flush waits (Table 9-2). -/
def State.ashPump (s : State) : State := match s.ash.flush with
  | none => s
  | some f =>
    if f.page ≠ 0 then s
    else if f.left = 0 then s.ashFlushEnd
    else if s.pwr.entry.isSome ∨ s.pwr.state ≠ .run then s
    else
      let act := s.ashActive
      let full := decide (256 ≤ (s.blk act).ptr)
      let b := if full then ashNextBlock act else act
      if full && !(s.blk b).erased then s
      else
        let n := min 8 f.left
        let s := s.fp F.ASH_STAT_BLOCK (b - 22)
        let s := s.mAsh (fun x => { x with flush := some { f with page := n } })
        s.flcEnqueue reqAsh (.program (blockAddr b + 0x100 * (s.blk b).ptr) (ashPage (s.ash.buf.take n))) f.urgent 0

/-- Start a flush, or join the one that runs: a joined request is served by a flush of the records that wait when it ends (R394,
log 20, DEDUCED). Until the ring is rebuilt the request waits (R400). `hop`: the hop count of the flue trigger that asks, which belongs to the
flush that the trigger starts (R277). -/
def State.ashFlushStart (s : State) (urgent : Bool) (hop : Option Nat) : State :=
  if s.ash.flush.isSome || !s.ash.ready then
    s.mAsh (fun x => { x with again := some (match s.ash.again with
      | some g => (urgent || g.1, g.2)
      | none => (urgent, hop)) })
  else
    (((s.mAsh (fun x => { x with flush := some ⟨urgent, s.ash.buf.length, 0⟩ })).fset F.ASH_STAT_FLUSHING).setHop 0x60 hop).ashPump

/-- After a flush, a request that joined it starts the next (log 20, DEDUCED), and so do 224 records that have come meanwhile (R394). -/
def State.ashAgain (s : State) : State := match s.ash.flush, s.ash.again with
  | none, some u =>
    let s := s.mAsh (fun x => { x with again := none })
    if s.ash.buf.isEmpty then s else s.ashFlushStart u.1 u.2
  | none, none => if s.ash.ready && decide (224 ≤ s.ash.buf.length) then s.ashFlushStart false none else s
  | some _, _ => s

/-- A record arrives: it is lost where 256 wait, and otherwise takes its place; 224 waiting start a flush (R392-R394). -/
def State.ashArrive (s : State) (code src : Nat) (late : Bool) (d0 d1 d2 : Word) : State :=
  let s := s.ashLostNote
  if 256 ≤ s.ash.buf.length then
    ((s.mAsh (fun x => { x with lostFull := s.ash.lostFull + 1 })).fsat F.ASH_LOST_CNT_FULL).fset F.ASH_EVT_LOST
  else
    let s := s.ashTake code src late d0 d1 d2
    if s.ash.ready && s.ash.flush.isNone && decide (224 ≤ s.ash.buf.length) then s.ashFlushStart false none else s

/-- A record. Until the ring of this start is rebuilt it waits, and is entered after the RESET record (R400). -/
def State.ashEnter (s : State) (w : AshWait) : State :=
  if s.ash.ready then s.ashArrive w.code w.src w.late w.d0 w.d1 w.d2
  else s.mAsh (fun x => { x with late := s.ash.late ++ [w] })

/-- A device record (R404). -/
def State.ash3 (s : State) (code : Nat) (d0 d1 d2 : Word) : State := s.ashEnter ⟨code, 0xFF, false, d0, d1, d2⟩

/-- A device record entered after the reset that followed its event: LATE (R389). -/
def State.ashLate (s : State) (code : Nat) (d0 d1 d2 : Word) : State := s.ashEnter ⟨code, 0xFF, true, d0, d1, d2⟩

/-- A record that came now would find no place, after the LOST record that is due (R393). -/
def State.ashFull (s : State) : Bool := s.ash.ready && decide (256 ≤ s.ashLostNote.ash.buf.length)

/-- A software record, lost where its writer has entered 64 in this second of the ember timer (R393, R403). -/
def State.ashSoft (s : State) (who code : Nat) : State :=
  let old := (alGet s.ash.swRate who).getD (s.sec, 0)
  let n := if old.1 = s.sec then old.2 else 0
  if 64 ≤ n then
    (s.mAsh (fun x => { x with lostRate := s.ash.lostRate + 1 })).fsat F.ASH_LOST_CNT_RATE
  else
    let s := if s.ashFull then s else s.mAsh (fun x => { x with swRate := alSet s.ash.swRate who (s.sec, n + 1) })
    s.ashEnter ⟨code, who, false, (alGet s.ash.wrD (who, 0)).getD 0, (alGet s.ash.wrD (who, 1)).getD 0, (alGet s.ash.wrD (who, 2)).getD 0⟩

/-! ## Clearing -/

/-- Step 1 of a clear: the CLEAR record takes the next SEQ, every record waiting below it is discarded, and a flush is asked for
(R401). A LOST record that is due comes before it (R393), and is discarded with those. A page of a running flush that is already queued completes; its
records lie below the CLEAR record. -/
def State.ashClearRun (s : State) (who : Nat) (viaSvc : Bool) : State :=
  let s := (s.mAsh (fun x => { x with buf := [] })).ashLostNote
  let sq := s.ash.next
  let s := s.mAsh (fun x => { x with
    buf := []
    clr := some ⟨who, viaSvc, sq, false, false, false⟩
    flush := s.ash.flush.map (fun (f : AshFlush) => { f with left := 0 }) })
  let s := (s.fset F.ASH_STAT_CLEARING).ashTake 0x0006 0xFF false (w32 s.ash.oldest) (w32 who) 0
  s.ashFlushStart false none

/-- A clear begins: at once, or once the ring of this start is rebuilt (R400, R401). -/
def State.ashClear (s : State) (who : Nat) (viaSvc : Bool) : State :=
  if s.ash.ready then s.ashClearRun who viaSvc
  else (s.mAsh (fun x => { x with clr := some ⟨who, viaSvc, 0, false, false, true⟩ })).fset F.ASH_STAT_CLEARING

/-- Step 2 of a clear is done when the page that holds the CLEAR record reads back valid; step 3 queues the erases (R401). -/
def State.ashClearDone (s : State) (first : Option Nat) : State := match s.ash.clr with
  | none => s
  | some c =>
    if c.done || c.waits || first != some c.seq then s
    else
      let s := s.mAsh (fun x => { x with oldest := c.seq, clr := some { c with done := true } })
      let s := s.fset F.ASH_EVT_CLEARED
      let s := if c.viaSvc then s else (s.fp F.ASH_CLR_RES_STATE 2).fp F.ASH_CLR_RES_CODE 0
      s.forEach ([22, 23, 24, 25].filter (fun b => b != s.ashActive)) (fun s b => s.flcEnqueue reqAsh (.erase b) false 1)

/-- Flash has refused a page of a clear that has not completed step 2: it ends with CODE FLASH (Table 13-4). -/
def State.ashClearFail (s : State) : State := match s.ash.clr with
  | none => s
  | some c =>
    if c.done || c.waits then s
    else
      let s := s.fclr F.ASH_STAT_CLEARING
      if c.viaSvc then s.mAsh (fun x => { x with clr := some { c with failed := true } })
      else ((s.mAsh (fun x => { x with clr := none })).fp F.ASH_CLR_RES_STATE 3).fp F.ASH_CLR_RES_CODE 6

/-- A flash command of the Ash log ended with a code of Table 11-5 (R395, R398, R401). -/
def State.ashFlashEnd (s : State) (c : FlashCmd) (code : Nat) : State := match c.op with
  | .program _ _ => match s.ash.flush with
    | none => s
    | some f =>
      let first := s.ash.buf.head?.map AshRec.seq
      let s := if code = 0 ∧ f.left ≠ 0 then
          ((s.mAsh (fun x => { x with
              buf := s.ash.buf.drop f.page
              flush := some { f with left := f.left - f.page, page := 0 } })).ashLostNote).ashClearDone first
        else if code = 0 ∨ code = 8 then s.mAsh (fun x => { x with flush := some { f with page := 0 } })
        else (s.mAsh (fun x => { x with flush := some { f with left := 0, page := 0 } })).ashClearFail
      (s.ashReclaim.ashPump).ashAgain
  | .erase b =>
    let s := if c.tag = 0 ∧ s.ash.reclaim = some b then
        (s.mAsh (fun x => { x with reclaim := none })).fclr F.ASH_STAT_RECLAIM
      else s
    let more := s.flc.queue.any (fun q => q.req == reqAsh && q.tag == 1) || s.flc.running.any (fun r => r.cmd.req == reqAsh && r.cmd.tag == 1)
    let s := if c.tag = 1 ∧ more = false ∧ s.ash.clr.any AshClr.done then
        (s.mAsh (fun x => { x with clr := none })).fclr F.ASH_STAT_CLEARING
      else s
    -- a block whose erase failed is erased again before it is used (R398)
    let s := if code = 8 ∧ (s.blk b).suspect then s.flcEnqueue reqAsh (.erase b) false 2 else s
    s.ashPump.ashAgain
  | _ => s

/-! ## The read port -/

/-- The words of 32 octets as ASH_RD0-ASH_RD7 (R402). -/
def State.ashShow (s : State) (o : List Byte) : State :=
  s.forEach (List.range 8) (fun s i => s.wr (R.ASH_RDn i) (w32 (ofLe ((o.drop (4 * i)).take 4))))

/-- The octets of the record with a SEQ, from the buffer or from the ring (R402). -/
def State.ashFind (s : State) (q : Nat) : Option (List Byte) :=
  match s.ash.buf.find? (fun r => r.seq == q) with
  | some r => some r.octets
  | none => (([22, 23, 24, 25].filter (fun b => !(s.blk b).suspect)).flatMap
      (fun b => (List.range ((s.blk b).ptr * 8)).map (fun i => blockAddr b + 32 * i))).find? (fun a => s.ashSlot a == some q)
      |>.map (fun a => s.bytes a 32)

/-- RESULT of a read request: 0 FOUND, 1 GONE, 2 NOT_YET, 3 MISSING; a FOUND record is shown in ASH_RDn (R402). -/
def State.ashRead (s : State) (q : Nat) : State :=
  if q < s.ash.oldest then s.fp F.ASH_RD_STAT_RESULT 1
  else if s.ash.next ≤ q then s.fp F.ASH_RD_STAT_RESULT 2
  else match s.ashFind q with
    | some o => (s.ashShow o).fp F.ASH_RD_STAT_RESULT 0
    | none => s.fp F.ASH_RD_STAT_RESULT 3

/-! ## The rebuild at a start -/

/-- The ring is rebuilt and the RESET record written, then the records of the same start that waited (R390, R392, R400). A flush
starts where ember memory was kept and a record waits, in the buffer or for the rebuild: urgent after a cause other than SOFT, HOST_CMD and SVC_CMD (R394,
R395). A flush or a clear that was asked for before follows, and a block whose reclaim a reset cut short is reclaimed (R398). -/
def State.ashRebuild (s : State) : State :=
  if s.ash.ready || !s.flc.ready then s
  else
    let blocks := [22, 23, 24, 25].map (fun b => (b, s.ashSeqs b))
    let all := blocks.flatMap (fun p => p.2)
    let top := highest all
    let act := match top with
      | some t => ((blocks.find? (fun p => p.2.contains t)).map (fun p => p.1)).getD 22
      | none => 22
    let lostCtl := !s.ash.wiped && !s.ash.ctlOk
    let fresh := s.ash.wiped || !s.ash.ctlOk
    let s := s.fp F.ASH_STAT_BLOCK (act - 22)
    let s := if fresh then s.mAsh (fun x => { x with buf := [], next := (top.map (fun t => t + 257)).getD 1 }) else s
    let keptAny := !s.ash.wiped && (!s.ash.buf.isEmpty || !s.ash.late.isEmpty)
    let clr := s.ash.clr
    let clears := (([22, 23, 24, 25].filter (fun b => !(s.blk b).suspect)).flatMap
      (fun b => (List.range ((s.blk b).ptr * 8)).map (fun i => blockAddr b + 32 * i))).filterMap
      (fun a => if s.ld (a + 12) 2 = 6 then s.ashSlot a else none)
    let low := (lowest all).getD ((s.ash.buf.head?.map AshRec.seq).getD s.ash.next)
    let s := s.mAsh (fun x => { x with
      ready := true, wiped := false, ctlOk := true, flush := none, clr := none, reclaim := none
      oldest := max low ((highest clears).getD 0) })
    let s := (s.fset F.ASH_STAT_READY).fclr F.ASH_STAT_FLUSHING |>.fclr F.ASH_STAT_CLEARING |>.fclr F.ASH_STAT_RECLAIM
    let s := if lostCtl then s.ashArrive 0x0007 0xFF false 0xFFFFFFFF 0 0 else s
    let s := s.ashArrive 0x0001 0xFF true (s.rd R.RST_CAUSE) (s.rd R.RST_HIST) (s.rd R.RST_DEFER)
    let waiting := s.ash.late
    let s := s.mAsh (fun x => { x with late := [] })
    let s := s.forEach waiting (fun s r => s.ashArrive r.code r.src r.late r.d0 r.d1 r.d2)
    let urgent := !([10, 11, 12].contains (s.fg F.RST_CAUSE_CAUSE)) && !s.fb F.PWR_WAKE_SRC_CINDER
    let s := (if keptAny then s.ashFlushStart urgent none else s).ashAgain
    let s := match clr with
      | some c => if c.waits then s.ashClearRun c.who c.viaSvc else s
      | none => s
    -- a SUSPECT block of the ring is erased again before it is used (R398)
    let bad := [22, 23, 24, 25].filter (fun b => (s.blk b).suspect)
    if bad.isEmpty then s.ashReclaim else s.forEach bad (fun s b => s.flcEnqueue reqAsh (.erase b) false 2)

end Sys2Proof.Machine
end

