-- ==== Sys2Proof/Machine/Faults.lean ====
section
/-! DEFINITION. What a refused access does: the bus fault a core records, and the forbidden access of R26. -/

namespace Sys2Proof.Machine

/-- Syndromes of Table 1-7. -/
abbrev synDecode : Nat := 1
/-- OWNER. -/
abbrev synOwner : Nat := 2
/-- SECURE. -/
abbrev synSecure : Nat := 3
/-- ALIGN. -/
abbrev synAlign : Nat := 4
/-- EXEC. -/
abbrev synExec : Nat := 5
/-- WRITE. -/
abbrev synWrite : Nat := 6
/-- BUSY. -/
abbrev synBusy : Nat := 7
/-- ECC. -/
abbrev synEcc : Nat := 8

/-- The bus answers an access with data. -/
def State.answer (s : State) (v : Word) : State := s.mBus (fun _ => ⟨v, 0⟩)

/-- A core records a precise bus fault in its INT fault registers: the first while VALID is 0, OVF for a further one (Table 1-9). -/
def State.coreFault (s : State) (c : CoreId) (addr : Nat) (wr : Bool) (syn : Nat) : State :=
  let o := match c with
    | .a => 0
    | .b => 8
  let synF : Nat := R.INT_FAULT_A_SYN + o
  if s.fb ⟨synF, 31, 31⟩ then s.fset ⟨synF, 30, 30⟩
  else (s.wr (R.INT_FAULT_A_ADDR + o) (w32 addr)).wr synF (w32 (0x80000000 + (b2n wr) * 256 + syn))

/-- A bus fault: the access has no effect, a read returns zero, and a core records the syndrome (R26, R27). -/
def State.busFault (s : State) (who : Initiator) (addr : Nat) (wr : Bool) (syn : Nat) : State :=
  let s := s.mBus (fun _ => ⟨0, syn⟩)
  match who.core with
  | some c => s.coreFault c addr wr syn
  | none => s

/-- A forbidden access (R26): a bus fault, the INT_VIOL bit of the initiator's owner identity, and an OWNER_VIOLATION record, one per
initiator in each second of the ember timer: a DMA channel is an initiator apart from the core that owns it (Table 1-1). -/
def State.forbid (s : State) (who : Initiator) (addr : Nat) (wr : Bool) (syn : Nat) : State :=
  let id := s.owner who
  let key := initNo who
  let s := (s.busFault who addr wr syn).rset R.INT_VIOL id
  if alGet s.viol key = some (s.sec + 1) then s
  else (s.mViol (fun l => alSet l key (s.sec + 1))).ash3 0x000B (w32 addr) (w32 (id * 256 + syn)) 0

end Sys2Proof.Machine
end

