-- ==== Sys2Proof/Machine/CmdSet.lean ====
section
/-! DEFINITION. Command sets: the register groups one identity holds from its first write to the reading of the result (R163). -/

namespace Sys2Proof

/-- The register that holds a command set's STATE, CODE, WRITER and WERR. -/
def CsId.res : CsId → Nat
  | .nbr => Machine.R.HRT_NBR_RES
  | .vlt => Machine.R.VLT_CMD_RES
  | .pk c => Machine.R.VLT_PK_CTLc c
  | .lce => Machine.R.LCE_JOB_RES
  | .knd => Machine.R.KND_OPT_RES
  | .upd => Machine.R.UPD_RES
  | .ashRd => Machine.R.ASH_RD_STAT
  | .ashClr => Machine.R.ASH_CLR_RES

/-- STATE of a command set: 0 IDLE, 1 BUSY, 2 DONE, 3 ERROR. -/
def CsId.state : CsId → Machine.Fld
  | .pk c => ⟨Machine.R.VLT_PK_CTLc c, 29, 28⟩
  | c => ⟨c.res, 31, 30⟩

/-- CODE, or RESULT, of a command set. -/
def CsId.code (c : CsId) : Machine.Fld := ⟨c.res, 27, 24⟩

/-- WRITER of a command set. -/
def CsId.writer (c : CsId) : Machine.Fld := ⟨c.res, 22, 20⟩

/-- WERR of a command set. -/
def CsId.werr (c : CsId) : Machine.Fld := ⟨c.res, 16, 16⟩

end Sys2Proof

namespace Sys2Proof.Machine

/-- The command set is BUSY. -/
def State.csBusy (s : State) (c : CsId) : Bool := s.fg c.state == 1

/-- A write by `who` reaches the command set: it is free or `who` holds it, and a write that carries GO does not meet BUSY. -/
def State.csOk (s : State) (c : CsId) (who : Nat) (go : Bool) : Bool :=
  (s.fg c.writer == ownNone || s.fg c.writer == who) && !(go && s.csBusy c)

/-- The holder after an accepted write; the 10 ms run from a write without GO and stop at GO. -/
def State.csTake (s : State) (c : CsId) (who : Nat) (go : Bool) : State :=
  (s.fp c.writer who).mCs (fun l => let l' := l.filter (fun x => x ≠ c); if go then l' else c :: l')

/-- A write to a command set: `f` has its effect where the set accepts it, and otherwise WERR is set (R163). -/
def State.csWrite (s : State) (c : CsId) (who : Nat) (go : Bool) (f : State → State) : State :=
  if s.csOk c who go then f (s.csTake c who go) else s.fset c.werr

/-- The command runs: STATE BUSY. -/
def State.csRun (s : State) (c : CsId) : State := (s.fp c.state 1).fp c.code 0

/-- The command ends: DONE with code 0, ERROR with any other. -/
def State.csEnd (s : State) (c : CsId) (code : Nat) : State :=
  (s.fp c.state (if code = 0 then 2 else 3)).fp c.code code

/-- The writer's read of a DONE or ERROR result releases the set (R163). -/
def State.csRelease (s : State) (c : CsId) (who : Nat) : State :=
  if s.fg c.writer = who ∧ 2 ≤ s.fg c.state then (s.fp c.writer ownNone).mCs (fun l => l.filter (fun x => x ≠ c)) else s

/-- 10 ms after the holder's last write without GO the set is free again (R163). -/
def State.csLapse (s : State) (c : CsId) : State :=
  if s.cs.contains c && !s.csBusy c && !(c == .upd && s.upd.keep) then (s.fp c.writer ownNone).mCs (fun l => l.filter (fun x => x ≠ c)) else s

end Sys2Proof.Machine
end

