-- ==== Sys2Proof/Machine/Staged.lean ====
section
/-! DEFINITION. Staged sets: claims, COMMIT writes, GO, CANCEL and the fields an application leaves (R38-R44). What a set's active
registers become is in its own block's file. -/

namespace Sys2Proof

/-- The COMMIT register of a staged set. -/
def SetId.commit : SetId → Nat
  | .wall => Machine.R.RTC_COMMIT
  | .schedule => Machine.R.HRT_SCH_COMMIT
  | .config => Machine.R.UPD_CFG_COMMIT
  | .metCal => Machine.R.MET_CAL_COMMIT
  | .charger => Machine.R.SUP_CHG_COMMIT

/-- The CASN register of a staged set. -/
def SetId.casn : SetId → Nat
  | .wall => Machine.R.RTC_CASN
  | .schedule => Machine.R.HRT_SCH_CASN
  | .config => Machine.R.UPD_CFG_CASN
  | .metCal => Machine.R.MET_CAL_CASN
  | .charger => Machine.R.SUP_CHG_CASN

/-- STATE of Table 1-12: 0 IDLE, 1 ARMED, 2 DONE, 3 REJECTED. -/
def SetId.state (x : SetId) : Machine.Fld := ⟨x.commit, 29, 28⟩
/-- REASON of Table 1-12. -/
def SetId.reason (x : SetId) : Machine.Fld := ⟨x.commit, 27, 24⟩
/-- WERR of Table 1-12. -/
def SetId.werr (x : SetId) : Machine.Fld := ⟨x.commit, 20, 20⟩
/-- WHEN of Table 1-12. -/
def SetId.when (x : SetId) : Machine.Fld := ⟨x.commit, 17, 16⟩
/-- WRITER of Table 1-12. -/
def SetId.writer (x : SetId) : Machine.Fld := ⟨x.commit, 14, 12⟩
/-- TL of Table 1-12. -/
def SetId.tl (x : SetId) : Machine.Fld := ⟨x.commit, 8, 8⟩
/-- ASN_HI of Table 1-12. -/
def SetId.asnHi (x : SetId) : Machine.Fld := ⟨x.commit, 7, 0⟩

/-- Every staged set. -/
def SetId.all : List SetId := [.wall, .schedule, .config, .metCal, .charger]

end Sys2Proof

namespace Sys2Proof.Machine

/-- A staged write or GO of `who` reaches the set: it is not ARMED, and no other identity holds it (R39). -/
def State.stgOk (s : State) (x : SetId) (who : Nat) : Bool :=
  s.fg x.state != 1 && (s.fg x.writer == ownNone || s.fg x.writer == who)

/-- A staged write: `f` has its effect where the set accepts it and the writer becomes the holder; otherwise it is ignored as a whole
and sets WERR (R39). -/
def State.stgWrite (s : State) (x : SetId) (who : Nat) (f : State → State) : State :=
  if s.stgOk x who then f (s.fp x.writer who) else s.fset x.werr

/-- The timeline a set's WHEN refers to. -/
def State.stgTl (s : State) (x : SetId) : Tl := Tl.ofBit (s.fg x.tl)

/-- The commit ASN of a set. -/
def State.stgAsn (s : State) (x : SetId) : Nat := (s.rd x.casn).toNat + 0x100000000 * s.fg x.asnHi

/-- The configuration in use has timeline B: its slot template is loaded (R40, R388). -/
def State.tlThere (s : State) : Tl → Bool
  | .a => true
  | .b => s.hasB && s.fb F.HRT_TPL_B_TsLength

/-- The first check of GO that applies: 2 WHEN, 1 PAST, 3 VALUE; 0 where none does (R40). -/
def State.stgCheck (s : State) (x : SetId) (valueOk : Bool) : Nat :=
  let w := s.fg x.when
  let t := s.stgTl x
  if w = 3 ∨ s.tlThere t = false ∨ ((w = 1 ∨ w = 2) ∧ s.runs t = false) then 2
  else if w = 2 ∧ s.stgAsn x ≤ s.asn t then 1
  else if valueOk = false then 3
  else 0

/-- A set leaves its hold with a STATE and REASON (R39). -/
def State.stgEnd (s : State) (x : SetId) (st reason : Nat) : State :=
  ((s.fp x.state st).fp x.reason reason).fp x.writer ownNone

/-- GO's outcome: ARMED, or REJECTED with its REASON (R40). -/
def State.stgArm (s : State) (x : SetId) (reason : Nat) : State :=
  if reason = 0 then (s.fp x.state 1).fp x.reason 0 else s.stgEnd x 3 reason

/-- CANCEL from the holder returns the set to IDLE with REASON CANCELLED; from any other identity it sets WERR; on a set no identity
holds it has no effect (R39). -/
def State.stgCancel (s : State) (x : SetId) (who : Nat) : State :=
  if s.fg x.writer = ownNone then s
  else if s.fg x.writer = who then s.stgEnd x 0 4
  else s.fset x.werr

/-- A write of a COMMIT register by `who` (R39): WERR written as 1 clears first, so that an ignored write sets it again (R10). `go` is
what GO does in the set's block. -/
def State.stgCommitWrite (s : State) (x : SetId) (who : Nat) (v : Word) (go : State → State) : State :=
  let s := if wBit v 20 then s.fclr x.werr else s
  if wBit v 30 then s.stgCancel x who
  else s.stgWrite x who (fun s =>
    let s := ((s.fp x.when (wField v 17 16)).fp x.tl (wField v 8 8)).fp x.asnHi (wField v 7 0)
    if wBit v 31 then go s else s)

/-- The set is applied: DONE, with the ASN of application, or zero where its timeline runs no slot boundaries (R41). -/
def State.stgDone (s : State) (x : SetId) : State :=
  let n := if s.runs (s.stgTl x) then s.asn (s.stgTl x) else 0
  ((s.stgEnd x 2 0).fp x.asnHi (n / 0x100000000)).wr x.casn (w32 n)

/-- An armed set is due at the boundary of timeline `t` that has just become current (R40-R42). -/
def State.stgDue (s : State) (x : SetId) (t : Tl) : Bool :=
  s.fg x.state == 1 && decide (s.stgTl x = t) &&
    (s.fg x.when == 1 || (s.fg x.when == 2 && decide (s.stgAsn x ≤ s.asn t)))

end Sys2Proof.Machine
end

