-- ==== Sys2Proof/Machine/Rtc.lean ====
section
/-! DEFINITION. The ember timer, the wall clock, the alarm and the watchdog counts, which advance with the ember timer's ticks
(R34-R37, R323, R494), and the wake events of Table 9-5. -/

namespace Sys2Proof.Machine

/-- The trim in use, signed ppb (R35). -/
def State.trim (s : State) : Int := signed 24 (s.rd R.RTC_TRIM_ACT).toNat

/-- What the wall clock gains in `n` ticks, in units of 10^-9/32768 ms, with the accumulator (R35). -/
def State.wcGain (s : State) (n : Nat) : Nat := s.rtc.frac + n * (1000 * (1000000000 + s.trim).toNat)

/-- Units of the wall clock's fractional accumulator in a millisecond. -/
abbrev wcUnit : Nat := 32768000000000

/-- The state the power controller is in lets the watchdogs run (R324). -/
def State.runOrDoze (s : State) : Bool := decide (s.pwr.state = .run)

/-- A watchdog's CFG register; CNT lies 8 above. -/
def wdtCfg : CoreId → Nat
  | .a => R.RST_WDT_A_CFG
  | .b => R.RST_WDT_B_CFG

/-- A watchdog counts `n` cycles down, stopping at zero: in RUN and DOZE, while enabled and while its core is neither halted nor
parked (R323, R324, R372). -/
def State.wdtCount (s : State) (c : CoreId) (n : Nat) : State :=
  let cnt := wdtCfg c + 8
  if s.rbit (wdtCfg c) 31 && s.runOrDoze && !(s.core c).halted && !(s.core c).parked then
    s.wr cnt (w32 ((s.rd cnt).toNat - n))
  else s

/-- `n` ticks of the ember timer (48 bits): the wall clock gains with its trim, the watchdogs count (R34, R35, R323). -/
def State.emberAdvance (s : State) (n : Nat) : State :=
  let g := s.wcGain n
  let s := s.mRtc (fun x => { x with
    ember := (x.ember + n) % 0x1000000000000
    wcMs := (x.wcMs + g / wcUnit) % 0x1000000000000
    frac := g % wcUnit })
  (s.wdtCount .a n).wdtCount .b n

/-- The 48-bit compare of the alarm (R494). -/
def State.alarmCmp (s : State) : Nat := (s.rd R.RTC_ALARM_LO).toNat + 0x100000000 * s.fg F.RTC_ALARM_HI_CMP

/-- The alarm condition holds: line 24 (R494). -/
def State.alarmHolds (s : State) : Bool := s.fb F.RTC_ALARM_HI_EN && decide (s.alarmCmp ≤ s.rtc.ember)

/-- A wake event of PWR_WAKE_SRC bit `n`: it counts during an entry attempt and while BANKED or CINDER is entered, where its enable
is set (R288, R290). The flue, the draw-class recheck and the slot sequencer do not wake CINDER (Table 9-5). -/
def State.wakeEvent (s : State) (n : Nat) : State :=
  let listens := s.pwr.entry.isSome || decide (s.pwr.state = .banked) || decide (s.pwr.state = .cinder)
  let enabled := decide (8 ≤ n) || s.rbit R.PWR_WAKE_EN n
  let cinder := s.pwr.entry.any EntrySt.cinder || decide (s.pwr.state = .cinder)
  if listens && enabled && !(cinder && (n == 7 || n == 8 || n == 10)) then s.mPwr (fun x => { x with wakePending := if x.wakePending.contains n then x.wakePending else x.wakePending ++ [n] })
  else s

/-- The alarm condition is evaluated: at the instant it becomes true RTC_EV_ALARM and a wake occur, once (R494). -/
def State.alarmEval (s : State) : State :=
  let h := s.alarmHolds
  let s' := s.mRtc (fun x => { x with matched := h })
  if h && !s.rtc.matched then (s'.emit 0x48 0).wakeEvent 0 else s'

/-- The range check of the wall-clock set: a trim within 500,000 ppb (R35). -/
def State.wallValueOk (s : State) : Bool :=
  let t := signed 24 (s.rd R.RTC_TRIM_STG).toNat
  decide (-500000 ≤ t) && decide (t ≤ 500000)

/-- The staged wall clock, 48 bits. -/
def State.wallStaged (s : State) : Nat := (s.rd R.RTC_WC_STG_LO).toNat + 0x100000000 * s.fg F.RTC_WC_STG_HI_WC

/-- The wall-clock set becomes active; a clock that steps back writes TIME_STEP, increments the epoch and sets STEP (R36).
DESIGN CHOICE (log 87): the fractional accumulator of R35 keeps its value at a commit; the manual does not say what becomes of it. -/
def State.wallApply (s : State) : State :=
  let new := s.wallStaged
  let old := s.rtc.wcMs
  let s := if new < old then
      let s := s.ash3 0x0008 (w32 old) (w32 (old / 0x100000000 + new % 0x10000 * 0x10000)) (w32 (new / 0x10000))
      (s.mRtc (fun x => { x with wcEpoch := (x.wcEpoch + 1) % 0x10000 })).fset F.RTC_STAT_STEP
    else s
  (s.mRtc (fun x => { x with wcMs := new, committed := true })).wr R.RTC_TRIM_ACT (s.rd R.RTC_TRIM_STG)

/-- GO on the wall-clock set. -/
def State.wallGo (s : State) : State := s.stgArm .wall (s.stgCheck .wall s.wallValueOk)

end Sys2Proof.Machine
end

