-- ==== Sys2Proof/Machine/FlashCore.lean ====
section
/-! DEFINITION. The flash controller: what Table 11-1 and Table 11-5 permit, the block journal, the choice and the end of steps, the
rebuild at a start and what an interruption leaves (R329-R347). -/

namespace Sys2Proof.Machine

/-- Life-cycle states of Table 7-10. -/
abbrev lcMfg : Nat := 0
/-- FIELD_OPEN. -/
abbrev lcOpen : Nat := 1
/-- FIELD_SEALED. -/
abbrev lcSealed : Nat := 2
/-- RETIRED. -/
abbrev lcRetired : Nat := 3

/-- The life-cycle state in force. -/
def State.lifeCycle (s : State) : Nat := s.fg F.LCS_STATE_STATE

/-- The boot unit a block belongs to (R348). -/
def unitOf (b : Nat) : Option Nat :=
  if b < 10 then some 0 else if 64 ≤ b ∧ b < 74 then some 1 else none

/-- The ten blocks of a boot unit. -/
def unitBlocks (u : Nat) : List Nat := (List.range 10).map (fun i => 64 * u + i)

/-- Table 11-1: the requester may program and erase the block. -/
def State.regionOk (s : State) (req b : Nat) : Bool :=
  let mfg := decide (s.lifeCycle = lcMfg) && (req == ownSvc || req == ownDebug)
  if (unitOf b).isSome || b == 10 || b == 11 then req == reqUpd || mfg
  else if 12 ≤ b ∧ b < 18 then req == reqUpd || req == ownA || req == ownB || req == ownPilot || mfg
  -- of blocks 18 and 19 every requester but UPD is refused with PROTECTED (R376)
  else if b = 18 ∨ b = 19 then true
  else if b = 20 ∨ b = 21 then req == reqHearth
  else if 22 ≤ b ∧ b < 26 then req == reqAsh
  else (req == ownA || req == ownB || req == ownPilot || req == ownSvc || req == ownDebug) && !s.rbit (R.FLC_ULOCKn (b / 32)) (b % 32)

/-- The blocks of the frozen settings generation (R368), as the update engine holds them. -/
def State.frozenBlocks (s : State) : List Nat := s.flc.frozen

/-- R351, R368, R376: the block is protected from the requester. -/
def State.protectedFrom (s : State) (req b : Nat) : Bool :=
  let mfg := decide (s.lifeCycle = lcMfg) && (req == ownSvc || req == ownDebug)
  (unitOf b == some (s.fg F.FLC_PROT_UNIT) && !s.fb F.FLC_PROT_NONE && !mfg) ||
  ((b == 18 || b == 19) && req != reqUpd) || s.frozenBlocks.contains b

/-- The checks made when a command's first step is due, in the order of Table 11-5; 0 where none refuses. -/
def State.flcCheck (s : State) (c : FlashCmd) : Nat := match c.op with
  | .program a _ =>
    if isFlash a = false ∨ a % 256 ≠ 0 then 1
    else if s.regionOk c.req (blockOf a) = false then 2
    else if s.protectedFrom c.req (blockOf a) then 3
    else if (s.blk (blockOf a)).suspect then 4
    else if (a - blockAddr (blockOf a)) / 256 ≠ (s.blk (blockOf a)).ptr then 5
    else 0
  | .erase b =>
    if 128 ≤ b then 1
    else if s.regionOk c.req b = false then 2
    else if s.protectedFrom c.req b then 3
    else 0
  | _ => 0

/-- The bank a command's steps make busy; none in the information area (R330, R342). -/
def FlashOp.bank : FlashOp → Option Nat
  | .program a _ => if isFlash a then some (blockOf a / 64) else none
  | .erase b => if b < 128 then some (b / 64) else none
  | _ => none

/-- A command is an erase, of a block or of an information sector. -/
def FlashOp.isErase : FlashOp → Bool
  | .erase _ => true
  | .optErase _ => true
  | .selErase _ => true
  | _ => false

/-- A bank is paused by some identity (R345). -/
def State.paused (s : State) (bank : Nat) : Bool :=
  s.flc.pause.any (fun p => if bank = 0 then p.2.1 else p.2.2)

/-- A bank is busy: a step of a main-array command runs in it (R342). A suspended erase step counts for FLC_STAT. -/
def State.bankBusy (s : State) (bank : Nat) : Bool :=
  s.flc.running.any (fun r => r.cmd.op.bank == some bank && (r.kind == .eraseStep || r.kind == .program))

/-- The bank's BUSY bit of FLC_STAT (R344). -/
def State.bankBusyStat (s : State) (bank : Nat) : Bool :=
  s.bankBusy bank || s.flc.suspended.any (fun r => r.cmd.op.bank == some bank)

/-- Requesters in the round robin's order after `l` (R343). -/
def rrOrder (l : Nat) : List Nat := (List.range 11).map (fun i => (l + 1 + i) % 11)

/-- A normal command may start a step now (R345): an END line is written in no bank. -/
def State.startable (s : State) (c : FlashCmd) : Bool := c.verified || match c.op.bank with
  | some b => !s.paused b
  | none => true

/-- The next command at a step boundary: the oldest urgent one, else an erase that only its END line is missing from (R335), else the next
requester's in round robin (R343). -/
def State.flcNext (s : State) : Option FlashCmd :=
  match s.flc.queue.find? (fun c => c.urgent), s.flc.queue.find? (fun c => c.verified) with
  | some c, _ => some c
  | none, some c => some c
  | none, none => (rrOrder s.flc.last).findSome? (fun r => s.flc.queue.find? (fun c => c.req == r && s.startable c))

/-- A command ends with a code of Table 11-5; its requester is told by the settling. -/
def State.flcEnd (s : State) (c : FlashCmd) (code : Nat) : State :=
  s.mFlc (fun x => { x with ended := x.ended ++ [(c, code)] })

/-- Lines a journal sector holds after its SUMMARY: 1,024 lines of 16 octets, 129 of them the SUMMARY (R335). -/
abbrev jrnLines : Nat := 895

/-- The current journal sector. -/
def State.jrn (s : State) : JrnSector := if s.info.jrnCur = 0 then s.info.jrn0 else s.info.jrn1

/-- Change the other journal sector. -/
def State.mJrnOther (s : State) (f : JrnSector → JrnSector) : State :=
  s.mInfo (fun x => if x.jrnCur = 0 then { x with jrn1 := f x.jrn1 } else { x with jrn0 := f x.jrn0 })

/-- The step that a command's journal line needs next: the line `k` itself, or in a full sector first the other's erase and its SUMMARY (R335). -/
def State.jrnStep (s : State) (c : FlashCmd) (k : StepKind) : StepKind :=
  if s.jrn.lines.length < jrnLines then k else if c.rolled then .jrnSum else .jrnErase

/-- The kind of a command's next step (R335): an erase begins with its BEGIN line and ends with its END line. -/
def State.flcKind (s : State) (c : FlashCmd) : StepKind := match c.op with
  | .erase _ => if c.verified then s.jrnStep c .jrnEnd else if c.begun then .eraseStep else s.jrnStep c .jrnBegin
  | .optErase _ => .eraseStep
  | .selErase _ => .eraseStep
  | _ => .program

/-- A step of the journal, which is none of the command's own. -/
def StepKind.ofJournal : StepKind → Bool
  | .eraseStep => false
  | .program => false
  | _ => true

/-- Start the command's next step (R335, R343). A journal step is no turn in the round robin. An erase of a journal sector leaves it without a
valid SUMMARY from its start, and the old sector authoritative. -/
def State.flcBegin (s : State) (c : FlashCmd) : State :=
  let k := s.flcKind c
  let s := if k = .jrnErase then s.mJrnOther (fun _ => ⟨none, []⟩) else s
  s.mFlc (fun x => { x with
    running := some ⟨c, k⟩
    last := if c.urgent || k.ofJournal then x.last else c.req
    queue := x.queue.erase c })

/-- The controller starts steps: it is ready, no reset waits for the step in progress (R306, R336), and no damper request is pending: the
request's answer is given when the current step ends (Table 9-2, R346). -/
def State.flcMayStart (s : State) : Bool := s.flc.ready && s.rst.deferred.isEmpty && s.pwr.entry.isNone

/-- Choose and start the next step where the controller is idle (R343, R344): commands refused at their first step end at once. -/
def State.flcKickN (s : State) : Nat → State
  | 0 => s
  | n + 1 =>
    if s.flcMayStart = false then s
    else match s.flc.running with
      | some r =>
        -- an urgent command suspends an erase step
        if r.kind == .eraseStep && s.flc.suspended.isNone && s.flc.queue.any (fun c => c.urgent) then
          (s.mFlc (fun x => { x with running := none, suspended := some r })).flcKickN n
        else s
      | none =>
        match s.flc.suspended with
        | some r =>
          if s.flc.queue.any (fun c => c.urgent) then
            match s.flcNext with
            | some c => if s.flcCheck c = 0 then s.flcBegin c
                else ((s.mFlc (fun x => { x with queue := x.queue.erase c })).flcEnd c (s.flcCheck c)).flcKickN n
            | none => s
          else s.mFlc (fun x => { x with running := some r, suspended := none })
        | none =>
          match s.flcNext with
          | some c => if c.begun || s.flcCheck c == 0 then s.flcBegin c
              else ((s.mFlc (fun x => { x with queue := x.queue.erase c })).flcEnd c (s.flcCheck c)).flcKickN n
          | none => s

/-- The controller picks its next step. -/
def State.flcKick (s : State) : State := s.flcKickN (s.flc.queue.length + 2)

/-! ## The journal -/

/-- A block's state and erase count as a journal sector gives them: the last line that names it, else the SUMMARY; a torn line says nothing (R335). -/
def JrnSector.state (j : JrnSector) (b : Nat) : Bool × Nat :=
  match j.lines.reverse.find? (fun l => l.block == b && l.kind != .torn) with
  | some l => (decide (l.kind = .begin), l.count)
  | none => nth (j.summary.getD []) b (false, 0)

/-- The SUMMARY of every block is programmed into the other sector, in which the journal goes on (R335). -/
def State.jrnSummary (s : State) : State :=
  (s.mJrnOther (fun _ => ⟨some (s.flc.blocks.map (fun b => (b.suspect, b.count))), []⟩)).mInfo (fun x => { x with jrnCur := 1 - x.jrnCur })

/-- Program a line into the journal (R335). -/
def State.jrnLine (s : State) (l : JrnLine) : State :=
  s.mInfo (fun x => if x.jrnCur = 0 then { x with jrn0 := { x.jrn0 with lines := x.jrn0.lines ++ [l] } }
    else { x with jrn1 := { x.jrn1 with lines := x.jrn1.lines ++ [l] } })

/-- Change a block's entry. -/
def State.mBlk (s : State) (b : Nat) (f : BlockSt → BlockSt) : State := s.mFlc (fun x => { x with blocks := modAt x.blocks b f })

/-- A BEGIN line reads back valid: the erase count rises, the block is SUSPECT, and at 50,000 it is WORN (R335, R338). -/
def State.jrnBegin (s : State) (b : Nat) : State :=
  let n := if (s.blk b).count = 0xFFFFFF then 0xFFFFFF else (s.blk b).count + 1
  let s := (s.mBlk b (fun x => { x with count := n, suspect := true, worn := x.worn || n == 50000 })).jrnLine ⟨b, .begin, n⟩
  if n = 50000 then s.ash3 0x0031 (w32 b) 0 0 else s

/-- An END line reads back valid: the block is ERASED (R335). -/
def State.jrnEnd (s : State) (b : Nat) : State :=
  let s := s.wipe (blockAddr b) (blockAddr (b + 1))
  let s := s.mFlc (fun x => { x with torn := x.torn.filter (fun p => p / 256 != b) })
  (s.mBlk b (fun x => { x with ptr := 0, suspect := false })).jrnLine ⟨b, .done, (s.blk b).count⟩

/-! ## The end of a step -/

/-- The page of a program step is consumed: its write pointer passes it (R331). -/
def State.pageUsed (s : State) (a : Nat) : State := s.mBlk (blockOf a) (fun x => { x with ptr := x.ptr + 1 })

/-- A page whose contents are not defined (R333; a failed verify, R340). -/
def State.pageTorn (s : State) (a : Nat) : State := (s.pageUsed a).mFlc (fun x => { x with torn := x.torn ++ [pageOf a] })

/-- The current selector record and its sector (R349): the valid record of the highest sequence number, SEL0's where equal. -/
def State.selCurrent (s : State) : Option (Nat × SelRec) :=
  let best (l : List (Option SelRec)) : Option SelRec :=
    l.foldl (fun b r => match b, r with
      | none, r => r
      | b, none => b
      | some x, some y => if x.seq ≤ y.seq then some y else some x) none
  match best s.info.sel0, best s.info.sel1 with
  | some x, some y => if y.seq ≤ x.seq then some (0, x) else some (1, y)
  | some x, none => some (0, x)
  | none, some y => some (1, y)
  | none, none => none

/-- FLC_SEL and FLC_SEL_SEQ show the current selector record (R349). -/
def State.selShow (s : State) : State := match s.selCurrent with
  | some (k, r) => (s.wr R.FLC_SEL (w32 (0x80000000 + k * 0x40000000 + r.unit))).wr R.FLC_SEL_SEQ (w32 r.seq)
  | none => (s.wr R.FLC_SEL 0).wr R.FLC_SEL_SEQ 0

/-- The effect of a program step that verifies. A SELECT record that reads back valid sets FLC_PROT.UNIT in the same cycle (R351). -/
def State.programmed (s : State) (op : FlashOp) : State := match op with
  | .program a d => (s.putBytes a d).pageUsed a
  | .optProgram 0 r => s.mInfo (fun x => { x with opt0 := x.opt0 ++ [some r] })
  | .optProgram _ r => s.mInfo (fun x => { x with opt1 := x.opt1 ++ [some r] })
  | .selProgram k r =>
    let s := s.mInfo (fun x => if k = 0 then { x with sel0 := x.sel0 ++ [some r] } else { x with sel1 := x.sel1 ++ [some r] })
    s.selShow.fp F.FLC_PROT_UNIT r.unit
  | _ => s

/-- The effect of a program step that fails its verify, or that power loss cuts: the page is consumed and holds no record. -/
def State.programLost (s : State) (op : FlashOp) : State := match op with
  | .program a _ => s.pageTorn a
  | .optProgram 0 _ => s.mInfo (fun x => { x with opt0 := x.opt0 ++ [none] })
  | .optProgram _ _ => s.mInfo (fun x => { x with opt1 := x.opt1 ++ [none] })
  | .selProgram k _ => s.mInfo (fun x => if k = 0 then { x with sel0 := x.sel0 ++ [none] } else { x with sel1 := x.sel1 ++ [none] })
  | _ => s

/-- An erased information sector. -/
def State.infoErased (s : State) (op : FlashOp) : State := match op with
  | .optErase 0 => s.mInfo (fun x => { x with opt0 := [] })
  | .optErase _ => s.mInfo (fun x => { x with opt1 := [] })
  | .selErase 0 => s.mInfo (fun x => { x with sel0 := [] })
  | .selErase _ => s.mInfo (fun x => { x with sel1 := [] })
  | _ => s

/-- The slot's count of steps done (Table 11-9). -/
def State.slotSteps (s : State) (c : FlashCmd) : State :=
  if [1, 2, 3, 4, 6].contains c.req then s.fp (F.FLC_RESs_STEPS c.req) (c.steps + 1) else s

/-- A command goes to the head of the queue, to go on with its next step. -/
def State.flcAgain (s : State) (c : FlashCmd) : State := s.mFlc (fun x => { x with queue := c :: x.queue })

/-- A command's next journal step follows the one that has ended, unless the controller may start none (R306, R346). -/
def State.flcFollow (s : State) (c : FlashCmd) : State :=
  if s.flcMayStart then s.flcBegin c else s.flcAgain c

/-- A journal line that does not read back valid fills its place and says nothing (R335). -/
def State.jrnTorn (s : State) (b : Nat) : State := s.jrnLine ⟨b, .torn, 0⟩

/-- The running step ends (R335, R341-R343): a program verifies or not; an erase step is the last of its erase (`ok`), one of more
(`more`), or the erase is still unverified after 120 ms (`fail`). A journal line that does not read back valid ends its command with VERIFY (log 90).
A cancelled erase ends with the step that ran; where that was its END line, the line does not count (log 90). -/
def State.flcStepEnd (s : State) (e : StepEnd) : State := match s.flc.running with
  | none => s
  | some r =>
    let s := s.mFlc (fun x => { x with running := none })
    let c := { r.cmd with steps := r.cmd.steps + 1 }
    let s := if r.kind.ofJournal then s else s.slotSteps r.cmd
    match r.kind, r.cmd.op with
    | .jrnErase, _ =>
      if r.cmd.cancel then s.flcEnd r.cmd 7
      else match e with
        | .ok => s.flcFollow { r.cmd with rolled := true }
        | .more => s.flcFollow r.cmd
        | .fail => s.flcEnd r.cmd 8
    | .jrnSum, _ =>
      if e = .fail then s.flcEnd r.cmd (if r.cmd.cancel then 7 else 8)
      else if r.cmd.cancel then s.jrnSummary.flcEnd r.cmd 7
      else s.jrnSummary.flcFollow { r.cmd with rolled := false }
    | .jrnBegin, .erase b =>
      if e = .fail then (s.jrnTorn b).flcEnd r.cmd (if r.cmd.cancel then 7 else 8)
      else if r.cmd.cancel then (s.jrnBegin b).flcEnd r.cmd 7
      else (s.jrnBegin b).flcAgain { r.cmd with begun := true }
    | .jrnEnd, .erase b =>
      if r.cmd.cancel then (s.jrnTorn b).flcEnd r.cmd 7
      else if e = .fail then (s.jrnTorn b).flcEnd r.cmd 8
      else (s.jrnEnd b).flcEnd r.cmd 0
    | .program, op => match e with
      | .fail => (s.programLost op).flcEnd c 8
      | _ => (s.programmed op).flcEnd c 0
    | .eraseStep, .erase _ =>
      if r.cmd.cancel then s.flcEnd c 7
      else match e with
        | .ok => s.flcFollow { c with verified := true }
        | .more => s.flcAgain c
        | .fail => s.flcEnd c 8
    | .eraseStep, op =>
      if r.cmd.cancel then s.flcEnd c 7
      else match e with
        | .ok => (s.infoErased op).flcEnd c 0
        | .more => s.flcAgain { c with begun := true }
        | .fail => s.flcEnd c 8
    | _, _ => s

/-- Table 11-6: a reset that is not deferred, or power loss, cuts the running step. A cut BEGIN line means the erase never began; a cut
END line leaves the block SUSPECT (R335). -/
def State.flcCut (s : State) : State :=
  let s := match s.flc.running with
    | some r => (match r.kind, r.cmd.op with
      | .program, op => s.programLost op
      | .jrnBegin, .erase b => s.jrnTorn b
      | .jrnEnd, .erase b => s.jrnTorn b
      | _, _ => s)
    | none => s
  s.mFlc (fun x => { x with running := none })

/-- Every reset empties the queue; no slot result survives (R347). -/
def State.flcReset (s : State) : State :=
  s.mFlc (fun x => { x with
    queue := [], running := none, suspended := none, ended := [], pause := [], last := 0, ready := false, frozen := [] })

/-- The SUSPECT bitmap of the 32 blocks from `32 n` (FLC_SUSPECTn). -/
def State.suspectMap (s : State) (n : Nat) : Word :=
  (List.range 32).foldl (fun w i => if (s.blk (32 * n + i)).suspect then w ||| w32 (2 ^ i) else w) 0

/-- The rebuild at a reset or CINDER wake (R335, R336): states and counts from the journal, then READY; SUSPECT blocks are reported. -/
def State.flcRebuild (s : State) : State :=
  let j0 := s.info.jrn0.summary.isSome
  let j1 := s.info.jrn1.summary.isSome
  let lost := !j0 && !j1
  let s := if lost then
      let s := s.mFlc (fun x => { x with blocks := x.blocks.map (fun b => { b with suspect := false, count := 0xFFFFFF }) })
      let s := (s.fset F.FLC_EVT_JRN_LOST).ash3 0x0032 0 0 0
      s.mInfo (fun x => { x with jrn0 := ⟨some (List.replicate 128 (false, 0xFFFFFF)), []⟩, jrn1 := ⟨none, []⟩, jrnCur := 0 })
    else
      let s := s.mInfo (fun x => { x with jrnCur := if x.jrnCur = 0 then (if j0 then 0 else 1) else (if j1 then 1 else 0) })
      let j := s.jrn
      s.mFlc (fun x => { x with blocks := x.blocks.mapIdx (fun i b => { b with suspect := (j.state i).1, count := (j.state i).2 }) })
  let s := (s.mFlc (fun x => { x with ready := true })).fset F.FLC_STAT_READY
  let s := s.selShow
  if s.flc.blocks.any (fun b => b.suspect) then
    let s := s.fset F.FLC_EVT_SUSPECT_FOUND
    s.forEach [0, 1] (fun s g =>
      if s.suspectMap (2 * g) = 0 ∧ s.suspectMap (2 * g + 1) = 0 then s
      else s.ash3 0x0030 (w32 g) (s.suspectMap (2 * g)) (s.suspectMap (2 * g + 1)))
  else s

/-- A slot's command ended (R340): DONE or ERROR with its code, the slot's FLC_DONE bit, REFUSED for codes 1 to 6. -/
def State.slotEnd (s : State) (c : FlashCmd) (code : Nat) : State :=
  let s := (s.fp (F.FLC_RESs_STATE c.req) (if code = 0 then 2 else 3)).fp (F.FLC_RESs_CODE c.req) code
  let s := s.rset R.FLC_DONE c.req
  if 1 ≤ code ∧ code ≤ 6 then s.fset F.FLC_EVT_REFUSED else s

/-- Internal commands are cancelled: the queued ones, an erase between two of its steps with its block SUSPECT; a running erase ends after its step
(R341, R347). Tag 99 marks what still ends later: nobody waits for it. -/
def State.flcCancelOf (s : State) (p : FlashCmd → Bool) : State :=
  let mark (c : FlashCmd) : FlashCmd := if p c then { c with cancel := true, tag := 99 } else c
  s.mFlc (fun x => { x with
    queue := x.queue.filter (fun c => !p c)
    running := x.running.map (fun (r : FlashStep) => { r with cmd := mark r.cmd })
    suspended := x.suspended.map (fun (r : FlashStep) => { r with cmd := mark r.cmd }) })

/-- All of a requester's commands are cancelled. -/
def State.flcCancel (s : State) (req : Nat) : State := s.flcCancelOf (fun c => c.req == req)

end Sys2Proof.Machine
end

