-- ==== Sys2Proof/Machine/VaultCore.lean ====
section
/-! DEFINITION. Key pages, the vault's functions, owner tokens, the TRNG and who may reach memory: what the vault, link cipher, verify
engine and life-cycle commands are made of (R19-R20, R222-R264). -/

namespace Sys2Proof.Machine

/-! ## Who may reach memory (Table 1-3, Table 1-4, R326) -/

/-- The frame buffer of a link RAM offset in the buffer pool. -/
def bufOf (off : Nat) : Nat := (off - 0x18000) / 0x840

/-- The queue of a link RAM offset among the descriptors. -/
def descQueue (off : Nat) : Nat := (off - 0x39000) / 0x200

/-- Descriptor `i` of queue `q` lies between RECL and PROD. -/
def State.descHeld (s : State) (q i : Nat) : Bool :=
  let r := s.fg (F.HRT_Qn_RECL_IDX q)
  let n := (s.fg (F.HRT_Qn_PROD_IDX q) + 128 - r) % 128
  decide ((i + 128 - r % 64) % 64 < n)

/-- Word 0 of a descriptor. -/
def State.descW0 (s : State) (q i : Nat) : Word := s.lw (0x30079000 + 0x200 * q + 8 * i)

/-- The owner may write the buffer of a descriptor that Hearth holds: COMPLETE, and with its verdict on an RX queue (R69). -/
def bufWritable (q : Nat) (w : Word) : Bool := wField w 31 30 == 3 && (decide (q < 16) || wBit w 13)

/-- The descriptor that a buffer was enqueued or posted with (R71). -/
def State.bufDesc (s : State) (b : Nat) : Option (Nat × Nat) := (s.hrt.desc.find? (fun p => p.2.buf == some b)).map (fun p => p.1)

/-- The syndrome at a frame buffer (R69, R74): its holder reads and writes it; while Hearth holds it, the owner of the queue that it was enqueued
or posted on reads it. -/
def State.bufSyn (s : State) (own : Nat) (sec : Bool) (b : Nat) (wr : Bool) : Nat :=
  let h := nth s.hrt.bufHolder b ownNone
  if own = ownNone ∨ own = ownHearth then synOwner
  else if h = own then 0
  else if h ≠ ownHearth ∨ b < 2 then synOwner
  else
    match s.bufDesc b with
    | some p =>
      if p.1 < 32 ∧ s.fg (F.HRT_Qn_CFG_OWNER p.1) = own ∧ (wr = false ∨ bufWritable p.1 (s.descW0 p.1 p.2) = true) then
        (if s.fb (F.HRT_Qn_CFG_SEC p.1) && !sec then synSecure else 0)
      else synOwner
    | none => synOwner

/-- The syndrome at a queue descriptor (Table 1-4, R67, R69): only the queue's owner, which must not write a TX descriptor that is QUEUED or
IN_FLIGHT between RECL and PROD. -/
def State.descSyn (s : State) (own : Nat) (sec : Bool) (q i : Nat) (wr : Bool) : Nat :=
  let st := wField (s.descW0 q i) 31 30
  if own = ownNone ∨ s.fg (F.HRT_Qn_CFG_OWNER q) ≠ own then synOwner
  else if s.fb (F.HRT_Qn_CFG_SEC q) && !sec then synSecure
  else if wr = true ∧ q < 16 ∧ s.descHeld q i = true ∧ (st = 1 ∨ st = 2) then synOwner
  else 0

/-- The syndrome the owner model gives an access of identity `own` to a memory address, 0 where it is permitted. -/
def State.memSyn (s : State) (own : Nat) (sec : Bool) (a : Nat) (wr : Bool) : Nat :=
  let core := own == ownA || own == ownB || own == ownPilot
  if own == ownDebug && !sec then synOwner else
  match regionOf a with
  | .rom => if core || own == ownDebug then (if wr then synWrite else 0) else synOwner
  | .flash => if wr then synWrite else 0
  | .sram b =>
    if own == ownDebug then 0
    else if b < 4 then (if own == ownA || own == ownPilot then 0 else synOwner)
    else if b < 8 then (if own == ownB then 0 else synOwner)
    else if core || own == ownHost || own == ownSvc then 0 else synOwner
  | .ember =>
    if 0x28005000 ≤ a ∧ a < 0x28007100 then synOwner
    else if 0x28003800 ≤ a ∧ a < 0x28005000 then (if own == ownPilot || own == ownDebug then (if sec then 0 else synSecure) else synOwner)
    else if core || own == ownDebug then (if sec then 0 else synSecure) else synOwner
  | .window =>
    if s.fg F.HRT_SNAP_STAT_STATE = 2 ∧ s.fg F.HRT_SNAP_STAT_HOLDER = own then (if wr then synWrite else 0) else synOwner
  | .link off =>
    if off < 0x18000 then (if core && !wr then 0 else synOwner)
    else if off < 0x39000 then s.bufSyn own sec (bufOf off) wr
    else if off < 0x3D000 then s.descSyn own sec (descQueue off) (off % 0x200 / 8) wr
    else synOwner
  | .periph _ => synOwner
  | .unmapped => synDecode

/-- Memory that Tables 1-3 and 1-4 open to the cores (and DEBUG) and to no DMA channel: the ROM, ember memory, and the neighbour, child and cell
tables. -/
def coresOnly (a : Nat) : Bool := match regionOf a with
  | .rom => true
  | .ember => true
  | .link off => decide (off < 0x18000)
  | _ => false

/-- The syndrome the owner model gives an access of an initiator to a memory address, 0 where it is permitted (R16, R20). -/
def State.memSynOf (s : State) (who : Initiator) (a : Nat) (wr : Bool) : Nat := match who with
  | .dma _ => if coresOnly a then synOwner else s.memSyn (s.owner who) (s.secure who) a wr
  | _ => s.memSyn (s.owner who) (s.secure who) a wr

/-- A run of `n` octets can be read (or written) as memory by an identity: no syndrome and no uncorrectable word. -/
def State.memOk (s : State) (own : Nat) (sec : Bool) (a n : Nat) (wr : Bool) : Bool :=
  (List.range ((n + 3) / 4 + 1)).all (fun i =>
    let x := min (a + 4 * i) (a + n - 1)
    s.memSyn own sec x wr == 0 && !s.eccBad.contains (x / 4 * 4))

/-! ## Key slots -/

/-- A key slot; an untouched one is empty. -/
def State.key (s : State) (n k : Nat) : KeySlot := (alGet s.vlt.keys (n, k)).getD ⟨List.replicate 8 0, [], 0⟩

/-- Replace a key slot. -/
def State.setKey (s : State) (n k : Nat) (x : KeySlot) : State := s.mVlt (fun v => { v with keys := alSet v.keys (n, k) x })

/-- The KCV of a key (R225). -/
def kcvOf (k : List Byte) : Word := w32 (ofBe ((cmac k (List.replicate 16 0)).take 4))

/-- A key becomes a slot's active key: VALID, its KCV; the buffer and mask are cleared (R223). -/
def State.keyActive (s : State) (n k : Nat) (key : List Byte) : State :=
  let s := s.setKey n k { s.key n k with buf := List.replicate 8 0, active := key }
  let s := (s.fset (F.VLT_PGn_SLOTs_VALID n k)).fp (F.VLT_PGn_SLOTs_ERR n k) 0
  (s.fp (F.VLT_PGn_SLOTs_MASK n k) 0).wr (R.VLT_PGn_KCVs n k) (kcvOf key)

/-- A write to a load buffer word (R223). -/
def State.keyWord (s : State) (n k w : Nat) (v : Word) : State :=
  let x := s.key n k
  (s.setKey n k { x with buf := x.buf.set w v }).fp (F.VLT_PGn_SLOTs_MASK n k) (Nat.lor (s.fg (F.VLT_PGn_SLOTs_MASK n k)) (2 ^ w))

/-- LOAD (R223): INCOMPLETE where the mask does not cover the size's words. -/
def State.keyLoad (s : State) (n k : Nat) : State :=
  let big := s.fb (F.VLT_PGn_SLOTs_SIZE n k)
  let m := s.fg (F.VLT_PGn_SLOTs_MASK n k)
  let ok := if big then m = 255 else m % 16 = 15
  if ok then s.keyActive n k (((s.key n k).buf.take (if big then 8 else 4)).flatMap (fun w => beBytes 4 w.toNat))
  else
    let s := s.setKey n k { s.key n k with buf := List.replicate 8 0 }
    (s.fp (F.VLT_PGn_SLOTs_ERR n k) 1).fp (F.VLT_PGn_SLOTs_MASK n k) 0

/-- CLEAR: the slot is invalid, its key and buffer zero (R223). -/
def State.keyClear (s : State) (n k : Nat) : State :=
  let s := s.mVlt (fun v => { v with keys := alDel v.keys (n, k) })
  let s := (s.fclr (F.VLT_PGn_SLOTs_VALID n k)).fp (F.VLT_PGn_SLOTs_ERR n k) 0
  (s.fp (F.VLT_PGn_SLOTs_MASK n k) 0).wr (R.VLT_PGn_KCVs n k) 0

/-- WIPE of a page (R264). -/
def State.pageWipe (s : State) (n : Nat) : State := s.forEach (List.range 8) (fun s k => s.keyClear n k)

/-- Every key and load buffer is erased (R256, Table 10-2). -/
def State.keysErase (s : State) : State := s.forEach (List.range 8) (fun s n => s.pageWipe n)

/-- Pages 0-4, 6 and 7 are erased at CINDER entry; page 5 is kept (R293). -/
def State.keysEraseCinder (s : State) : State := s.forEach [0, 1, 2, 3, 4, 6, 7] (fun s n => s.pageWipe n)

/-- The root key's octets; in RETIRED the vault cannot read it (R261). -/
def rootKeyBytes : List Byte := beBytes 32 Config.rootKey.toNat

/-- The vault derives page 5 from the root key (R247); with ROOT_KILL it stays empty (R261). -/
def State.page5 (s : State) : State :=
  if s.fuse.rootKill then s
  else s.forEach [(0, "kalya wrap enc"), (1, "kalya wrap mac"), (2, "kalya cfg"), (3, "kalya settings"), (4, "kalya app")]
    (fun s p => s.keyActive 5 p.1 (kdf256 rootKeyBytes (label p.2)))

/-- The owner of a key page (Table 7-1). -/
def State.pageOwner (s : State) (n : Nat) : Nat := s.fg (F.VLT_PGn_OWN_OWNER n)

/-! ## Random numbers -/

/-- The TRNG has failed (R254). -/
def State.trngFail (s : State) : Bool := s.fb F.VLT_TRNG_STAT_FAIL

/-- VLT_TRNG_STAT shows the words ready. -/
def State.trngShow (s : State) : State :=
  (s.fp F.VLT_TRNG_STAT_WORDS s.vlt.words.length).fp F.VLT_TRNG_STAT_READY (b2n (!s.vlt.words.isEmpty))

/-- A fresh challenge is drawn (R260); none while the TRNG has failed (R254). -/
def State.newChallenge (s : State) : State :=
  if s.trngFail then s.fclr F.LCS_DBG_CHAL_VALID
  else
    let r := s.draws 4
    (r.2.forEach (List.range 4) (fun t i => t.wr (R.LCS_CHALn i) (nth r.1 i 0))).fset F.LCS_DBG_CHAL_VALID

/-! ## Owner tokens (R260) -/

/-- The owner key hash as octets. -/
def State.ownerHash (s : State) : List Byte := (List.range 8).flatMap (fun i => beBytes 4 (s.rd (R.LCS_OWNER_HASHn i)).toNat)

/-- A token's check: 0 OK, 2 TOKEN, 3 CHALLENGE, 4 UID (R260, Table 7-12). -/
def State.tokenCheck (s : State) (t : List Byte) (type : Nat) (arg : List Byte) : Nat :=
  let key := (t.drop 0x40).take 64
  if t.length ≠ 192 ∨ ofLe (t.take 4) ≠ type ∨ ofLe ((t.drop 4).take 4) ≠ 0 ∨ (t.drop 0x20).take 32 ≠ arg ∨ sha256 key ≠ s.ownerHash then 2
  else if (t.drop 8).take 8 ≠ beBytes 4 (s.rd R.LCS_UID_HI).toNat ++ beBytes 4 (s.rd R.LCS_UID_LO).toNat then 4
  else if s.fb F.LCS_DBG_CHAL_VALID = false ∨
      (t.drop 0x10).take 16 ≠ (List.range 4).flatMap (fun i => beBytes 4 (s.rd (R.LCS_CHALn i)).toNat) then 3
  else if ecdsaVerify key (t.drop 0x80) (sha256 (t.take 128)) ≠ 1 then 2
  else 0

/-- The argument of the token types that carry none. -/
def zeroArg : List Byte := List.replicate 32 0

/-! ## The vault's functions -/

/-- The key a PURPOSE names (Table 7-7): slot 2 K_CFG, 3 K_SET, 4 K_APP. -/
def State.purposeKey (s : State) (p : Nat) : List Byte := (s.key 5 (2 + p)).active

/-- A check value (GEN) over a message for a requester. -/
def State.checkValue (s : State) (p who : Nat) (m : List Byte) : List Byte :=
  cmac (s.purposeKey p) (if p = 2 then BitVec.ofNat 8 who :: m else m)

/-- The wrapped part of a blob under its two keys (Table 7-8): 56 octets and the tag. -/
def wrapBlob (enc mac header salt key : List Byte) : List Byte :=
  let ks := cmac enc (salt ++ [1]) ++ cmac enc (salt ++ [2])
  let big := (nth header 1 0).getLsbD 7
  let body := header ++ salt ++ (if big then xorL key ks else xorL (key.take 16) ks ++ List.replicate 16 0)
  body ++ (cmac mac body).take 8

/-- Open a blob under its two keys: its header and key where the format and tag are right. -/
def openBlob (enc mac blob : List Byte) : Option (List Byte × List Byte) :=
  if blob.length ≠ 64 ∨ nth blob 0 0 ≠ 1 ∨ (cmac mac (blob.take 56)).take 8 ≠ blob.drop 56 then none
  else
    let salt := (blob.drop 8).take 16
    let ks := cmac enc (salt ++ [1]) ++ cmac enc (salt ++ [2])
    let key := xorL ((blob.drop 24).take 32) ks
    some (blob.take 8, if (nth blob 1 0).getLsbD 7 then key else key.take 16)

/-- Open a root-wrapped blob; with page 5 empty every UNWRAP fails (R261). -/
def State.openRoot (s : State) (blob : List Byte) : Option (List Byte × List Byte) :=
  if (s.key 5 0).active.isEmpty then none else openBlob (s.key 5 0).active (s.key 5 1).active blob

/-- The owner identity a blob names. -/
def blobOwner (blob : List Byte) : Nat := (nth blob 1 0).toNat % 8

/-- An unwrapped key enters a slot with the size of its header; a page 0 slot takes USE and KEYIDX from it (R388). -/
def State.keyUnwrapped (s : State) (n k : Nat) (header key : List Byte) : State :=
  let s := (s.keyActive n k key).fp (F.VLT_PGn_SLOTs_SIZE n k) (b2n ((nth header 1 0).getLsbD 7))
  if n = 0 then (s.fp (F.VLT_PGn_SLOTs_USE n k) (nth header 2 0).toNat).fp (F.VLT_PGn_SLOTs_KEYIDX n k) (nth header 3 0).toNat else s

/-- A root-wrapped blob of a header and key, its salt drawn from the TRNG (R249). -/
def State.wrapRoot (s : State) (header key : List Byte) : List Byte × State :=
  let r := s.draws 4
  (wrapBlob (s.key 5 0).active (s.key 5 1).active header (r.1.flatMap (fun w => beBytes 4 w.toNat)) key, r.2)

/-- A transport blob under a transport key becomes a root-wrapped blob (R248, R249). -/
def State.rewrap (s : State) (tkey blob : List Byte) : Option (List Byte × State) :=
  match openBlob (kdf256 tkey (label "kalya tx enc")) (kdf256 tkey (label "kalya tx mac")) blob with
  | none => none
  | some (h, k) => if (s.key 5 0).active.isEmpty then none else some (s.wrapRoot h (if k.length < 32 then k ++ List.replicate 16 0 else k))

/-- VIN is present, or VKEEP at 2.7 V or above (R258, R318). -/
def State.supplyOk (s : State) : Bool := s.sup.vinPresent || decide (2700 ≤ s.sup.vkeep)

/-! ## The verify engine's contexts (R252) -/

/-- A context's job. -/
def State.pkJob (s : State) (c : Nat) : Option PkJob := nth s.vlt.pk c none

/-- A job starts in a context that has it (R252): 14 curve steps, and one hashing step for each 32 KB of the `n` octets it hashes. -/
def State.pkStart (s : State) (c n : Nat) (j : PkJob) : State :=
  let s := (s.csRun (.pk c)).wr (R.VLT_PK_PROGc c) (w32 (14 + (n + 32767) / 32768))
  let first := !s.vlt.pkStep && s.pwr.entry.isNone
  s.mVlt (fun v => { v with pk := v.pk.set c (some j), pkStep := v.pkStep || first, pkLast := if first then c else v.pkLast })

/-- ABORT of a context's job: it ends once the step that runs has ended. -/
def State.pkAbort (s : State) (c : Nat) : State := match s.pkJob c with
  | some j => s.mVlt (fun v => { v with pk := v.pk.set c (some { j with abortReq := true }) })
  | none => s

/-- Jobs that waited for a damper request go on once it has ended: the engine takes the step of the context that did not have the last one. -/
def State.pkGoOn (s : State) : State :=
  if s.vlt.pkStep || s.pwr.entry.isSome then s
  else match s.pkJob (1 - s.vlt.pkLast), s.pkJob s.vlt.pkLast with
  | some _, _ => s.mVlt (fun v => { v with pkStep := true, pkLast := 1 - v.pkLast })
  | none, some _ => s.mVlt (fun v => { v with pkStep := true })
  | none, none => s

/-! ## The boot ROM's and update engine's image checks (R350, R351, R361) -/

/-- A unit's header address. -/
def unitHdr (u : Nat) : Nat := blockAddr (64 * u)

/-- A unit's image slot address. -/
def unitSlot (u : Nat) : Nat := blockAddr (64 * u + 2)

/-- A word of a unit header. -/
def State.hdr (s : State) (u off : Nat) : Nat := s.ld (unitHdr u + off) 4

/-- The unit header's mark and CRC are right (Table 11-7). -/
def State.hdrOk (s : State) (u : Nat) : Bool :=
  s.hdr u 0 == 0x4B420001 && s.hdr u 0xFC == crc32 (s.bytes (unitHdr u) 0xFC)

/-- Segment 1 is present. -/
def State.seg1 (s : State) (u : Nat) : Bool := s.hdr u 8 % 2 == 1

/-- lengths_ok of R350. -/
def State.lengthsOk (s : State) (u : Nat) : Bool :=
  let l0 := s.hdr u 0x0C
  let l1 := s.hdr u 0x18
  decide (4 ≤ l0) && decide (l0 ≤ 524288) && decide (s.hdr u 0x10 < l0) &&
  (!s.seg1 u || (decide (4 ≤ l1) && decide (l1 ≤ 524288) && decide (s.hdr u 0x1C < l1) &&
    decide ((l0 + 255) / 256 * 256 ≤ s.hdr u 0x14) && decide (s.hdr u 0x14 + l1 ≤ 524288)))

/-- Page `p` of a unit's image slot is programmed: its block's write pointer has passed it. -/
def State.slotPage (s : State) (u p : Nat) : Bool := decide (p % 256 < (s.blk (64 * u + 2 + p / 256)).ptr)

/-- programmed of R350: the write pointers of the image slot's blocks cover both segments; what lies between them needs no page. -/
def State.unitProgrammed (s : State) (u : Nat) : Bool :=
  let l1 := s.hdr u 0x18
  (List.range ((s.hdr u 0x0C + 255) / 256)).all (s.slotPage u) &&
  (!s.seg1 u || l1 == 0 || (List.range ((s.hdr u 0x14 % 256 + l1 + 255) / 256)).all (fun i => s.slotPage u (s.hdr u 0x14 / 256 + i)))

/-- The unit is SUSPECT: any of its ten blocks is (R348). -/
def State.unitSuspect (s : State) (u : Nat) : Bool := (unitBlocks u).any (fun b => (s.blk b).suspect)

/-- The segments' octets as the digest covers them, read at a base for each segment. -/
def State.segs (s : State) (u base0 base1 : Nat) : List Byte :=
  s.bytes base0 (s.hdr u 0x0C) ++ (if s.seg1 u then s.bytes base1 (s.hdr u 0x18) else [])

/-- The image checks of R351 with OWNER_SET 1, in order: 0 passes, 1 key hash, 2 digest, 3 signature. -/
def State.imageCheck (s : State) (u base0 base1 : Nat) : Nat :=
  let h := unitHdr u
  if sha256 (s.bytes (h + 0x40) 64) ≠ s.ownerHash then 1
  else if sha256 (s.segs u base0 base1) ≠ s.bytes (h + 0x20) 32 then 2
  else if ecdsaVerify (s.bytes (h + 0x40) 64) (s.bytes (h + 0x80) 64) (sha256 (s.bytes h 128)) ≠ 1 then 3
  else 0

end Sys2Proof.Machine
end

