-- ==== Sys2Proof/Machine/ConfigImage.lean ====
section
/-! DEFINITION. The configuration image: cell fields, PHY modes and their airtime, and the parse of a copy's sections with every check
of R387 (Tables 12-12, 3-2, 5-2, 5-3). -/

namespace Sys2Proof.Machine

/-! ## Cells and PHY modes -/

/-- The field [hi:lo] of a 64-bit cell entry (Table 3-2). -/
def cf (e hi lo : Nat) : Nat := e / 2 ^ lo % 2 ^ (hi + 1 - lo)

/-- V of a cell. -/
abbrev cV (e : Nat) : Bool := cf e 63 63 == 1
/-- TL of a cell. -/
abbrev cTl (e : Nat) : Nat := cf e 62 62
/-- SF of a cell. -/
abbrev cSf (e : Nat) : Nat := cf e 61 59
/-- SLOT of a cell. -/
abbrev cSlot (e : Nat) : Nat := cf e 58 43
/-- CHOFF of a cell. -/
abbrev cChoff (e : Nat) : Nat := cf e 42 35
/-- ACT of a cell (Table 3-3). -/
abbrev cAct (e : Nat) : Nat := cf e 34 32
/-- SHR of a cell. -/
abbrev cShr (e : Nat) : Bool := cf e 31 31 == 1
/-- TK of a cell. -/
abbrev cTk (e : Nat) : Bool := cf e 30 30 == 1
/-- CCA of a cell. -/
abbrev cCca (e : Nat) : Bool := cf e 29 29 == 1
/-- BOND of a cell. -/
abbrev cBond (e : Nat) : Nat := cf e 28 25
/-- PHY of a cell. -/
abbrev cPhy (e : Nat) : Nat := cf e 24 21
/-- LANE of a cell. -/
abbrev cLane (e : Nat) : Nat := cf e 20 18
/-- NBR of a cell. -/
abbrev cNbr (e : Nat) : Nat := cf e 17 8
/-- BC of a cell. -/
abbrev cBc (e : Nat) : Bool := cf e 7 7 == 1
/-- A cell that receives from any neighbour: BC = 1, or ADV (Table 3-3). -/
abbrev cBcRx (e : Nat) : Bool := cBc e || cAct e == 3
/-- STK of a cell. -/
abbrev cStk (e : Nat) : Bool := cf e 6 6 == 1
/-- KW of a cell. -/
abbrev cKw (e : Nat) : Bool := cf e 5 5 == 1

/-- ACT codes of Table 3-3. -/
abbrev actTx : Nat := 0
/-- RX. -/
abbrev actRx : Nat := 1
/-- TXRX. -/
abbrev actTxRx : Nat := 2
/-- ADV. -/
abbrev actAdv : Nat := 3
/-- GATHER_TX. -/
abbrev actGatherTx : Nat := 4
/-- GATHER_RX. -/
abbrev actGatherRx : Nat := 5
/-- POLL. -/
abbrev actPoll : Nat := 6

/-- The data rate in kb/s and the channel spacing in kHz of a PHY mode code; none where Table 5-2 does not list it. -/
def phyInfo (c : Nat) : Option (Nat × Nat) :=
  if c = 1 then some (50, 200) else if c = 2 then some (100, 200) else if c = 3 then some (150, 400)
  else if c = 4 then some (200, 400) else if c = 5 then some (200, 400) else if c = 6 then some (300, 600)
  else if c = 7 then some (300, 600) else if c = 0x80 then some (250, 5000)
  else if c / 32 = 2 then
    let m := c % 8
    match c / 8 % 4 with
    | 0 => if m ≤ 3 then some (nth [100, 200, 400, 800] m 0, 1200) else none
    | 1 => if m ≤ 5 then some (nth [50, 100, 200, 400, 600, 800] m 0, 800) else none
    | 2 => if 1 ≤ m ∧ m ≤ 6 then some (nth [50, 100, 200, 300, 400, 600] (m - 1) 0, 400) else none
    | _ => if 2 ≤ m ∧ m ≤ 6 then some (nth [50, 100, 150, 200, 300] (m - 2) 0, 200) else none
  else none

/-- The code is SUN-OFDM. -/
def isOfdm (c : Nat) : Bool := c / 32 == 2

/-- The code is 4-FSK. -/
def isFsk4 (c : Nat) : Bool := c == 5 || c == 7

/-- Demodulator units a frame takes (Table 6-5). -/
def phyUnits (c : Nat) : Nat := if isOfdm c then nth [8, 6, 4, 2] (c / 8 % 4) 1 else 1

/-- Round up a quotient. -/
def ceilDiv (a b : Nat) : Nat := (a + b - 1) / b

/-- The data rate of a mode entry in kb/s. -/
def ModeEntry.rate (m : ModeEntry) : Nat := ((phyInfo m.code).map (·.1)).getD 1

/-- T_shr of a mode entry (Table 5-3), exact: this many µs over `ModeEntry.shrDen`. -/
def ModeEntry.shrNum (m : ModeEntry) : Nat :=
  if m.code = 0x80 then 160 else if isOfdm m.code then 720 else if isFsk4 m.code then 16 * (m.pre + 2) * 1000 else 8 * (m.pre + 2) * 1000

/-- The denominator of `ModeEntry.shrNum`: the data rate of a SUN-FSK mode. -/
def ModeEntry.shrDen (m : ModeEntry) : Nat := if m.code = 0x80 || isOfdm m.code then 1 else m.rate

/-- T_shr of a mode entry to the nearest µs (533 in R168's example). -/
def tShr (m : ModeEntry) : Nat := (2 * m.shrNum + m.shrDen) / (2 * m.shrDen)

/-- The airtime of a PSDU of `n` octets in µs, rounded up (Table 5-3). -/
def airtime (m : ModeEntry) (n : Nat) : Nat :=
  let r := m.rate
  if m.code = 0x80 then 32 * (6 + n)
  else if isOfdm m.code then
    let h := if m.code / 8 % 4 < 2 then 3 else 6
    120 * (6 + h + ceilDiv ((8 * n + 6) * 100) (12 * r))
  else if isFsk4 m.code then ceilDiv (16 * (m.pre + 2) * 1000 + 8 * (2 + n) * 1000) r
  else ceilDiv (8 * (m.pre + 4 + n) * 1000) r

/-- The acknowledgement airtime: a 48-octet PSDU. -/
def ackAirtime (m : ModeEntry) : Nat := airtime m 48

/-- The timeline's part of a configuration. -/
def HCfg.tl (c : HCfg) (t : Tl) : Option TlCfg := nth c.tls t.bit none

/-- A template that stands where a timeline has none. -/
def Tmpl.empty : Tmpl := ⟨0xFF, 0, 0, 0, 0, 0, 0, 0, 0, 0⟩

/-- A mode entry that stands where the band plan has none. -/
def ModeEntry.empty : ModeEntry := ⟨0, 8, false, 0, 0, 0⟩

/-- A band plan that stands where a timeline has none. -/
def Band.empty : Band := ⟨0, 0, 0, false, [], [], 0, 0, 600⟩

/-- The defaults of Table 6-1. A timeline A that takes them has no detection class, so R200 refuses its image (`fblRules`; log 84, DEDUCED); the
window centre that its band plan would set therefore never takes effect. -/
def FblCfg.default : FblCfg := ⟨true, 0, 16, 100, 0, 280, [], Option.none⟩

/-- The defaults of RADIO (R388). -/
def RadioCfg.default (t : Nat) : RadioCfg :=
  ⟨0, if t = 0 then -85 else -75, -85, 0, if t = 0 then -100 else -90, 20⟩

/-- The defaults of LINK (R388): EXCL_LEAD is 8 beacon periods in slots. -/
def LinkCfg.default (slot : Nat) : LinkCfg :=
  ⟨16, Option.none, 0, false, false, Option.none, 30, 30, 8 * 16 * 1000000 / max slot 1, 1, 5⟩

/-- A timeline that is not there. -/
def TlCfg.empty : TlCfg :=
  ⟨Tmpl.empty, Band.empty, { FblCfg.default with en := false }, RadioCfg.default 0, LinkCfg.default 0, List.replicate 8 0, []⟩

/-- A timeline's settings, or those of one that is not there. -/
def State.tc (s : State) (t : Tl) : TlCfg := (s.hrt.cfg.tl t).getD TlCfg.empty

/-- A mode entry of a timeline's band plan. -/
def TlCfg.mode (c : TlCfg) (m : Nat) : ModeEntry := nth c.band.modes m ModeEntry.empty

/-- The conditions of R113 on a valid cell that do not depend on a length: 0b111, PHY above the last mode, GATHER on timeline B, a
GATHER_RX cell that needs more than 32 units. -/
def cellBad (modes : List ModeEntry) (e : Nat) : Bool :=
  cAct e == 7 || decide (modes.length ≤ cPhy e) ||
  (cTl e == 1 && (cAct e == actGatherTx || cAct e == actGatherRx)) ||
  (cAct e == actGatherRx && decide (32 < (cLane e + 1) * phyUnits (nth modes (cPhy e) ModeEntry.empty).code))

/-- A cell whose bonded span exceeds its slotframe's length, where that is enabled (R113). -/
def spanBad (sfs : List Nat) (e : Nat) : Bool :=
  let l := nth sfs (cSf e) 0
  l != 0 && decide (l < cBond e + 1)

/-! ## Sections -/

/-- A section: its type, the address of its content and the content's length. -/
structure Sect where
  ty : Nat
  addr : Nat
  len : Nat
  deriving DecidableEq, Repr

/-- The sections from `a` up to END, which must end by `e`; none where one runs past the body or END is missing (R387). -/
def State.sects (s : State) (a e : Nat) : Nat → Option (List Sect)
  | 0 => none
  | n + 1 =>
    if e < a + 4 then none
    else
      let ty := s.ld a 2
      let len := s.ld (a + 2) 2
      let next := a + 4 + (len + 3) / 4 * 4
      if e < next then none
      else if ty = 0xFFFF then some []
      else (s.sects next e n).map (fun l => ⟨ty, a + 4, len⟩ :: l)

/-- The first section of a type. -/
def sect (l : List Sect) (ty : Nat) : Option Sect := l.find? (fun x => x.ty == ty)

/-- How often a type appears. -/
def sectCount (l : List Sect) (ty : Nat) : Nat := (l.filter (fun x => x.ty == ty)).length

/-- A section of a type that names a timeline in its first octet. -/
def State.sectTl (s : State) (l : List Sect) (ty t : Nat) : Option Sect := l.find? (fun x => x.ty == ty && s.ld x.addr 1 == t)

/-- A signed octet. -/
def State.ldS (s : State) (a : Nat) : Int := signed 8 (s.ld a 1)

/-- `x` where the condition holds. -/
def guardOpt {α : Type} (c : Bool) (x : α) : Option α := if c then some x else none

/-- `lo` to `hi`. -/
def inR (lo hi n : Nat) : Bool := decide (lo ≤ n) && decide (n ≤ hi)

/-- A signed value from `lo` to `hi`. -/
def inRi (lo hi n : Int) : Bool := decide (lo ≤ n) && decide (n ≤ hi)

/-- TEMPLATE_A or TEMPLATE_B, with R91's ranges and conditions. -/
def State.readTmpl (s : State) (t : Nat) (x : Sect) : Option Tmpl :=
  let f (i : Nat) := s.ld (x.addr + 4 + 4 * i) 4
  let m : Tmpl := ⟨s.ld x.addr 1, f 0, f 1, f 2, f 3, f 4, f 5, f 6, f 7, f 8⟩
  guardOpt (x.len == 40 && m.len % 100 == 0 &&
    (if t = 0 then inR 5000 200000 m.len && inR 1000 150000 m.gather else inR 2000 50000 m.len && m.gather == 0) &&
    inR 0 m.txOff m.ccaOff && inR 128 5000 m.cca && inR 1000 10000 m.txOff && inR 500 5000 m.txAck && inR 300 4800 m.rxAck &&
    inR 100 2000 m.ackWait && inR 400 16000 m.guardMax &&
    decide (m.rxAck < m.txAck) && decide (m.txAck < m.rxAck + m.ackWait) &&
    decide (m.guardMax + 200 ≤ 2 * m.txOff) && decide (m.ccaOff + m.cca ≤ m.txOff)) m

/-- A mode entry of 8 octets (R167). -/
def State.readMode (s : State) (t a : Nat) : Option ModeEntry :=
  let m : ModeEntry := ⟨s.ld a 1, s.ld (a + 1) 1, s.ld (a + 2) 1 % 2 == 1, s.ld (a + 3) 2, s.ldS (a + 5), s.ldS (a + 6)⟩
  guardOpt ((phyInfo m.code).isSome && (m.code == 0x80) == (t == 1) && decide (m.maxPsdu ≤ (if t = 1 then 127 else 2047)) &&
    (m.code / 8 != 0 || inR 4 64 m.pre)) m

/-- Every element of a list of options, or none. -/
def allSome {α : Type} : List (Option α) → Option (List α)
  | [] => some []
  | none :: _ => none
  | some x :: t => (allSome t).map (fun l => x :: l)

/-- A mode entry's two targets are within Table 5-7: from −20 dBm to the highest power of a path at one of the plan's channels, in 0.25 dB. DEDUCED
(log 94): a target above the LP path's range is one of the HP path, which R181 brings down to the LP maximum where LP is taken. -/
def powerOk (t ch0 sp : Nat) (hop : List Nat) (m : ModeEntry) : Bool :=
  let on (lo hi : Nat) : Bool := hop.any (fun c => inR lo hi (ch0 + c * sp))
  let top : Int := if t = 1 then 80 else if on 860000 930000 then 108 else if on 410000 510000 then 96 else 56
  inRi (-80) top m.stoked && inRi (-80) top m.keep

/-- BAND_A or BAND_B (R97, R165, R167; SPACING of timeline A in the 12 bits of RFA_BAND, log 94). -/
def State.readBand (s : State) (t : Nat) (x : Sect) : Option Band :=
  let n := s.ld (x.addr + 9) 1
  let b := x.addr + 10 + n
  let m := s.ld b 1
  let e := b + 1 + 8 * m
  let hop := (List.range n).map (fun i => s.ld (x.addr + 10 + i) 1)
  let ch0 := s.ld x.addr 4
  let sp := s.ld (x.addr + 4) 2
  if x.len ≠ 15 + n + 8 * m then none
  else match allSome ((List.range m).map (fun i => s.readMode t (b + 1 + 8 * i))) with
    | none => none
    | some ms =>
      let r : Band := ⟨ch0, sp, s.ld (x.addr + 6) 2, s.ld (x.addr + 8) 1 % 2 == 1, hop, ms, s.ld e 1, s.ld (e + 1) 1, s.ld (e + 2) 2⟩
      guardOpt (inR 1 16 m && ms.all (powerOk t ch0 sp hop) && decide (r.beaconMode < m) && decide (r.pollMode < m) && inR 60 3600 r.calPer &&
        (if t = 0 then inR 1 255 n && inR 1 4095 sp && hop.all (fun c => decide (c ≤ 254) && inR 410000 960000 (ch0 + c * sp))
         else inR 1 16 n && hop.all (inR 11 26) && ch0 == 0 && sp == 0)) r

/-- FBL_A or FBL_B (Table 6-1). -/
def State.readFbl (s : State) (t : Nat) (b : Band) (x : Sect) : Option FblCfg :=
  let a := x.addr
  let det := if t = 0 then ((List.range 4).map (fun i => s.ld (a + 12 + i) 1)).filter (fun d => d != 0xFF) else []
  let out := if t = 0 then some ((List.range 140).map (fun i => (s.ld (a + 16 + i / 8) 1) / 2 ^ (i % 8) % 2 == 1)) else none
  let r : FblCfg := ⟨s.ld a 1 == 1, s.ld (a + 1) 1, s.ld (a + 2) 1, s.ld (a + 4) 2,
    if t = 0 then 10 * s.ld (a + 6) 4 else 2442500, if t = 0 then s.ld (a + 10) 2 else 840, det, out⟩
  guardOpt (x.len == (if t = 0 then 34 else 6) && decide (s.ld a 1 ≤ 1) && decide (r.margin ≤ 12) &&
    (r.muteRun == 0 || inR 4 64 r.muteRun) && inR 10 1000 r.muteTime &&
    (t == 1 || (inR 410000 960000 r.winCtr && inR 20 280 r.winW && decide (1 ≤ det.length) &&
      det.all (fun d => decide (d < b.modes.length))))) r

/-- T_shr − t_det of a detection class is at most 1,900 µs (R200, Table 6-4). -/
def detFits (m : ModeEntry) : Bool :=
  m.code == 0x80 || isOfdm m.code || decide (m.shrNum ≤ 1900 * m.rate + (if isFsk4 m.code then 48000 else 24000))

/-- The rules of full-band listening that an image must meet on a timeline (R195, R196): with FBL_EN 0 it configures no open polls or gathering
in LINK; with FBL_EN_A 1 the four conditions of R198 and those of R200 on the detection classes hold. -/
def fblRules (t : Nat) (b : Band) (f : FblCfg) (k : LinkCfg) : Bool :=
  if f.en then t == 1 ||
    ([200, 400, 600, 800, 1200].contains b.spacing &&
      decide (410000 + 50 * f.winW ≤ f.winCtr) && decide (f.winCtr + 50 * f.winW ≤ 960000) &&
      (List.range 255).all (fun j => decide (b.spacing ≤ 4 * ((f.winCtr : Int) - (b.ch0 + j * b.spacing : Nat)).natAbs)) &&
      b.modes.all (fun m => (phyInfo m.code).all (fun p => decide (p.2 ≤ b.spacing))) &&
      f.det.all (fun d => detFits (nth b.modes d ModeEntry.empty)) && f.det.contains b.beaconMode && f.det.contains b.pollMode)
  else !k.openPoll && !k.gather

/-- RADIO of a timeline; TsCcaOffset − LBT_RAND is at least 200 µs (R188). -/
def State.readRadio (s : State) (t : Nat) (tp : Tmpl) (l : List Sect) : Option RadioCfg := match s.sectTl l 0x16 t with
  | none => guardOpt (decide (200 ≤ tp.ccaOff)) (RadioCfg.default t)
  | some x =>
    let a := x.addr
    let r : RadioCfg := ⟨s.ld (a + 1) 1, s.ldS (a + 2), s.ldS (a + 3), s.ld (a + 4) 2, s.ldS (a + 6), s.ld (a + 7) 2⟩
    guardOpt (x.len == 9 && decide (r.ccaMode ≤ 3) && decide (r.lbtRand ≤ 5000) && decide (r.lbtRand + 200 ≤ tp.ccaOff)) r

/-- LINK of a timeline. -/
def State.readLink (s : State) (t : Nat) (tp : Tmpl) (l : List Sect) : Option LinkCfg := match s.sectTl l 0x22 t with
  | none => some (LinkCfg.default tp.len)
  | some x =>
    let a := x.addr
    let k (i : Nat) : Option Nat := if s.ld (a + i) 1 = 0xFF then none else some (s.ld (a + i) 1)
    let r : LinkCfg := ⟨s.ld (a + 1) 2, k 3, s.ld (a + 4) 1, s.ld (a + 5) 1 / 2 % 2 == 1, s.ld (a + 5) 1 % 2 == 1, k 6,
      s.ld (a + 7) 1, s.ld (a + 8) 2, s.ld (a + 10) 4, s.ld (a + 14) 1, s.ld (a + 15) 1⟩
    guardOpt (x.len == 16 && inR 1 600 r.period && (r.bcnKey.all (fun v => decide (v < 8))) && (r.gatherKey.all (fun v => decide (v < 8))) &&
      decide (r.bcnLevel < 8) && r.bcnLevel != 4 && decide (r.exclThr ≤ 100) && decide (r.exclLead ≤ 4194304) &&
      decide (r.minBe ≤ r.maxBe)) r

/-- SCHEDULE of a timeline: slotframe lengths and cells, each under R113's conditions. -/
def State.readSched (s : State) (t : Nat) (b : Band) (l : List Sect) : Option (List Nat × List (Nat × Nat)) :=
  match s.sectTl l 0x20 t with
  | none => some (List.replicate 8 0, [])
  | some x =>
    let a := x.addr
    let c := s.ld (a + 18) 2
    let sfs := (List.range 8).map (fun i => s.ld (a + 2 + 2 * i) 2)
    let cells := (List.range c).map (fun i => (s.ld (a + 20 + 10 * i) 2, s.ld (a + 22 + 10 * i) 8))
    guardOpt (x.len == 20 + 10 * c && decide (c ≤ 4096) &&
      cells.all (fun p => decide (p.1 < 4096) && cTl p.2 == t && !(cV p.2 && (cellBad b.modes p.2 || spanBad sfs p.2)))) (sfs, cells)

/-- A timeline's sections; `none` inside where the timeline is not present. -/
def State.readTl (s : State) (t : Nat) (l : List Sect) : Option (Option TlCfg) := match sect l (0x10 + t) with
  | none => guardOpt ((sect l (0x12 + t)).isNone && (sect l (0x14 + t)).isNone && (s.sectTl l 0x16 t).isNone &&
      (s.sectTl l 0x20 t).isNone && (s.sectTl l 0x22 t).isNone) none
  | some x => match s.readTmpl t x, (sect l (0x12 + t)).bind (s.readBand t) with
    | some tp, some b =>
      let f := match sect l (0x14 + t) with
        | some y => s.readFbl t b y
        | none => some FblCfg.default
      match f, s.readRadio t tp l, s.readLink t tp l, s.readSched t b l with
      | some f, some r, some k, some sc => guardOpt (fblRules t b f k) (some ⟨tp, b, f, r, k, sc.1, sc.2⟩)
      | _, _, _, _ => none
    | _, _ => none

/-- LEDGER (R130). -/
def State.readLedger (s : State) (l : List Sect) : Option (List SubBand) := match sect l 0x17 with
  | none => some []
  | some x =>
    let c := s.ld x.addr 1
    let b := (List.range c).map (fun i =>
      let a := x.addr + 1 + 16 * i
      (⟨s.ld a 4, s.ld (a + 4) 4, s.ld (a + 8) 1 == 1, s.ld (a + 9) 4, s.ld (a + 13) 2⟩ : SubBand))
    guardOpt (decide (c ≤ 8) && x.len == 1 + 16 * c && (List.range c).all (fun i => decide (s.ld (x.addr + 9 + 16 * i) 1 ≤ 1)) &&
      b.all (fun y => decide (y.lo ≤ y.hi) && decide (y.limit ≤ 3600000) && decide (y.reserve ≤ 10000))) b

/-- The ADDRESSES records, in order. -/
def State.readAddrs (s : State) (l : List Sect) : List AddrRec :=
  (l.filter (fun x => x.ty == 0x41)).flatMap (fun x => (List.range (x.len / 12)).map (fun i =>
    let a := x.addr + 12 * i
    ⟨s.ld a 1, s.ld (a + 1) 1, s.ld (a + 2) 8, s.ld (a + 10) 2⟩))

/-- The EXPECT records. -/
def State.readExpect (s : State) (l : List Sect) : List (Nat × List Nat) :=
  (l.filter (fun x => x.ty == 0x21)).map (fun x =>
    (s.ld x.addr 2, (List.range (s.ld (x.addr + 2) 1)).map (fun i => s.ld (x.addr + 3 + 8 * i) 8)))

/-- The types of Table 12-12 with how often each may appear (the timeline sections at most twice). -/
def sectTypes : List (Nat × Nat) :=
  [(0x01, 1), (0x10, 1), (0x11, 1), (0x12, 1), (0x13, 1), (0x14, 1), (0x15, 1), (0x16, 2), (0x17, 1), (0x20, 2), (0x21, 4096), (0x22, 2),
   (0x30, 1), (0x31, 1), (0x40, 1), (0x41, 1024), (0x50, 1), (0x51, 1), (0x60, 1), (0x61, 1), (0x70, 1)]

/-- The counts and types of R387: no unlisted type below 0x8000, none too often, required ones present, no B section on a DNL-7210, and
each timeline section of its kind at most once. -/
def State.sectsOk (s : State) (l : List Sect) : Bool :=
  l.all (fun x => decide (0x8000 ≤ x.ty) || (sectTypes.any (fun p => p.1 == x.ty && decide (sectCount l x.ty ≤ p.2)))) &&
  [0x01, 0x10, 0x12, 0x30, 0x31, 0x40, 0x60].all (fun ty => sectCount l ty == 1) &&
  (s.hasB || ([0x11, 0x13, 0x15].all (fun ty => sectCount l ty == 0) &&
    [0x16, 0x20, 0x22].all (fun ty => l.all (fun x => x.ty != ty || s.ld x.addr 1 == 0)))) &&
  [0x16, 0x20, 0x22].all (fun ty => l.all (fun x => x.ty != ty || (decide (s.ld x.addr 1 ≤ 1) &&
    (l.filter (fun y => y.ty == ty && s.ld y.addr 1 == s.ld x.addr 1)).length == 1)))

/-- The producer events of Table 8-3. -/
def eventListed (e : Nat) : Bool :=
  (decide (0x01 ≤ e) && decide (e ≤ 0x44)) || e == 0x48 || e == 0x49 || (decide (0x50 ≤ e) && decide (e ≤ 0x52)) || e == 0x58 || e == 0x59 ||
    (decide (0x60 ≤ e) && decide (e ≤ 0x6B)) || e == 0x70 || e == 0x71 || (decide (0x78 ≤ e) && decide (e ≤ 0x89)) ||
    (decide (0x90 ≤ e) && decide (e ≤ 0x92)) || (decide (0x98 ≤ e) && decide (e ≤ 0xA0))

/-- The lengths and ranges of the sections that name no timeline; a queue or an address bound to timeline B on a DNL-7210 is refused (R2), and a
flue preset whose EVENT Table 8-3 does not list (R279). -/
def State.fieldsOk (s : State) (l : List Sect) : Bool :=
  l.all (fun x =>
    let a := x.addr
    if x.ty = 0x01 then x.len == 17 && decide (s.ld (a + 4) 1 ≤ 1) && (s.ld (a + 5) 1 == 2 || s.ld (a + 5) 1 == 4) &&
      decide (s.ld (a + 6) 1 ≤ 32) && inR 5 600 (s.ld (a + 7) 2) && decide (s.ld (a + 11) 1 ≤ 1) && inRi (-20) 20 (s.ldS (a + 12)) &&
      [13, 40, 0xFF].contains (s.ld (a + 15) 1)
    else if x.ty = 0x21 then inR 1 16 (s.ld (a + 2) 1) && x.len == 3 + 8 * s.ld (a + 2) 1 && decide (s.ld a 2 < 4096)
    else if x.ty = 0x30 then x.len == 128 && (List.range 32).all (fun q => ((s.ld (a + 4 * q) 4) / 16 % 2 == 0 || decide (q < 16)) &&
      (s.hasB || (s.ld (a + 4 * q) 4) / 0x10000 % 2 == 0))
    else if x.ty = 0x31 then x.len == 76 && (List.range 12).all (fun i => s.ld (a + i) 1 == 0xFF || inR 16 31 (s.ld (a + i) 1)) &&
      (List.range 8).all (fun i => decide (s.ld (a + 14 + 8 * i) 1 ≤ 3))
    else if x.ty = 0x40 then x.len == 12 && decide (s.ld a 1 ≤ 2) && inRi (-120) (-40) (s.ldS (a + 1)) && inRi (-120) (-40) (s.ldS (a + 2)) &&
      inR 1 64 (s.ld (a + 3) 1) && inR 10 1440 (s.ld (a + 4) 2) && decide (s.ld (a + 6) 1 ≤ 1) && decide (s.ld (a + 7) 1 ≤ 1) &&
      inR 10 10080 (s.ld (a + 8) 2)
    else if x.ty = 0x41 then x.len % 12 == 0 && (List.range (x.len / 12)).all (fun i => decide (s.ld (a + 12 * i) 1 ≤ 2) && decide (s.ld (a + 12 * i + 1) 1 ≤ (if s.hasB then 1 else 0)))
    else if x.ty = 0x50 then decide (s.ld a 1 ≤ 16) && x.len == 4 + 68 * s.ld a 1 &&
      (List.range (s.ld a 1)).all (fun i => (decide (s.ld (a + 4 + 68 * i) 1 ≤ 7) || s.ld (a + 4 + 68 * i) 1 == 0x30 || s.ld (a + 4 + 68 * i) 1 == 0x40) &&
        decide (s.ld (a + 5 + 68 * i) 1 ≤ 1))
    else if x.ty = 0x51 then x.len == 12 && (List.range 4).all (fun i => decide (s.ld (a + i) 1 ≤ 7)) &&
      (List.range 8).all (fun i => decide (s.ld (a + 4 + i) 1 ≤ 7) || s.ld (a + 4 + i) 1 == 0xFF)
    else if x.ty = 0x60 then x.len == 4
    else if x.ty = 0x61 then decide (s.ld a 1 ≤ 48) && x.len == 4 + 8 * s.ld a 1 && (List.range (s.ld a 1)).all (fun i => decide (s.ld (a + 4 + 8 * i) 1 ≤ 47) && eventListed (s.ld (a + 5 + 8 * i) 1))
    else if x.ty = 0x70 then x.len == 20 && decide (s.ld a 2 ≤ 1440) && inR 2400 5000 (s.ld (a + 2) 2) && inR 1 1440 (s.ld (a + 4) 2) &&
      decide (s.ld (a + 6) 1 ≤ 1) && inR 0xF0 0xFF (s.ld (a + 7) 1) && s.ld (a + 8) 4 % 256 == 0 && inR 0x20100000 0x2016FF00 (s.ld (a + 8) 4) &&
      inR 1 600 (s.ld (a + 12) 2) && inR 1 600 (s.ld (a + 14) 2) && inR 60 2592000 (s.ld (a + 16) 4)
    else true) &&
  decide ((s.readAddrs l).length ≤ 1024)

/-- The base of a configuration copy: block 10 or 11. -/
def cfgBase (copy : Nat) : Nat := blockAddr (10 + copy)

/-- Build the configuration from its sections. -/
def State.buildCfg (s : State) (copy : Nat) (l : List Sect) (ta tb : Option TlCfg) (led : List SubBand) : HCfg :=
  let h := cfgBase copy
  let a (ty : Nat) : Nat := ((sect l ty).map Sect.addr).getD 0
  let n := a 0x01
  let q := a 0x30
  let c := a 0x31
  let d := a 0x40
  { copy := copy, seq := s.ld (h + 4) 4, version := s.ld (h + 12) 4, bodyLen := s.ld (h + 8) 4,
    pan := s.ld n 2, short := s.ld (n + 2) 2, root := s.ld (n + 4) 1 == 1, fcs := s.ld (n + 5) 1, rxReserve := s.ld (n + 6) 1,
    vinDeb := s.ld (n + 7) 2, thetaJa := s.ld (n + 9) 2, compEn := s.ld (n + 11) 1 == 1, rssiOff := s.ldS (n + 12), k := s.ld (n + 13) 2,
    hpsel := s.ld (n + 15) 1, tls := [ta, tb], ledger := led, expect := s.readExpect l,
    queues := (List.range 32).map (fun i => s.ld (q + 4 * i) 4),
    rxq := (List.range 12).map (fun i => s.ld (c + i) 1),
    rules := (List.range 8).map (fun i => let r := c + 12 + 8 * i; ⟨s.ld r 1, s.ld (r + 1) 1, s.ld (r + 2) 1, s.ld (r + 4) 2, s.ld (r + 6) 2⟩),
    admMode := s.ld d 1, rssiA := s.ldS (d + 1), rssiB := s.ldS (d + 2), admRate := s.ld (d + 3) 1, nbrAge := s.ld (d + 4) 2,
    childAuto := s.ld (d + 6) 1 == 1, dupMode := s.ld (d + 7) 1 == 1, childTimeout := s.ld (d + 8) 2, addrs := s.readAddrs l,
    keys := match sect l 0x50 with
      | some x => (List.range (s.ld x.addr 1)).map (fun i => ⟨s.ld (x.addr + 4 + 68 * i) 1, s.ld (x.addr + 5 + 68 * i) 1⟩)
      | none => [],
    minLevel := match sect l 0x51 with
      | some x => (List.range 4).map (fun i => s.ld (x.addr + i) 1)
      | none => [0, 0, 0, 0],
    implicitKeys := match sect l 0x51 with
      | some x => (List.range 8).map (fun i => s.ld (x.addr + 4 + i) 1)
      | none => List.replicate 8 0xFF,
    lampSafe := w32 (s.ld (a 0x60) 4),
    flue := match sect l 0x61 with
      | some x => (List.range (s.ld x.addr 1)).map (fun i => let r := x.addr + 4 + 8 * i
          ⟨s.ld r 1, s.ld (r + 1) 1, (List.range 4).map (fun j => s.ld (r + 2 + j) 1), s.ld (r + 6) 1 / 2 % 2 == 1, s.ld (r + 6) 1 % 2 == 1⟩)
      | none => [],
    upd := match sect l 0x70 with
      | some x => let r := x.addr
          ⟨s.ld r 2, s.ld (r + 2) 2, s.ld (r + 4) 2, s.ld (r + 6) 1 == 1, s.ld (r + 7) 1, s.ld (r + 8) 4, s.ld (r + 12) 2, s.ld (r + 14) 2, s.ld (r + 16) 4⟩
      | none => HCfg.empty.upd }

/-- The sections of a copy's body. -/
def State.cfgSects (s : State) (copy : Nat) : Option (List Sect) :=
  let h := cfgBase copy
  let n := s.ld (h + 8) 4
  s.sects (h + 0x100) (h + 0x100 + n) (n / 4 + 1)

/-- The configuration a copy's body holds, or none where R387 refuses it. -/
def State.parseCfg (s : State) (copy : Nat) : Option HCfg := match s.cfgSects copy with
  | none => none
  | some l =>
    if s.sectsOk l && s.fieldsOk l then
      match s.readTl 0 l, s.readTl 1 l, s.readLedger l with
      | some ta, some tb, some led => some (s.buildCfg copy l ta tb led)
      | _, _, _ => none
    else none

/-- The header mark of a copy is correct (R377). -/
def State.cfgMark (s : State) (copy : Nat) : Bool := s.ld (cfgBase copy) 4 == 0x4B460001

/-- The keyed check value of a copy: VERIFY under K_CFG of the header's first 16 octets and the digest of the body (R250, R378), against
page 255. -/
def State.cfgKeyed (s : State) (copy : Nat) : Bool :=
  let h := cfgBase copy
  let n := s.ld (h + 8) 4
  s.cfgMark copy && decide (n ≤ 0xFE00) && !(s.blk (10 + copy)).suspect &&
  decide (s.checkValue 0 ownHearth (s.bytes h 16 ++ sha256 (s.bytes (h + 0x100) n)) = s.bytes (h + 0xFF00) 16)

/-- A copy passes step 3 of Table 2-3: its check value and its contents (R54, R387). -/
def State.cfgPasses (s : State) (copy : Nat) : Option HCfg := if s.cfgKeyed copy then s.parseCfg copy else none

/-- The address of the root-wrapped blob of KEYS record `i` (R388). -/
def cfgBlob (c : HCfg) (i : Nat) : Nat := cfgBase c.copy + 0x100 * (1 + (c.bodyLen + 255) / 256 + i / 4) + 64 * (i % 4)

end Sys2Proof.Machine
end

