-- ==== Sys2Proof/Machine/HearthBase.lean ====
section
/-! DEFINITION. Hearth's tables and counters: neighbour, child and cell entries, descriptors and buffers in link RAM (Tables 2-2 to
2-12, 3-2, 4-1, 4-8), the counters section, and the completion of descriptors. -/

namespace Sys2Proof.Machine

/-! ## Fields of words in memory -/

/-- Read a field of a word in memory. -/
def State.mg (s : State) (f : Fld) : Nat := wField (s.lw f.addr) f.hi f.lo

/-- Set a field of a word in memory. -/
def State.mp (s : State) (f : Fld) (v : Nat) : State := s.sw f.addr (wSetField (s.lw f.addr) f.hi f.lo v)

/-- A field of a word in memory is not zero. -/
def State.mb (s : State) (f : Fld) : Bool := s.mg f != 0

/-- A signed field of a word in memory. -/
def State.mi (s : State) (f : Fld) : Int := signed (f.hi + 1 - f.lo) (s.mg f)

/-- Count a field of a word in memory up, saturating. -/
def State.msat (s : State) (f : Fld) : State := s.mp f (min (s.mg f + 1) (2 ^ (f.hi + 1 - f.lo) - 1))

/-- Neighbour entry `n` (R134). -/
abbrev nbrAddr (n : Nat) : Nat := 0x30040000 + 48 * n
/-- Child entry `c` (R155). -/
abbrev childAddr (c : Nat) : Nat := 0x3004C000 + 32 * c
/-- Cell-table entry `i`. -/
abbrev cellAddr (i : Nat) : Nat := 0x30050000 + 8 * i
/-- Frame buffer `b`: its metadata area; the frame area lies 64 octets above (R53). -/
abbrev bufAddr (b : Nat) : Nat := 0x30058000 + 0x840 * b
/-- The andiron pair's 4 KB scratch RAM, which is on no bus and no part of link RAM (chapter 2, Units): the model keeps its octets at these
addresses, which no region of the map covers (log 80, DESIGN CHOICE). -/
abbrev scratchBase : Nat := 0xF0000000
/-- The number of Hearth's own queue of forwarded Pilot frames (R383). -/
abbrev fwdQ : Nat := 32
/-- Descriptor `i` of queue `q` (R53); those of forwarded Pilot frames are the pair's working variables, in its scratch RAM. -/
abbrev descAddr (q i : Nat) : Nat := if q = 32 then 0xF0000000 + 8 * i else 0x30079000 + 0x200 * q + 8 * i

/-! ## Neighbour entries (Table 4-1) -/

namespace N
abbrev VER (n : Nat) : Fld := ⟨nbrAddr n, 31, 24⟩
abbrev V (n : Nat) : Fld := ⟨nbrAddr n, 23, 23⟩
abbrev TL (n : Nat) : Fld := ⟨nbrAddr n, 22, 22⟩
abbrev TS (n : Nat) : Fld := ⟨nbrAddr n, 21, 21⟩
abbrev LS (n : Nat) : Fld := ⟨nbrAddr n, 20, 20⟩
abbrev CHILD (n : Nat) : Fld := ⟨nbrAddr n, 19, 19⟩
abbrev STK (n : Nat) : Fld := ⟨nbrAddr n, 18, 18⟩
abbrev OPENP (n : Nat) : Fld := ⟨nbrAddr n, 17, 17⟩
abbrev GATH (n : Nat) : Fld := ⟨nbrAddr n, 16, 16⟩
abbrev SHV (n : Nat) : Fld := ⟨nbrAddr n, 15, 15⟩
abbrev SEQV (n : Nat) : Fld := ⟨nbrAddr n, 14, 14⟩
abbrev LKV (n : Nat) : Fld := ⟨nbrAddr n, 13, 13⟩
abbrev GKV (n : Nat) : Fld := ⟨nbrAddr n, 12, 12⟩
abbrev NEXT (n : Nat) : Fld := ⟨nbrAddr n, 11, 11⟩
abbrev MISS (n : Nat) : Fld := ⟨nbrAddr n, 10, 9⟩
abbrev ADM (n : Nat) : Fld := ⟨nbrAddr n, 8, 7⟩
abbrev LKEY (n : Nat) : Fld := ⟨nbrAddr n, 6, 4⟩
abbrev STH (n : Nat) : Fld := ⟨nbrAddr n, 3, 2⟩
abbrev DCNT (n : Nat) : Fld := ⟨nbrAddr n, 1, 0⟩
abbrev SHORT (n : Nat) : Fld := ⟨nbrAddr n + 0x0C, 31, 16⟩
abbrev SEQ (n : Nat) : Fld := ⟨nbrAddr n + 0x0C, 15, 8⟩
abbrev RSSI (n : Nat) : Fld := ⟨nbrAddr n + 0x0C, 7, 0⟩
abbrev LCTR (n : Nat) : Fld := ⟨nbrAddr n + 0x10, 31, 0⟩
abbrev GCTR (n : Nat) : Fld := ⟨nbrAddr n + 0x14, 31, 0⟩
abbrev JM (n : Nat) : Fld := ⟨nbrAddr n + 0x18, 31, 24⟩
abbrev EXVER (n : Nat) : Fld := ⟨nbrAddr n + 0x18, 23, 16⟩
abbrev NXVER (n : Nat) : Fld := ⟨nbrAddr n + 0x18, 15, 8⟩
abbrev DADD (n : Nat) : Fld := ⟨nbrAddr n + 0x18, 7, 6⟩
abbrev SD (n : Nat) : Fld := ⟨nbrAddr n + 0x18, 5, 0⟩
abbrev EFF (n : Nat) : Fld := ⟨nbrAddr n + 0x24, 31, 8⟩
abbrev D0 (n : Nat) : Fld := ⟨nbrAddr n + 0x24, 7, 0⟩
abbrev D1 (n : Nat) : Fld := ⟨nbrAddr n + 0x28, 31, 24⟩
abbrev THETA (n : Nat) : Fld := ⟨nbrAddr n + 0x28, 23, 12⟩
abbrev DXO (n : Nat) : Fld := ⟨nbrAddr n + 0x28, 11, 0⟩
abbrev TOBS (n : Nat) : Fld := ⟨nbrAddr n + 0x2C, 31, 16⟩
abbrev DEMB (n : Nat) : Fld := ⟨nbrAddr n + 0x2C, 15, 4⟩
abbrev PREF (n : Nat) : Fld := ⟨nbrAddr n + 0x2C, 3, 3⟩
end N

/-- Admission states (Table 4-2). -/
abbrev admLearned : Nat := 0
/-- ADDED. -/
abbrev admAdded : Nat := 1
/-- PINNED. -/
abbrev admPinned : Nat := 2
/-- BLOCKED. -/
abbrev admBlocked : Nat := 3

/-- One completed write of an entry: the fields change and VER rises by 2 (R161). -/
def State.nbrWrite (s : State) (n : Nat) (f : State → State) : State :=
  let s := f s
  s.mp (N.VER n) (s.mg (N.VER n) + 2)

/-- The extended address of an entry. -/
def State.nbrExt (s : State) (n : Nat) : Nat := s.ld (nbrAddr n + 4) 8

/-- The timeline of an entry. -/
def State.nbrTl (s : State) (n : Nat) : Tl := Tl.ofBit (s.mg (N.TL n))

/-- The entries in use. -/
def State.nbrs (s : State) : List Nat := (List.range 1024).filter (fun n => s.mb (N.V n))

/-- The entries in use of a timeline. -/
def State.nbrsOf (s : State) (t : Tl) : List Nat := s.nbrs.filter (fun n => s.mg (N.TL n) == t.bit)

/-- The channels of an entry's exclusion list in force. -/
def State.nbrExcl (s : State) (n : Nat) : List Nat :=
  ((List.range 8).map (fun i => s.ld (nbrAddr n + 0x1C + i) 1)).filter (fun c => c != 0xFF)

/-- Eight octets of an exclusion list, the unused ones 0xFF. -/
def exclOctets (l : List Nat) : Nat :=
  ofLe (((l.take 8) ++ List.replicate (8 - l.length) 0xFF).map (BitVec.ofNat 8))

/-- Set an entry's exclusion list in force. -/
def State.nbrSetExcl (s : State) (n : Nat) (l : List Nat) : State := s.st (nbrAddr n + 0x1C) 8 (exclOctets l)

/-! ## Child entries (Table 4-8) -/

namespace C
abbrev VER (c : Nat) : Fld := ⟨childAddr c, 31, 24⟩
abbrev V (c : Nat) : Fld := ⟨childAddr c, 23, 23⟩
abbrev OPENP (c : Nat) : Fld := ⟨childAddr c, 22, 22⟩
abbrev NBR (c : Nat) : Fld := ⟨childAddr c, 21, 12⟩
abbrev PEND (c : Nat) : Fld := ⟨childAddr c, 10, 0⟩
abbrev LASTPOLL (c : Nat) : Fld := ⟨childAddr c + 4, 31, 0⟩
abbrev POLLS (c : Nat) : Fld := ⟨childAddr c + 8, 31, 16⟩
abbrev PENDACK (c : Nat) : Fld := ⟨childAddr c + 8, 15, 0⟩
abbrev DELIV (c : Nat) : Fld := ⟨childAddr c + 0xC, 31, 16⟩
abbrev DECL (c : Nat) : Fld := ⟨childAddr c + 0xC, 15, 0⟩
abbrev TIMEOUT (c : Nat) : Fld := ⟨childAddr c + 0x10, 31, 0⟩
end C

/-- One completed write of a child entry (R161). -/
def State.childWrite (s : State) (c : Nat) (f : State → State) : State :=
  let s := f s
  s.mp (C.VER c) (s.mg (C.VER c) + 2)

/-- The child entry that a neighbour entry is linked to (R155). -/
def State.childOf (s : State) (n : Nat) : Option Nat := alGet s.hrt.kids n

/-- The pending bit of an acknowledgement to a neighbour (R156). -/
def State.pendBit (s : State) (n : Nat) : Bool := match s.childOf n with
  | some c => s.mb (C.PEND c)
  | none => false

/-! ## Cells -/

/-- The entry of the schedule at a cell-table index: what a commit has still to write counts as written (R114). -/
def State.cell (s : State) (i : Nat) : Nat := (alGet s.hrt.rewrite i).getD (s.ld (cellAddr i) 8)

/-- Hearth writes the next `n` entries of a commit; with the last one HRT_SCH_VER is even again (R114). -/
def State.rewriteGo (s : State) (n : Nat) : State :=
  let l := s.hrt.rewrite
  if l.isEmpty then s
  else
    let s := (s.forEach (l.take n) (fun s p => s.st (cellAddr p.1) 8 p.2)).mHrt (fun h => { h with rewrite := l.drop n })
    if l.length ≤ n then s.wr R.HRT_SCH_VER (s.rd R.HRT_SCH_VER + 1) else s

/-- Hearth has written every entry of a commit. -/
def State.rewriteEnd (s : State) : State := s.rewriteGo s.hrt.rewrite.length

/-- A commit's entries are to be written, in the order of the list (log 81, DESIGN CHOICE): HRT_SCH_VER is odd until the last one is. -/
def State.rewriteBegin (s : State) (l : List (Nat × Nat)) : State :=
  let s := s.rewriteEnd
  (s.mHrt (fun h => { h with rewrite := l })).wr R.HRT_SCH_VER (s.rd R.HRT_SCH_VER + (if l.isEmpty then 2 else 1))

/-- The valid cells of a timeline, by index. -/
def State.cellsOf (s : State) (t : Tl) : List (Nat × Nat) :=
  ((List.range 4096).map (fun i => (i, s.cell i))).filter (fun p => cV p.2 && cTl p.2 == t.bit)

/-- The active length of a slotframe. -/
def State.sfLen (s : State) (t : Tl) (k : Nat) : Nat := match t with
  | .a => s.fg (F.HRT_SF_As_LEN k)
  | .b => s.fg (F.HRT_SF_Bs_LEN k)

/-- The slotframe lengths of a timeline. -/
def State.sfLens (s : State) (t : Tl) : List Nat := (List.range 8).map (s.sfLen t)

/-- A valid cell with BC = 0 names the entry. -/
def State.cellNames (s : State) (n : Nat) : Bool :=
  (s.cellsOf (s.nbrTl n)).any (fun p => !cBc p.2 && cNbr p.2 == n)

/-! ## Hearth's own parts -/

/-- A timeline's part. -/
def State.tlx (s : State) (t : Tl) : TlSt := nth s.hrt.tls t.bit TlSt.init

/-- Change a timeline's part. -/
def State.mTl (s : State) (t : Tl) (f : TlSt → TlSt) : State := s.mHrt (fun h => { h with tls := modAt h.tls t.bit f })

/-- A radio's part. -/
def State.rad (s : State) (t : Tl) : RadioSt := nth s.hrt.radios t.bit RadioSt.init

/-- Change a radio's part. -/
def State.mRad (s : State) (t : Tl) (f : RadioSt → RadioSt) : State := s.mHrt (fun h => { h with radios := modAt h.radios t.bit f })

/-- The pair is halted or recovering: its work waits (Table 2-1). -/
def State.recovering (s : State) : Bool := s.fg F.HRT_STAT_STATE == hRecovering

/-- The timeline's profile is stoked. -/
def State.stoked (s : State) : Tl → Bool
  | .a => s.fb F.HRT_PROF_A
  | .b => s.fb F.HRT_PROF_B

/-- A timeline is JOINING: Hearth runs and it is not synchronised. -/
def State.joining (s : State) (t : Tl) : Bool :=
  !([hOff, hLoading, hRestarting, hNoConfig].contains (s.fg F.HRT_STAT_STATE)) && s.tlThere t && !s.sync t

/-! ## Counters section (Table 2-15) -/

/-- Add to a counter of the counters section, modulo 2^32 (R77). -/
def State.cntAdd (s : State) (off n : Nat) : State :=
  s.mHrt (fun h => { h with counters := Sparse.put (fun _ => 0) h.counters off (Sparse.get (fun _ => 0) h.counters off + w32 n) })

/-- Count one. -/
def State.cnt (s : State) (off : Nat) : State := s.cntAdd off 1

/-- Per radio counters: Radio B's lies 4 above Radio A's. -/
def State.cntR (s : State) (off : Nat) (t : Tl) : State := s.cnt (off + 4 * t.bit)

/-- The channel output's counters: Radio A output c at 0x400 + 8c, Radio B's at 0x880 + 8c. -/
def outCnt (t : Tl) (c : Nat) : Nat := match t with
  | .a => 0x400 + 8 * c
  | .b => 0x880 + 8 * c

/-! ## The host port's notifications -/

/-- User option word `n` in use (Table 10-7). -/
def State.opt (s : State) (n : Nat) : Word := s.rd (R.KND_OPTn (8 + n))

/-- OPT_VENDOR_OUI in use (R313, R495). -/
def State.oui (s : State) : Nat := (s.rd (R.KND_OPTn 0)).toNat % 0x1000000

/-- The OPTFAIL state (R315). -/
def State.optFail (s : State) : Bool := s.fb F.KND_STAT_OPTFAIL

/-- The host port exists, is released and is not asleep (R411). -/
def State.hostOn (s : State) : Bool := wBit (s.opt 0) 3 && decide (s.pwr.state = .run)

/-- A notification to the host (R409, R417). -/
def State.hostNote (s : State) (code : Nat) (body : List Byte) : State :=
  if s.hostOn && (code == 5 || s.fb F.HST_STAT_READY) then
    let n := s.fg F.HST_STAT_NSEQ
    let s := s.mHst (fun h => { h with port := { h.port with out := h.port.out ++ [⟨true, n, code, body⟩] } })
    s.fp F.HST_STAT_NSEQ ((n + 1) % 256)
  else s

/-! ## Buffers (R70-R74) -/

/-- A buffer's holder: an identity, 0 Hearth, 7 FREE. -/
def State.holder (s : State) (b : Nat) : Nat := nth s.hrt.bufHolder b ownNone

/-- FREE pool buffers. -/
def State.freeBufs (s : State) : List Nat := (List.range 64).filter (fun b => s.holder b == ownNone)

/-- A buffer changes its holder; HRT_BUF_FREE shows how many are FREE. -/
def State.setHolder (s : State) (b o : Nat) : State :=
  let s := s.mHrt (fun h => { h with bufHolder := h.bufHolder.set b o })
  s.fp F.HRT_BUF_FREE_FREE s.freeBufs.length

/-- The queue-owning initiator's allocation: some FREE buffer above the reserve (R71). -/
def State.bufAlloc (s : State) (own : Nat) : Option Nat × State :=
  let owns := own != ownNone && (List.range 32).any (fun q => s.fg (F.HRT_Qn_CFG_OWNER q) == own)
  if owns = false then (none, s)
  else if s.freeBufs.length ≤ s.fg F.HRT_BUF_FREE_RX_RESERVE then (none, s.cnt 0x098)
  else match s.freeBufs with
    | b :: _ => (some b, s.setHolder b own)
    | [] => (none, s.cnt 0x098)

/-! ## Descriptors (Tables 2-7 to 2-11) -/

namespace D
abbrev ST (q i : Nat) : Fld := ⟨descAddr q i, 31, 30⟩
abbrev BUF (q i : Nat) : Fld := ⟨descAddr q i, 29, 24⟩
abbrev CODE (q i : Nat) : Fld := ⟨descAddr q i, 23, 16⟩
abbrev SEC (q i : Nat) : Fld := ⟨descAddr q i, 15, 15⟩
abbrev PRIO (q i : Nat) : Fld := ⟨descAddr q i, 14, 14⟩
abbrev EARLY (q i : Nat) : Fld := ⟨descAddr q i, 14, 14⟩
abbrev VERDICT (q i : Nat) : Fld := ⟨descAddr q i, 13, 13⟩
abbrev LEN (q i : Nat) : Fld := ⟨descAddr q i, 10, 0⟩
abbrev BCAST (q i : Nat) : Fld := ⟨descAddr q i + 4, 31, 31⟩
abbrev NBR (q i : Nat) : Fld := ⟨descAddr q i + 4, 30, 21⟩
abbrev KEY (q i : Nat) : Fld := ⟨descAddr q i + 4, 20, 18⟩
abbrev SECLVL (q i : Nat) : Fld := ⟨descAddr q i + 4, 17, 15⟩
abbrev RETRY (q i : Nat) : Fld := ⟨descAddr q i + 4, 14, 11⟩
abbrev TAG (q i : Nat) : Fld := ⟨descAddr q i + 4, 7, 0⟩
end D

/-- Completion codes (Table 2-11). -/
abbrev ccOk : Nat := 0
/-- NO_ACK. -/
abbrev ccNoAck : Nat := 1
/-- LATE. -/
abbrev ccLate : Nat := 2
/-- CCA_BUSY. -/
abbrev ccCca : Nat := 3
/-- DUTY_LIMIT. -/
abbrev ccDuty : Nat := 4
/-- KEY_EXHAUSTED. -/
abbrev ccKey : Nat := 5
/-- TOO_LONG. -/
abbrev ccTooLong : Nat := 6
/-- AUTH_FAIL. -/
abbrev ccAuth : Nat := 7
/-- ABORTED. -/
abbrev ccAborted : Nat := 9
/-- NO_NEIGHBOUR. -/
abbrev ccNoNbr : Nat := 0xA
/-- RADIO_UNAVAILABLE. -/
abbrev ccRadio : Nat := 0xB

/-- The timeline of a queue. -/
def State.qTl (s : State) (q : Nat) : Tl := if q = fwdQ then .a else Tl.ofBit (s.fg (F.HRT_Qn_CFG_TL q))

/-- The timeline of a descriptor: its queue's, and for a forwarded Pilot frame that of its next hop's entry (R383). -/
def State.descTl (s : State) (q i : Nat) : Tl := if q = fwdQ then Tl.ofBit (s.mg (N.TL (s.mg (D.NBR q i)))) else s.qTl q

/-- The indices between two ring positions. -/
def ringFrom (a b : Nat) : List Nat := (List.range ((b + 128 - a) % 128)).map (fun k => (a + k) % 128)

/-- A descriptor lies between RECL and PROD of its queue. -/
def State.inRing (s : State) (q i : Nat) : Bool :=
  (ringFrom (s.fg (F.HRT_Qn_RECL_IDX q)) (s.fg (F.HRT_Qn_PROD_IDX q))).any (fun k => k % 64 == i)

/-- The QUEUED descriptors of a TX queue, in ring order. -/
def State.queued (s : State) (q : Nat) : List Nat :=
  if q = fwdQ then s.hrt.fwd.filter (fun i => s.mg (D.ST q i) == 1)
  else ((ringFrom (s.fg (F.HRT_Qn_RECL_IDX q)) (s.fg (F.HRT_Qn_PROD_IDX q))).map (fun k => k % 64)).filter (fun i => s.mg (D.ST q i) == 1)

/-- The child a descriptor counts in PEND for (R156). -/
def State.descChild (s : State) (q i : Nat) : Option Nat :=
  if q == fwdQ || s.fb (F.HRT_Qn_CFG_IMM q) || s.mb (D.BCAST q i) then none
  else if s.mb (N.V (s.mg (D.NBR q i))) && s.mg (N.TL (s.mg (D.NBR q i))) == s.fg (F.HRT_Qn_CFG_TL q) then s.childOf (s.mg (D.NBR q i))
  else none

/-- A TX descriptor's ST changes; PEND follows the number of QUEUED descriptors of its child (R156). -/
def State.setSt (s : State) (q i v : Nat) : State :=
  let was := s.mg (D.ST q i) == 1
  let now := v == 1
  let s := s.mp (D.ST q i) v
  match s.descChild q i with
  | some c => if was == now then s else s.childWrite c (fun s => s.mp (C.PEND c) (if now then s.mg (C.PEND c) + 1 else s.mg (C.PEND c) - 1))
  | none => s

/-- What Hearth holds of a descriptor. -/
def State.dx (s : State) (q i : Nat) : DescSt := (alGet s.hrt.desc (q, i)).getD DescSt.init

/-- Change what Hearth holds of a descriptor. -/
def State.mDx (s : State) (q i : Nat) (f : DescSt → DescSt) : State :=
  s.mHrt (fun h => { h with desc := alSet h.desc (q, i) (f ((alGet h.desc (q, i)).getD DescSt.init)) })

/-- What Hearth holds of a descriptor that was just enqueued or posted. -/
def State.newDx (s : State) (q i : Nat) (x : DescSt) : State := s.mHrt (fun h => { h with desc := alSet h.desc (q, i) x })

/-- DONE advances past every descriptor that is COMPLETE with all before it; each is told to a HOST owner (R61, R417). -/
def State.advanceDone (s : State) (q : Nat) : Nat → State
  | 0 => s
  | n + 1 =>
    let d := s.fg (F.HRT_Qn_DONE_IDX q)
    if d = s.fg (F.HRT_Qn_PROD_IDX q) ∨ s.mg (D.ST q (d % 64)) ≠ 3 then s
    else
      let i := d % 64
      let s := s.fp (F.HRT_Qn_DONE_IDX q) ((d + 1) % 128)
      let s := if s.fg (F.HRT_Qn_CFG_OWNER q) = ownHost then
          s.hostNote 4 (leBytes 1 q ++ leBytes 1 i ++ leBytes 1 (s.mg (D.CODE q i)) ++ leBytes 1 (s.dx q i).tag)
        else s
      s.advanceDone q n

/-- A forwarded Pilot frame is done with: its buffer and its place are free again (R383). -/
def State.fwdFree (s : State) (i : Nat) : State :=
  let s := s.setHolder (s.mg (D.BUF fwdQ i)) ownNone
  (s.mHrt (fun h => { h with fwd := h.fwd.filter (fun x => x != i), desc := alDel h.desc (fwdQ, i) })).mp (D.ST fwdQ i) 0

/-- Metadata of a descriptor that leaves the queue without having been sent: the current ASN, the ember timer, and zeros where nothing was
measured (R75; log 28, DEDUCED). -/
def State.metaNow (s : State) (t : Tl) (b : Nat) : State :=
  let d := asnData t (s.asn t)
  ((s.wipe (bufAddr b) (bufAddr b + 0x40)).sw (bufAddr b) d.1).sw (bufAddr b + 4) d.2 |>.sw (bufAddr b + 0x18) s.emberLo

/-- A frame of Hearth's own queue of forwarded Pilot frames ends; one that the ledger refused is counted as every DUTY_LIMIT completion is (R131). -/
def State.fwdEnd (s : State) (i code : Nat) : State :=
  let s := if code = ccDuty then (s.cnt 0x080).fset F.HRT_EVT_DUTY else if code = ccKey then s.cnt 0x084 else s
  s.fwdFree i

/-- A TX descriptor that passed its enqueue checks completes with a code (R61, R68, R75): metadata, counters, DONE. `corr`: the peer's time
correction. -/
def State.complete (s : State) (q i code : Nat) (corr : Int) : State :=
  if q = fwdQ then s.fwdEnd i code else
  let x := s.dx q i
  let b := bufAddr (s.mg (D.BUF q i))
  let s := if x.sent then s.wipe (b + 0x20) (b + 0x40) else s.metaNow (s.qTl q) (s.mg (D.BUF q i))
  let s := s.sw (b + 0x14) (w32 (min x.tries 255 * 0x1000000 + min x.busy 255 * 0x10000 + unsigned 16 corr))
  let s := s.sw (b + 0x1C) (w32 (x.lates % 0x10000))
  let child := s.descChild q i
  let s := (s.setSt q i 3).mp (D.CODE q i) code
  let s := s.newDx q i { DescSt.init with buf := x.buf, tag := x.tag }
  let s := if code = ccOk then s.cnt (0x100 + 0x10 * q) else s.cnt (0x104 + 0x10 * q)
  let s := match code, child with
    | 0, some c => s.childWrite c (fun s => s.msat (C.DELIV c))
    | _, _ => s
  let s := if code = ccDuty then (s.cnt 0x080).fset F.HRT_EVT_DUTY else if code = ccKey then s.cnt 0x084 else s
  s.advanceDone q 65

/-! ## Index writes (R58, R59) -/

/-- A forward move of 0 to 64. -/
def fwd (old new : Nat) : Bool := decide ((new + 128 - old) % 128 ≤ 64)

/-- The MIC length of a descriptor's security. -/
def descMic (sec : Bool) (lvl : Nat) : Nat := if sec then micLen lvl else 0

/-- The enqueue checks of Table 2-5, in order; none where all pass. -/
def State.enqCheck (s : State) (q i : Nat) : Option Nat :=
  let b := s.mg (D.BUF q i)
  let sec := s.mb (D.SEC q i)
  let lvl := s.mg (D.SECLVL q i)
  let n := s.mg (D.NBR q i)
  let t := s.qTl q
  let fcs := if t = .a then s.hrt.cfg.fcs else 2
  if b < 2 ∨ s.holder b ≠ s.fg (F.HRT_Qn_CFG_OWNER q) then some ccAborted
  else if sec && !([1, 2, 3, 5, 6, 7].contains lvl) then some ccAborted
  else if s.mg (D.LEN q i) = 0 ∨ 2047 < s.mg (D.LEN q i) + descMic sec lvl + fcs then some ccTooLong
  else if !s.mb (D.BCAST q i) && !(s.mb (N.V n) && s.mg (N.TL n) == t.bit && s.mg (N.ADM n) != admBlocked) then some ccNoNbr
  else if s.fb (F.HRT_Qn_CFG_EN q) = false ∨ s.tlThere t = false then some ccRadio
  else none

/-- One newly produced descriptor is checked: refused at once, or QUEUED with its buffer held by Hearth (R59). -/
def State.enqueue (s : State) (q i : Nat) : State := match s.enqCheck q i with
  | some code =>
    let s := s.newDx q i { DescSt.init with tag := s.mg (D.TAG q i) }
    let s := (s.setSt q i 3).mp (D.CODE q i) code
    (s.fsat (F.HRT_Qn_STAT_CNT q)).cnt (0x108 + 0x10 * q)
  | none =>
    let b := s.mg (D.BUF q i)
    ((s.newDx q i { DescSt.init with buf := some b, tag := s.mg (D.TAG q i) }).setHolder b ownHearth).setSt q i 1

/-- An owner's write of PROD (R58): it moves forward with at most 64 between RECL and PROD, or IERR. DONE passes descriptors refused at enqueue
once every new descriptor has been checked (R59, R61). -/
def State.prodWrite (s : State) (q v : Nat) : State :=
  let old := s.fg (F.HRT_Qn_PROD_IDX q)
  let new := v % 128
  if fwd old new && decide ((new + 128 - s.fg (F.HRT_Qn_RECL_IDX q)) % 128 ≤ 64) then
    (s.fp (F.HRT_Qn_PROD_IDX q) new).forEach (ringFrom old new) (fun s k => s.enqueue q (k % 64)) |>.advanceDone q 65
  else s.fset (F.HRT_Qn_STAT_IERR q)

/-- A descriptor passes below RECL: the buffer that was enqueued or posted with it returns to FREE (R71). -/
def State.reclaimBuf (s : State) (q i : Nat) : State :=
  let b := (s.dx q i).buf
  let s := s.mHrt (fun h => { h with desc := alDel h.desc (q, i) })
  match b with
  | some b => if s.holder b = ownHearth then s.setHolder b ownNone else s
  | none => s

/-- The last index RECL may reach on a queue: DONE on a TX queue, PROD or the first descriptor without a verdict on an RX queue (R58). -/
def State.reclLimit (s : State) (q : Nat) : Nat :=
  let r := s.fg (F.HRT_Qn_RECL_IDX q)
  if q < 16 then s.fg (F.HRT_Qn_DONE_IDX q)
  else
    let p := s.fg (F.HRT_Qn_PROD_IDX q)
    ((ringFrom r p).find? (fun k => s.mb (D.EARLY q (k % 64)) && !s.mb (D.VERDICT q (k % 64)))).getD p

/-- An owner's write of RECL (R58). -/
def State.reclWrite (s : State) (q v : Nat) : State :=
  let old := s.fg (F.HRT_Qn_RECL_IDX q)
  let new := v % 128
  if fwd old new && decide ((new + 128 - old) % 128 ≤ (s.reclLimit q + 128 - old) % 128) then
    (s.fp (F.HRT_Qn_RECL_IDX q) new).forEach (ringFrom old new) (fun s k => s.reclaimBuf q (k % 64))
  else s.fset (F.HRT_Qn_STAT_IERR q)

/-- Descriptors of a queue that Hearth holds: QUEUED or IN_FLIGHT (HRT_Qn_STAT [15:8]). -/
def State.heldCount (s : State) (q : Nat) : Nat :=
  ((ringFrom (s.fg (F.HRT_Qn_RECL_IDX q)) (s.fg (F.HRT_Qn_PROD_IDX q))).filter
    (fun k => s.mg (D.ST q (k % 64)) == 1 || s.mg (D.ST q (k % 64)) == 2)).length

/-! ## Posting to a receive queue (R64) -/

/-- A receive queue takes a frame: enabled, with a free place. -/
def State.rxRoom (s : State) (q : Nat) : Bool :=
  decide ((s.fg (F.HRT_Qn_PROD_IDX q) + 128 - s.fg (F.HRT_Qn_RECL_IDX q)) % 128 < 64)

/-- PROD and DONE of a receive queue pass one more descriptor. -/
def State.rxAdvance (s : State) (q : Nat) : State :=
  let p := (s.fg (F.HRT_Qn_PROD_IDX q) + 1) % 128
  (s.fp (F.HRT_Qn_PROD_IDX q) p).fp (F.HRT_Qn_DONE_IDX q) p

/-- Octets of a host notification that carries a whole received frame from an offset of its frame area (Table 14-5). -/
def State.rxNote (s : State) (q i off : Nat) : List Byte :=
  let b := bufAddr (s.mg (D.BUF q i))
  leBytes 1 q ++ leBytes 1 i ++ leBytes 2 off ++ s.bytes (descAddr q i) 8 ++ s.bytes b 64 ++
    s.bytes (b + 64 + off) (s.mg (D.LEN q i) - off)

/-! ## Frames (IEEE 802.15.4-2020 MAC headers, frame version 0b10) -/

/-- A parsed MAC header. Addresses are numbers; `payOff`: where the payload begins, past the header IEs; `auxOff`: the auxiliary security
header's place; `ies`: header IEs as (element, content). -/
structure Mhr where
  ty : Nat
  sec : Bool
  pend : Bool
  ar : Bool
  ver : Nat
  seqSup : Bool
  iePres : Bool
  dstMode : Nat
  srcMode : Nat
  seq : Nat
  dstPan : Option Nat
  dst : Nat
  srcPan : Option Nat
  src : Nat
  addrEnd : Nat
  level : Nat
  keyMode : Nat
  ctrSup : Bool
  ctr : Nat
  keyIdx : Nat
  auxEnd : Nat
  deriving DecidableEq, Repr

/-- The octet at a place of a frame. -/
def oct (o : List Byte) (i : Nat) : Nat := (nth o i 0).toNat

/-- `n` octets of a frame as a number, least significant first. -/
def octs (o : List Byte) (i n : Nat) : Nat := ofLe ((o.drop i).take n)

/-- Octets of an address of a mode. -/
def addrLen (m : Nat) : Nat := if m = 2 then 2 else if m = 3 then 8 else 0

/-- Which PAN ID fields are present, by the PAN ID compression table of IEEE 802.15.4-2020 for frame version 0b10: destination, source. -/
def panPresent (dm sm : Nat) (comp : Bool) : Bool × Bool :=
  if dm = 0 ∧ sm = 0 then (comp, false)
  else if sm = 0 then (!comp, false)
  else if dm = 0 then (false, !comp)
  else if dm = 3 ∧ sm = 3 then (!comp, false)
  else (true, !comp)

/-- The MAC header of a frame's first octets. -/
def parseMhr (o : List Byte) : Mhr :=
  let f := octs o 0 2
  let bit (n : Nat) : Bool := f / 2 ^ n % 2 == 1
  let dm := f / 1024 % 4
  let sm := f / 16384 % 4
  let p := panPresent dm sm (bit 6)
  let a0 := if bit 8 then 2 else 3
  let a1 := a0 + 2 * b2n p.1
  let a2 := a1 + addrLen dm
  let a3 := a2 + 2 * b2n p.2
  let a4 := a3 + addrLen sm
  let sc := oct o a4
  let sup := sc / 32 % 2 == 1
  let km := sc / 8 % 4
  let c0 := a4 + 1
  let k0 := if sup then c0 else c0 + 4
  let klen := nth [0, 1, 5, 9] km 0
  { ty := f % 8, sec := bit 3, pend := bit 4, ar := bit 5, ver := f / 4096 % 4, seqSup := bit 8, iePres := bit 9,
    dstMode := dm, srcMode := sm, seq := if bit 8 then 0 else oct o 2,
    dstPan := if p.1 then some (octs o a0 2) else none, dst := octs o a1 (addrLen dm),
    srcPan := if p.2 then some (octs o a2 2) else none, src := octs o a3 (addrLen sm), addrEnd := a4,
    level := if bit 3 then sc % 8 else 0, keyMode := km, ctrSup := sup, ctr := if sup then 0 else octs o c0 4,
    keyIdx := oct o (k0 + klen - 1), auxEnd := if bit 3 then k0 + klen else a4 }

/-- Where the header IEs end: past Header Termination 1 or 2, or where the frame ends. -/
def hdrIeEnd (o : List Byte) : Nat → Nat → Nat
  | 0, i => i
  | n + 1, i =>
    if o.length < i + 2 then o.length
    else
      let d := octs o i 2
      let e := d / 128 % 256
      if e = 0x7E ∨ e = 0x7F then i + 2 else hdrIeEnd o n (i + 2 + d % 128)

/-- Where the payload of a frame begins. -/
def payOff (m : Mhr) (o : List Byte) : Nat := if m.iePres then min (hdrIeEnd o 64 m.auxEnd) o.length else m.auxEnd

/-- The header IEs: (element ID, content). -/
def hdrIes (o : List Byte) : Nat → Nat → List (Nat × List Byte)
  | 0, _ => []
  | n + 1, i =>
    if o.length < i + 2 then []
    else
      let d := octs o i 2
      let e := d / 128 % 256
      if e = 0x7E ∨ e = 0x7F then [] else (e, (o.drop (i + 2)).take (d % 128)) :: hdrIes o n (i + 2 + d % 128)

/-- The nonce of Table 7-2. -/
def nonce (ext ctr lvl : Nat) : List Byte := beBytes 8 ext ++ beBytes 4 ctr ++ beBytes 1 lvl

/-- This node's extended address, the device identifier. -/
def State.ownExt (s : State) : Nat := (s.rd R.LCS_UID_LO).toNat + 0x100000000 * (s.rd R.LCS_UID_HI).toNat

/-- A security level encrypts. -/
def lvlEnc (l : Nat) : Bool := decide (5 ≤ l)

end Sys2Proof.Machine
end

