-- ==== Sys2Proof/Machine/NbrCore.lean ====
section
/-! DEFINITION. The neighbour and child tables: lookup indices, admission and removal, the neighbour commands and the periodic
checks (R134-R147, R155-R164). -/

namespace Sys2Proof.Machine

/-! ## Lookup indices (R141-R145) -/

/-- 2^64. -/
abbrev two64 : Nat := 0x10000000000000000

/-- The mixing function of R141. -/
def mix (x : Nat) : Nat :=
  let x := Nat.xor x (x / 2 ^ 33) * 0xD6E8FEB86659FD93 % two64
  let x := Nat.xor x (x / 2 ^ 31) * 0xA0F13C5B2E974D6B % two64
  Nat.xor x (x / 2 ^ 32)

/-- The bucket of an extended address on a timeline. -/
def State.bucketExt (s : State) (ext : Nat) (t : Tl) : Nat := mix (Nat.xor (Nat.xor ext s.hrt.salt) (t.bit * 2 ^ 63)) / 2 ^ 55

/-- The bucket of a short address on a timeline. -/
def State.bucketShort (s : State) (sa : Nat) (t : Tl) : Nat :=
  let rot := s.hrt.salt % 2 ^ 32 * 2 ^ 32 + s.hrt.salt / 2 ^ 32
  mix (Nat.xor (Nat.xor sa rot) (t.bit * 2 ^ 63)) / 2 ^ 55

/-- The places a key of a bucket can have: way 0, way 1, then the 32 CAM places. -/
def idxPlaces (b : Nat) : List Nat := [2 * b, 2 * b + 1] ++ (List.range 32).map (fun i => 1024 + i)

/-- The first free place for a bucket (R143). -/
def idxFree (l : List (Nat × Nat)) (b : Nat) : Option Nat := (idxPlaces b).find? (fun p => !l.any (fun x => x.1 == p))

/-- CAM places in use. -/
def camUse (l : List (Nat × Nat)) : Nat := (l.filter (fun x => decide (1024 ≤ x.1))).length

/-- The entry of an extended address on a timeline (R142). -/
def State.lookExt (s : State) (ext : Nat) (t : Tl) : Option Nat :=
  ((idxPlaces (s.bucketExt ext t)).filterMap (fun p => alGet s.hrt.extIdx p)).find? (fun n => s.nbrExt n == ext && s.mg (N.TL n) == t.bit)

/-- The entry of a registered short address on a timeline (R142, R145). -/
def State.lookShort (s : State) (sa : Nat) (t : Tl) : Option Nat :=
  ((idxPlaces (s.bucketShort sa t)).filterMap (fun p => alGet s.hrt.shortIdx p)).find?
    (fun n => s.mg (N.SHORT n) == sa && s.mb (N.SHV n) && s.mg (N.TL n) == t.bit)

/-- HRT_NBR_USE shows the CAM places in use. -/
def State.camShow (s : State) : State :=
  (s.fp F.HRT_NBR_USE_SCAM (camUse s.hrt.shortIdx)).fp F.HRT_NBR_USE_XCAM (camUse s.hrt.extIdx)

/-- Move the CAM place of the lowest entry index whose bucket has a free way into that way (R143). -/
def camMove (l : List (Nat × Nat)) (bucket : Nat → Nat) : List (Nat × Nat) :=
  let free (n : Nat) : Option Nat := [2 * bucket n, 2 * bucket n + 1].find? (fun p => !l.any (fun x => x.1 == p))
  let movable := l.filter (fun x => decide (1024 ≤ x.1) && (free x.2).isSome)
  match movable.foldl (fun (b : Option (Nat × Nat)) x => match b with
      | none => some x
      | some y => if x.2 < y.2 then some x else some y) none with
  | some x => match free x.2 with
    | some p => (p, x.2) :: l.filter (fun y => y != x)
    | none => l
  | none => l

/-! ## Adding and removing entries -/

/-- A refused entry: NEIGH_FULL is counted, raised and, once a second, recorded (R144). -/
def State.neighFull (s : State) (t : Tl) : State :=
  let s := ((s.cnt 0x078).fset F.HRT_EVT_NEIGH_FULL).fsat F.HRT_NBR_FULL_FULL
  if s.hrt.nfSec = s.sec + 1 then s
  else (s.mHrt (fun h => { h with nfSec := s.sec + 1 })).ash3 0x0015 0 (w32 (t.bit * 256)) 0

/-- The index a new entry takes: those never used in ascending order, then freed ones in the order they were freed (R147). -/
def State.nbrIndex (s : State) : Option Nat :=
  if s.hrt.fresh < 1024 then some s.hrt.fresh else s.hrt.freed.head?

/-- A new entry: its index and the state, or none where R144 refuses it. -/
def State.nbrCreate (s : State) (t : Tl) (ext adm : Nat) : Option (Nat × State) :=
  match s.nbrIndex, idxFree s.hrt.extIdx (s.bucketExt ext t) with
  | some n, some p =>
    let s := s.mHrt (fun h => { h with
      fresh := if h.fresh < 1024 then h.fresh + 1 else h.fresh
      freed := if h.fresh < 1024 then h.freed else h.freed.tail
      extIdx := (p, n) :: h.extIdx
      heard := alSet h.heard n s.rtc.ember })
    let ver := s.mg (N.VER n)
    let s := s.putBytes (nbrAddr n) (List.replicate 48 0)
    let s := s.nbrWrite n (fun s =>
      let s := ((s.mp (N.VER n) ver).mp (N.V n) 1).mp (N.TL n) t.bit
      let s := (s.mp (N.ADM n) adm).st (nbrAddr n + 4) 8 ext
      let s := (s.mp (N.JM n) 0xFF).nbrSetExcl n []
      s.mp (N.SD n) 13)
    some (n, (s.fp F.HRT_NBR_USE_ENT (s.fg F.HRT_NBR_USE_ENT + 1)).camShow)
  | _, _ => none

/-- QUEUED descriptors whose NBR names the entry complete with NO_NEIGHBOUR at the next boundary of its timeline (R147).
DESIGN CHOICE (log 88): a descriptor that is IN_FLIGHT at the removal or BLOCK is not among them, also where its attempt fails and it is QUEUED again
before that boundary: it goes on to the outcome of its attempts; the manual names QUEUED descriptors and the instant of removal. -/
def State.nbrDrop (s : State) (n : Nat) : State :=
  let l := (fwdQ :: List.range 16).flatMap (fun q => ((s.queued q).filter (fun i =>
    s.descTl q i == s.nbrTl n && !s.mb (D.BCAST q i) && s.mg (D.NBR q i) == n)).map (fun i => (q, i)))
  s.mHrt (fun h => { h with drop := h.drop ++ l })

/-- Remove an entry (R147). -/
def State.nbrRemove (s : State) (n : Nat) : State :=
  let s := s.nbrDrop n
  let s := s.nbrWrite n (fun s => s.mp (N.V n) 0)
  let s := s.mHrt (fun h => { h with
    extIdx := h.extIdx.filter (fun x => x.2 != n)
    shortIdx := h.shortIdx.filter (fun x => x.2 != n)
    heard := alDel h.heard n
    dies := alDel h.dies n
    advs := alDel h.advs n
    tq := alDel h.tq n
    embAt := alDel h.embAt n
    oldKeys := h.oldKeys.filter (fun x => x.1 != n)
    rssiSeen := h.rssiSeen.filter (fun x => x != n)
    freed := h.freed ++ [n] })
  (s.fp F.HRT_NBR_USE_ENT (s.fg F.HRT_NBR_USE_ENT - 1)).camShow

/-- Register a short address for an entry: true where it is done, false where the short bucket and CAM are full (R145); the places of the
entry's own earlier address and of another entry that held this one count as free. -/
def State.nbrShort (s : State) (n sa : Nat) : Bool × State :=
  let t := s.nbrTl n
  let held := s.lookShort sa t
  if held = some n then (true, s)
  else
    let l := s.hrt.shortIdx.filter (fun x => x.2 != n && held != some x.2)
    match idxFree l (s.bucketShort sa t) with
    | none => (false, s)
    | some p =>
      let s := match held with
        | some m => s.nbrWrite m (fun s => s.mp (N.SHV m) 0)
        | none => s
      let s := s.mHrt (fun h => { h with shortIdx := (p, n) :: l })
      (true, (s.nbrWrite n (fun s => (s.mp (N.SHORT n) sa).mp (N.SHV n) 1)).camShow)

/-- The time source, a child's entry, or one that a dedicated cell names (R147, Table 4-11). -/
def State.nbrReferenced (s : State) (n : Nat) : Bool := s.mb (N.TS n) || (s.childOf n).isSome || s.cellNames n

/-! ## Children (R155-R158) -/

/-- Descriptors QUEUED for a neighbour in scheduled queues of its timeline. -/
def State.queuedFor (s : State) (n : Nat) : Nat :=
  ((List.range 16).flatMap (fun q => if s.fb (F.HRT_Qn_CFG_IMM q) || s.qTl q != s.nbrTl n then [] else
    (s.queued q).filter (fun i => !s.mb (D.BCAST q i) && s.mg (D.NBR q i) == n))).length

/-- Create a child entry for a neighbour entry: its index, or none where 512 are in use (R158). -/
def State.childCreate (s : State) (n : Nat) : Option (Nat × State) :=
  match (List.range 512).find? (fun c => !s.hrt.kids.any (fun k => k.2 == c)) with
  | none => none
  | some c =>
    let ver := s.mg (C.VER c)
    let p := s.queuedFor n
    let s := (s.mHrt (fun h => { h with kids := (n, c) :: h.kids })).putBytes (childAddr c) (List.replicate 32 0)
    let s := s.childWrite c (fun s =>
      let s := ((s.mp (C.VER c) ver).mp (C.V c) 1).mp (C.NBR c) n
      ((s.mp (C.PEND c) p).mp (C.LASTPOLL c) s.sec).mp (C.TIMEOUT c) (60 * s.hrt.cfg.childTimeout))
    let s := s.nbrWrite n (fun s => s.mp (N.CHILD n) 1)
    some (c, s.fp F.HRT_CHILD_USE_CNT (s.fg F.HRT_CHILD_USE_CNT + 1))

/-- Remove a child entry (R158). -/
def State.childRemove (s : State) (c : Nat) : State :=
  let n := s.mg (C.NBR c)
  let s := s.childWrite c (fun s => s.mp (C.V c) 0)
  let s := s.nbrWrite n (fun s => s.mp (N.CHILD n) 0)
  let s := s.mHrt (fun h => { h with kids := alDel h.kids n })
  s.fp F.HRT_CHILD_USE_CNT (s.fg F.HRT_CHILD_USE_CNT - 1)

/-! ## Commands (R162, Tables 4-10 and 4-11) -/

/-- The command's result: CODE and INDEX. DESIGN CHOICE (log 88): where Table 4-11 gives INDEX no value for a CODE it is 0 for FULL, BAD, CHILD_FULL and a
LOOKUP that finds nothing, and the index the command named for REFERENCED and NOT_FOUND. -/
def State.nbrEnd (s : State) (code idx : Nat) : State := (s.csEnd .nbr code).fp F.HRT_NBR_RES_INDEX idx

/-- The extended address of the command set. -/
def State.nbrArgExt (s : State) : Nat := (s.rd R.HRT_NBR_ADDR_LO).toNat + 0x100000000 * (s.rd R.HRT_NBR_ADDR_HI).toNat

/-- ADD. -/
def State.cmdAdd (s : State) (t : Tl) : State :=
  match s.lookExt s.nbrArgExt t with
  | some n => s.nbrEnd 2 n
  | none => match s.nbrCreate t s.nbrArgExt admAdded with
    | none => (s.neighFull t).nbrEnd 1 0
    | some (n, s) =>
      if s.fb F.HRT_NBR_SHORT_SV then
        let r := s.nbrShort n (s.fg F.HRT_NBR_SHORT_SHORT)
        r.2.nbrEnd (if r.1 then 0 else 7) n
      else s.nbrEnd 0 n

/-- BLOCK. -/
def State.cmdBlock (s : State) (t : Tl) : State :=
  match s.lookExt s.nbrArgExt t with
  | some n =>
    if s.nbrReferenced n then s.nbrEnd 4 n
    else ((s.nbrWrite n (fun s => s.mp (N.ADM n) admBlocked)).nbrDrop n).nbrEnd 0 n
  | none => match s.nbrCreate t s.nbrArgExt admBlocked with
    | none => (s.neighFull t).nbrEnd 1 0
    | some (n, s) => s.nbrEnd 0 n

/-- LOOKUP. -/
def State.cmdLookup (s : State) (t : Tl) : State :=
  match if s.fb F.HRT_NBR_SHORT_SV then s.lookShort (s.fg F.HRT_NBR_SHORT_SHORT) t else s.lookExt s.nbrArgExt t with
  | some n => s.nbrEnd 0 n
  | none => s.nbrEnd 3 0

/-- ADD_CHILD. -/
def State.cmdAddChild (s : State) (n : Nat) : State := match s.childOf n with
  | some c => s.nbrEnd 2 c
  | none => match s.childCreate n with
    | some (c, s) => s.nbrEnd 0 c
    | none => s.nbrEnd 6 0

/-- DEL_CHILD. -/
def State.cmdDelChild (s : State) (n : Nat) : State := match s.childOf n with
  | some c => (s.childRemove c).nbrEnd 0 n
  | none => s.nbrEnd 3 n

/-- An operation that names a valid entry by INDEX. -/
def State.cmdIndexed (s : State) (op n : Nat) : State :=
  if s.mb (N.V n) = false then s.nbrEnd 3 n
  else match op with
    | 2 => if s.nbrReferenced n then s.nbrEnd 4 n else (s.nbrRemove n).nbrEnd 0 n
    | 3 => (s.nbrWrite n (fun s => s.mp (N.ADM n) admPinned)).nbrEnd 0 n
    | 4 => (s.nbrWrite n (fun s => s.mp (N.ADM n) admAdded)).nbrEnd 0 n
    | 7 => let r := s.nbrShort n (s.fg F.HRT_NBR_SHORT_SHORT); r.2.nbrEnd (if r.1 then 0 else 7) n
    | 8 => s.cmdAddChild n
    | _ => s.cmdDelChild n

/-- The command a word of HRT_NBR_CMD gives. -/
def State.nbrRun (s : State) (v : Word) : State :=
  let op := wField v 30 27
  let t := Tl.ofBit (wField v 16 16)
  let needsTl := op == 1 || op == 5 || op == 6
  if needsTl && t == .b && !s.hasB then s.nbrEnd 5 0
  else match op with
    | 1 => s.cmdAdd t
    | 5 => s.cmdBlock t
    | 6 => s.cmdLookup t
    | _ => if op = 0 ∨ 9 < op then s.nbrEnd 5 0 else s.cmdIndexed op (wField v 9 0)

/-- A write of HRT_NBR_CMD with GO (R163, R164): the pair runs the command, after a recovery where one is in progress. -/
def State.nbrGo (s : State) (who : Nat) (v : Word) : State :=
  s.csWrite .nbr who true (fun s =>
    let s := ((s.fp F.HRT_NBR_CMD_OP (wField v 30 27)).fp F.HRT_NBR_CMD_TL (wField v 16 16)).fp F.HRT_NBR_CMD_INDEX (wField v 9 0)
    let s := s.csRun .nbr
    if s.recovering then s.mHrt (fun h => { h with nbrJob := some v }) else s.nbrRun v)

/-! ## Periodic checks -/

/-- LEARNED entries silent for NBR_AGE and not referenced are removed (R147). -/
def State.nbrAgeCheck (s : State) : State :=
  s.forEach (s.nbrs.filter (fun n => s.mg (N.ADM n) == admLearned)) (fun s n =>
    let last := (alGet s.hrt.heard n).getD 0
    if 60 * s.hrt.cfg.nbrAge ≤ s.since last ∧ s.nbrReferenced n = false then s.nbrRemove n else s)

/-- Child entries without a poll for TIMEOUT are removed (R158). -/
def State.childCheck (s : State) : State :=
  s.forEach (s.hrt.kids.map (·.2)) (fun s c =>
    if s.mg (C.TIMEOUT c) ≤ (s.sec + 0x100000000 - s.mg (C.LASTPOLL c)) % 0x100000000 then s.childRemove c else s)

/-- Seconds since an entry's last observation (TOBS holds the ember second modulo 2^16). -/
def State.obsAge (s : State) (n : Nat) : Nat := (s.sec + 0x10000 - s.mg (N.TOBS n)) % 0x10000

/-- Models whose last observation is 65,000 s or more in the past return to UNSET (R136). -/
def State.modelCheck (s : State) : State :=
  s.forEach (s.nbrs.filter (fun n => s.mg (N.STH n) != 0 && decide (65000 ≤ s.obsAge n))) (fun s n =>
    s.nbrWrite n (fun s =>
      let s := ((s.mp (N.STH n) 0).mp (N.THETA n) 0).mp (N.DXO n) 0
      (s.mp (N.DEMB n) 0).mp (N.SD n) 13))

/-- A frame or beacon from the neighbour has been accepted: its silence ends, LOST_SYNC clears (R122, R147). This is work of the andiron pair (R134). -/
def State.nbrHeard (s : State) (n : Nat) : State :=
  let s := s.mHrt (fun h => { h with heard := alSet h.heard n s.rtc.ember })
  if s.mb (N.LS n) then s.nbrWrite n (fun s => s.mp (N.LS n) 0) else s

/-- RSSI's running average (R137): the first frame sets it, later ones move it by an eighth, truncated toward zero. -/
def State.nbrRssi (s : State) (n : Nat) (rssi : Int) : State :=
  let old := s.mi (N.RSSI n)
  let new := if s.hrt.rssiSeen.contains n then old + Int.tdiv (rssi - old) 8 else rssi
  (s.mHrt (fun h => { h with rssiSeen := n :: h.rssiSeen.filter (fun x => x != n) })).nbrWrite n (fun s => s.mp (N.RSSI n) (unsigned 8 new))

/-! ## Exclusion lists held per neighbour (R138-R140) -/

/-- The next list: the list in force with DCNT changes. -/
def State.nbrNextList (s : State) (n : Nat) : List Nat :=
  let ch (l : List Nat) (c : Nat) (add : Bool) : List Nat := if add then (if l.contains c then l else l ++ [c]) else l.filter (fun x => x != c)
  let l0 := s.nbrExcl n
  let l1 := if 1 ≤ s.mg (N.DCNT n) then ch l0 (s.mg (N.D0 n)) (s.mg (N.DADD n) % 2 == 1) else l0
  if 2 ≤ s.mg (N.DCNT n) then ch l1 (s.mg (N.D1 n)) (s.mg (N.DADD n) / 2 == 1) else l1

/-- The effective ASN has come: within 2^23 slots, bits [23:0] not after the current ASN's (R138, R140). -/
def State.nbrEffDue (s : State) (n : Nat) : Bool :=
  decide ((s.asn (s.nbrTl n) + 0x1000000 - s.mg (N.EFF n)) % 0x1000000 < 0x800000)

/-- At a boundary of a timeline: next lists whose effective ASN has come become the lists in force (R100, R140). -/
def State.nbrLists (s : State) (t : Tl) : State :=
  s.forEach ((s.nbrsOf t).filter (fun n => s.mb (N.NEXT n) && s.nbrEffDue n)) (fun s n =>
    let l := s.nbrNextList n
    s.nbrWrite n (fun s => ((s.nbrSetExcl n l).mp (N.EXVER n) (s.mg (N.NXVER n))).mp (N.NEXT n) 0))

/-- Changes from one list to another: (channel, added). -/
def listDiff (a b : List Nat) : List (Nat × Bool) :=
  (b.filter (fun c => !a.contains c)).map (fun c => (c, true)) ++ (a.filter (fun c => !b.contains c)).map (fun c => (c, false))

/-- A link-state IE's lists (R140). `next`: version, effective ASN, list. -/
def State.nbrLinkState (s : State) (n ver : Nat) (l : List Nat) (next : Option (Nat × (Nat × List Nat))) : State :=
  s.nbrWrite n (fun s =>
    let s := if ver ≠ s.mg (N.EXVER n) then ((s.nbrSetExcl n l).mp (N.EXVER n) ver).mp (N.NEXT n) 0 else s
    match next with
    | none => s
    | some (nv, eff, nl) =>
      let d := listDiff (s.nbrExcl n) nl
      if 2 < d.length then s
      else
        let c (i : Nat) := nth d i (0, false)
        let s := ((s.mp (N.DCNT n) d.length).mp (N.D0 n) (c 0).1).mp (N.D1 n) (c 1).1
        let s := (s.mp (N.DADD n) (b2n (c 0).2 + 2 * b2n (c 1).2)).mp (N.EFF n) eff
        (s.mp (N.NXVER n) nv).mp (N.NEXT n) 1)

end Sys2Proof.Machine
end

