-- ==== Sys2Proof/Machine/Clock.lean ====
section
/-! DEFINITION. Time keeping between neighbours: the drift model and guard window, time-source selection, missed exchanges, the node's own
exclusion list, link profiles and the duty-cycle ledger (R97-R100, R115-R132, R159-R160). Offsets are in µs, drifts in ppb,
temperatures in 1/16 °C. Rounding of Hearth's own arithmetic: log 40, DEDUCED. -/

namespace Sys2Proof.Machine

/-! ## The drift model (R115-R118) -/

/-- Integer square root by bisection over `n` bits. -/
def isqrtN (x : Nat) : Nat → Nat → Nat
  | 0, r => r
  | n + 1, r => let t := r + 2 ^ n; isqrtN x n (if t * t ≤ x then t else r)

/-- Integer square root of a number below 2^80. -/
def isqrt (x : Nat) : Nat := isqrtN x 40 0

/-- T0 in 1/16 °C (EMB_REG31 holds 1/256 °C). -/
def State.t0 (s : State) : Int := signed 16 (s.fg F.EMB_REG31_T0) / 16

/-- The slot clock of a timeline is timed by the ember timer: keep-warm, or no crystal (Table 3-12, R173). -/
def State.emberTimed (s : State) (t : Tl) : Bool := !s.stoked t || s.fg (t.f F.RFA_STAT_STATE) == 11

/-- σθ in µs (Table 4-3). -/
def State.sigTheta (s : State) (n : Nat) : Nat := nth [1000, 2, 10, 1000] (s.mg (N.STH n)) 1000

/-- The seconds for which the ember timer has timed a timeline's slot clock. -/
def State.embTotal (s : State) (t : Tl) : Nat := (s.tlx t).embAcc + (if s.emberTimed t then s.sec - (s.tlx t).profAt else 0)

/-- The clock that times a timeline's slots is about to change: the seconds up to now are counted. -/
def State.clkMark (s : State) (t : Tl) : State :=
  let n := s.embTotal t
  s.mTl t (fun x => { x with embAcc := n, profAt := s.sec })

/-- The part in seconds of the time since a neighbour's last observation that the ember timer has timed (R115, R136). -/
def State.embPart (s : State) (n : Nat) : Nat :=
  min (s.obsAge n) (s.embTotal (s.nbrTl n) - (alGet s.hrt.embAt n).getD 0)

/-- σd in ppb. -/
def State.nbrSd (s : State) (n : Nat) : Nat := if s.mg (N.STH n) = 0 then 200 else 16 * s.mg (N.SD n)

/-- e of R115 in ns, with each drift for the part of the time that its clock has timed (log 41, DEDUCED); 0 for an UNSET model. -/
def State.errNs (s : State) (n : Nat) : Int :=
  if s.mg (N.STH n) = 0 then 0
  else s.mi (N.THETA n) * 1000 + 16 * (s.mi (N.DEMB n) * s.embPart n + s.mi (N.DXO n) * (s.obsAge n - s.embPart n : Nat))

/-- D of R115: the largest |T − T0| among the die samples since a neighbour's last observation, with T0 as it is now. -/
def State.diesDev (s : State) (n : Nat) : Nat :=
  let r := (alGet s.hrt.dies n).getD (s.hrt.die, s.hrt.die)
  max (s.hrt.die - s.t0).natAbs (max (r.1 - s.t0).natAbs (r.2 - s.t0).natAbs)

/-- σ of R115 in ns; its temperature term counts the part of the time that the ember timer has timed. -/
def State.sigNs (s : State) (n : Nat) : Nat :=
  let dt := if s.mg (N.STH n) = 0 then 0 else s.obsAge n
  let a := 1000 * s.sigTheta n
  let b := s.nbrSd n * dt
  let d := s.diesDev n
  let c := if s.mg (N.STH n) = 0 then 0 else 2 * s.hrt.cfg.k * d * s.fg F.EMB_REG31_ST0 * s.embPart n / 409600
  isqrt (a * a + b * b + c * c)

/-- 2 (|e| + 3 σ) in ns (R118, R119). -/
def State.guardRaw (s : State) (n : Nat) : Nat := 2 * ((s.errNs n).natAbs + 3 * s.sigNs n)

/-- The guard fails: the exchange of a dedicated cell is not attempted (R119). -/
def State.guardFails (s : State) (t : Tl) (n : Nat) : Bool := decide (1000 * (s.tc t).tmpl.guardMax < s.guardRaw n)

/-- The receive guard window in µs (R118). -/
def State.guardUs (s : State) (t : Tl) (n : Nat) : Nat := max 200 (min (s.tc t).tmpl.guardMax (s.guardRaw n / 1000))

/-- The guard window of a receive cell (R118): its neighbour's; with BC = 1, and for an ADV cell, which receives as a BC cell (Table 3-3), the
largest among the senders the image expects in it, guard_max where it lists none. A sender without an entry counts with guard_max (log 41, DEDUCED: it has no model). -/
def State.cellGuard (s : State) (t : Tl) (i e : Nat) : Nat :=
  if !cBcRx e then s.guardUs t (cNbr e)
  else match (s.hrt.cfg.expect.filter (fun x => x.1 == i)).flatMap (·.2) with
    | [] => (s.tc t).tmpl.guardMax
    | l => (l.map (fun a => ((s.lookExt a t).map (s.guardUs t)).getD (s.tc t).tmpl.guardMax)).foldl max 200

/-- Clamp an integer. -/
def clampI (lo hi x : Int) : Int := max lo (min hi x)

/-- The ember timer timed the larger part of the time since a neighbour's last observation (R136); of two equal parts it counts as the larger
(log 41, DESIGN CHOICE). -/
def State.mostlyEmber (s : State) (n : Nat) : Bool := decide (s.obsAge n ≤ 2 * s.embPart n)

/-- The turnover temperature's learning from the time source (R117): the rate in ppb; EMB_REG31 and what is left of the rate. -/
def State.learnT0 (s : State) (rate tdev : Int) : Int × State :=
  let r2 := Int.tdiv rate 2
  let d := clampI (-128) 128 (Int.tdiv (r2 * 25600) (2 * s.hrt.cfg.k * tdev))
  let s := s.fp F.EMB_REG31_T0 (unsigned 16 (signed 16 (s.fg F.EMB_REG31_T0) + d))
  (r2, s.fp F.EMB_REG31_ST0 (max 128 (s.fg F.EMB_REG31_ST0 * 9 / 10)))

/-- An observation of neighbour `n`: its clock's offset in µs (R117). The first observation of an UNSET model only sets θ (log 41, DEDUCED), and so does
one in the same second as the last: the rule's rate has no value where Δt is 0 (log 41, DESIGN CHOICE). -/
def State.observe (s : State) (n : Nat) (off : Int) (sat : Bool) : State :=
  let t := s.nbrTl n
  let ts := s.mb (N.TS n)
  let first := s.mg (N.STH n) == 0
  let dt := if first then 0 else s.obsAge n
  let ember := if first then s.emberTimed t else s.mostlyEmber n
  let rate := if dt = 0 then 0 else Int.tdiv (off * 1000 - s.errNs n) dt
  let tdev := Int.tdiv (s.hrt.die - s.t0) 16
  let r := if ts && ember && decide (5 ≤ tdev.natAbs) && dt != 0 then s.learnT0 rate tdev else (rate, s)
  let s := r.2
  let old := 16 * (if ember then s.mi (N.DEMB n) else s.mi (N.DXO n))
  let d := clampI (-2048) 2047 (Int.tdiv (old + Int.tdiv r.1 4) 16)
  let sd := if dt = 0 then s.nbrSd n else max 5 (isqrt ((3 * s.nbrSd n * s.nbrSd n + r.1.natAbs * r.1.natAbs) / 4))
  let s := s.mHrt (fun h => { h with dies := alDel h.dies n, embAt := alSet h.embAt n (s.embTotal t) })
  s.nbrWrite n (fun s =>
    let s := if dt = 0 then s else s.mp (if ember then N.DEMB n else N.DXO n) (unsigned 12 d)
    let s := (s.mp (N.SD n) (min 63 (ceilDiv sd 16))).mp (N.THETA n) (unsigned 12 (if ts then 0 else clampI (-2047) 2047 off))
    (s.mp (N.STH n) (if sat then 3 else if s.emberTimed t then 2 else 1)).mp (N.TOBS n) s.sec)

/-- The latest sample of the sensor an item follows, in 1/16 °C: the PA-adjacent one for PA, the die for the others (R176). -/
def State.calTemp (s : State) (t : Tl) (i : Nat) : Int := signed 16 (s.fg (t.f (if i = 4 then F.RFA_TEMP_PA else F.RFA_TEMP_DIE)))

/-- How far an item's temperature has moved since its last run, in 1/16 °C. -/
def State.calMoved (s : State) (t : Tl) (i : Nat) : Nat := (s.calTemp t i - 16 * signed 8 (s.fg (t.f (F.RFA_CALi_TEMP i)))).natAbs

/-- Items that have run and whose temperature has moved more than 10 °C since become stale (R176). -/
def State.calStale (s : State) (t : Tl) (items : List Nat) : State :=
  s.forEach items (fun s i => if s.fb (t.f (F.RFA_CALi_VALID i)) && decide (160 < s.calMoved t i) then s.fset (t.f (F.RFA_CALi_STALE i)) else s)

/-- The radios a part has. -/
def State.radios (s : State) : List Tl := if s.hasB then [.a, .b] else [.a]

/-- A die sample: the latest, shown by each radio's TEMP register (Tables 5-9, 5-11), and the lowest and the highest since each
neighbour's observation (R115); calibration items that follow the die may become stale (R176). -/
def State.dieSample (s : State) (die : Int) : State :=
  let s := s.fp F.RFA_TEMP_DIE (unsigned 16 die)
  let s := if s.hasB then s.fp (Tl.b.f F.RFA_TEMP_DIE) (unsigned 16 die) else s
  let s := s.mHrt (fun h => { h with die := die })
  let s := s.forEach s.radios (fun s t => s.calStale t [0, 1, 2, 3])
  s.mHrt (fun h => { h with dies := s.nbrs.map (fun n =>
    let r := (alGet h.dies n).getD (die, die)
    (n, (min die r.1, max die r.2))) })

/-! ## Time source (R159, R160) -/

/-- Candidates of a timeline. -/
def State.tsCands (s : State) (t : Tl) : List Nat :=
  let low := if t = .a then s.hrt.cfg.rssiA else s.hrt.cfg.rssiB
  (s.nbrsOf t).filter (fun n => !s.mb (N.LS n) && s.mg (N.ADM n) != admBlocked && decide (s.mg (N.JM n) < 0xFF) && decide (low ≤ s.mi (N.RSSI n)))

/-- `m` ranks before `n`: PREF, lowest JM, highest RSSI, lowest index. -/
def State.tsBefore (s : State) (m n : Nat) : Bool :=
  let p := (s.mg (N.PREF m), s.mg (N.PREF n))
  let j := (s.mg (N.JM m), s.mg (N.JM n))
  let r := (s.mi (N.RSSI m), s.mi (N.RSSI n))
  if p.1 ≠ p.2 then decide (p.2 < p.1) else if j.1 ≠ j.2 then decide (j.1 < j.2)
  else if r.1 ≠ r.2 then decide (r.2 < r.1) else decide (m < n)

/-- The best-ranked candidate. -/
def State.tsBest (s : State) (t : Tl) : Option Nat :=
  (s.tsCands t).foldl (fun (b : Option Nat) n => match b with
    | none => some n
    | some m => if s.tsBefore n m then some n else some m) none

/-- The time source in force. -/
def State.tsNow (s : State) (t : Tl) : Option Nat := (s.nbrsOf t).find? (fun n => s.mb (N.TS n))

/-- HRT_TS_x, with its fields. -/
def tsFld : Tl → Fld × (Fld × Fld)
  | .a => (F.HRT_TS_A_VALID, F.HRT_TS_A_METRIC, F.HRT_TS_A_IDX)
  | .b => (F.HRT_TS_B_VALID, F.HRT_TS_B_METRIC, F.HRT_TS_B_IDX)

/-- HRT_TS_x shows a source, or none: metric 0xFF; a root's own metric is 0 (R159). -/
def State.tsShow (s : State) (t : Tl) (n : Option Nat) : State :=
  let f := tsFld t
  match n with
  | some n => ((s.fp f.1 1).fp f.2.1 (min 255 (s.mg (N.JM n) + 1))).fp f.2.2 n
  | none => ((s.fp f.1 0).fp f.2.1 (if s.hrt.cfg.root then 0 else 0xFF)).fp f.2.2 0

/-- The time source of a timeline becomes `n` (R160): TS moves, and TIME_SOURCE is recorded with both indices. -/
def State.tsMove (s : State) (t : Tl) (n : Option Nat) : State :=
  let old := s.tsNow t
  let s := match old with
    | some o => s.nbrWrite o (fun s => s.mp (N.TS o) 0)
    | none => s
  let s := match n with
    | some m => s.nbrWrite m (fun s => (s.mp (N.TS m) 1).mp (N.THETA m) 0)
    | none => s
  let d := asnData t (s.asn t)
  let s := (s.tsShow t n).ash3 0x0016 d.1 d.2 (w32 (n.getD 0x3FF * 0x10000 + old.getD 0x3FF))
  s.mTl t (fun x => { x with newTs := none, lowJm := [] })

/-- A new source is chosen; it takes effect at the timeline's next boundary (R160). -/
def State.tsChoose (s : State) (t : Tl) : State :=
  if s.hrt.cfg.root then s else
  let b := s.tsBest t
  if b = s.tsNow t then s else s.mTl t (fun x => { x with newTs := some b })

/-- At a boundary the chosen source takes over: the slot clock steps by −e of the new source; with no candidate R119 applies. -/
def State.tsApply (s : State) (t : Tl) : State := match (s.tlx t).newTs with
  | none => s
  | some n =>
    let s := match n with
      | some m => s.mTl t (fun x => { x with clock := x.clock - s.errNs m / 1000 })
      | none => s.mTl t (fun x => { x with resync := some (0, s.rtc.ember) })
    s.tsMove t n

/-- The source is lost, another candidate is preferred, or another has had a lower join metric three times running (R160). -/
def State.tsReview (s : State) (t : Tl) : State :=
  if s.sync t = false ∨ s.hrt.cfg.root then s
  else match s.tsNow t with
    | none => if (s.tsBest t).isSome then s.tsChoose t else s
    | some c =>
      let pref := !s.mb (N.PREF c) && (s.tsCands t).any (fun n => s.mb (N.PREF n))
      let low := (s.tlx t).lowJm.any (fun p => decide (3 ≤ p.2) && (s.tsCands t).contains p.1)
      if s.mb (N.LS c) || !s.mb (N.V c) || pref || low then s.tsChoose t else s

/-- A beacon's join metric for a neighbour (R135, R160): a candidate's beacons in a row with a lower one are counted. -/
def State.nbrJm (s : State) (t : Tl) (n jm : Nat) : State :=
  let s := s.nbrWrite n (fun s => s.mp (N.JM n) jm)
  match s.tsNow t with
  | none => s
  | some c =>
    if c = n then s.tsShow t (some n)
    else
      let run := if jm < s.mg (N.JM c) ∧ (s.tsCands t).contains n then (alGet (s.tlx t).lowJm n).getD 0 + 1 else 0
      s.mTl t (fun x => { x with lowJm := alSet x.lowJm n run })

/-! ## Missed exchanges (R121, R122) -/

/-- A third miss in a row marks the neighbour LOST_SYNC. This is work of the andiron pair (R134). -/
def State.lostSync (s : State) (n : Nat) : State :=
  if s.mb (N.LS n) then s else
  let t := s.nbrTl n
  let s := ((s.nbrWrite n (fun s => s.mp (N.LS n) 1)).fset F.HRT_EVT_LOST_SYNC).cnt 0x07C
  if s.mb (N.TS n) then s.tsChoose t else s

/-- A timekeeping exchange with a neighbour succeeded: its run of misses ends. The frame engines write MISS (R134). -/
def State.missClear (s : State) (n : Nat) : State :=
  if s.mg (N.MISS n) = 0 then s else s.nbrWrite n (fun s => s.mp (N.MISS n) 0)

/-- A timekeeping exchange with a neighbour was missed. -/
def State.missCount (s : State) (n : Nat) : State := s.nbrWrite n (fun s => s.mp (N.MISS n) (min 3 (s.mg (N.MISS n) + 1)))

/-! ## The node's own exclusion list (R99, R100, R139) -/

/-- Register fields of a timeline's exclusion list: version, count, first word. -/
def exclFld : Tl → Fld × (Fld × Nat)
  | .a => (F.HRT_EXCL_VER_VER_A, F.HRT_EXCL_VER_CNT_A, R.HRT_EXCL_A0)
  | .b => (F.HRT_EXCL_VER_VER_B, F.HRT_EXCL_VER_CNT_B, R.HRT_EXCL_B0)

/-- HRT_EXCL_* show the list in force. -/
def State.exclShow (s : State) (t : Tl) : State :=
  let l := (s.tlx t).excl
  let n := exclOctets l
  let f := exclFld t
  ((s.fp f.2.1 l.length).wr f.2.2 (w32 n)).wr (f.2.2 + 4) (w32 (n / 0x100000000))

/-- The version of the list in force. -/
def State.exclVer (s : State) (t : Tl) : Nat := s.fg (exclFld t).1

/-- Failures and outcomes kept of a channel. -/
def State.chanStat (s : State) (t : Tl) (ch : Nat) : Nat × Nat :=
  let l := (alGet (s.tlx t).stats ch).getD []
  ((l.filter (fun b => b)).length, l.length)

/-- A candidate's failure ratio is higher than a listed channel's. -/
def ratioAbove (a b : Nat × Nat) : Bool := decide (b.1 * max a.2 1 < a.1 * max b.2 1)

/-- The most channels the list may hold: min(8, N − 4). -/
def State.exclMax (s : State) (t : Tl) : Nat := min 8 ((s.tc t).band.hop.length - 4)

/-- The listed channel of the lowest ratio. -/
def State.exclWorst (s : State) (t : Tl) : Option Nat :=
  ((s.tlx t).exclWant.map (·.1)).foldl (fun (b : Option Nat) c => match b with
    | none => some c
    | some d => if ratioAbove (s.chanStat t d) (s.chanStat t c) then some c else some d) none

/-- The outcome of a frame whose SFD was detected on a channel; a channel over EXCL_THR is added to the wanted list (R99). -/
def State.chanOutcome (s : State) (t : Tl) (ch : Nat) (failed : Bool) : State :=
  let s := s.mTl t (fun x => { x with stats := alSet x.stats ch (((failed :: (alGet x.stats ch).getD [])).take 256) })
  let st := s.chanStat t ch
  let c := s.tc t
  if c.band.hop.contains ch && decide (32 ≤ st.2) && decide (c.link.exclThr * st.2 < 100 * st.1) && !(s.tlx t).exclWant.any (fun p => p.1 == ch) then
    let e := (ch, s.rtc.ember)
    if (s.tlx t).exclWant.length < s.exclMax t then s.mTl t (fun x => { x with exclWant := x.exclWant ++ [e] })
    else match s.exclWorst t with
      | some w => if ratioAbove st (s.chanStat t w) then
          s.mTl t (fun x => { x with exclWant := x.exclWant.filter (fun p => p.1 != w) ++ [e] })
        else s
      | none => s
  else s

/-- A channel leaves the wanted list and its statistics restart (R99). -/
def State.exclExpire (s : State) (t : Tl) (ch : Nat) : State :=
  if (s.tlx t).exclWant.any (fun p => p.1 == ch) then
    s.mTl t (fun x => { x with exclWant := x.exclWant.filter (fun p => p.1 != ch), stats := alDel x.stats ch })
  else s

/-- An ASN has come, counted modulo 2^40: it is not more than half the range ahead. -/
def State.asnDue (s : State) (t : Tl) (n : Nat) : Bool := decide ((s.asn t + 2 ^ 40 - n % 2 ^ 40) % 2 ^ 40 < 2 ^ 39)

/-- A new list version: at most two changes towards the wanted list, effective EXCL_LEAD slots from now (R100, R139). -/
def State.exclVersion (s : State) (t : Tl) : State :=
  let x := s.tlx t
  let d := (listDiff x.excl (x.exclWant.map (·.1))).take 2
  if x.exclNext.isSome || d.isEmpty || x.exclFree.any (fun n => !s.asnDue t n) || s.sync t == false || s.recovering then s
  else
    let l := d.foldl (fun l c => if c.2 then l ++ [c.1] else l.filter (fun y => y != c.1)) x.excl
    let eff := (s.asn t + (s.tc t).link.exclLead) % 2 ^ 40
    s.mTl t (fun x => { x with exclNext := some (l, eff), exclFree := some eff })

/-- At a boundary the next list becomes the list in force (R100). -/
def State.exclBoundary (s : State) (t : Tl) : State := match (s.tlx t).exclNext with
  | some (l, eff) =>
    if s.asnDue t eff then
      ((s.mTl t (fun x => { x with excl := l, exclNext := none, exclFree := none })).fp (exclFld t).1 (s.exclVer t + 1)).exclShow t
    else s
  | none => s

/-- The channel of a cell (R98): `excl` of the intended receiver, the search over each position at most once; BC cells take the
unmodified list. -/
def chanOf (list excl : List Nat) (asn choff : Nat) (bc : Bool) : Nat :=
  let n := list.length
  let i := (asn + choff) % max n 1
  let c0 := nth list i 0
  if bc then c0
  else (((List.range n).map (fun k => nth list ((i + k) % n) 0)).find? (fun c => !excl.contains c)).getD c0

/-- The lanes of a gathering cell (R105): the first LANE + 1 usable entries from position (ASN + CHOFF) mod N. -/
def lanesOf (list excl : List Nat) (asn choff lanes : Nat) : List Nat :=
  let n := list.length
  let i := (asn + choff) % max n 1
  (((List.range n).map (fun k => nth list ((i + k) % n) 0)).filter (fun c => !excl.contains c)).take lanes

/-! ## Profiles (R126-R129) -/

/-- A timeline's profile field of HRT_PROF. -/
def profFld : Tl → Fld
  | .a => F.HRT_PROF_A
  | .b => F.HRT_PROF_B

/-- INTERIM: a timeline is stoked while VIN_OK is 0 (R128). -/
def State.interimShow (s : State) : State :=
  s.fp F.HRT_PROF_INTERIM (b2n (!s.vinOk && (s.stoked .a || s.stoked .b)))

/-- A timeline's profile changes, with the flue's event HRT_EV_PROFILE (R129, Table 8-1); `asn`: the ASN recorded, zero where the timeline runs no boundaries. -/
def State.setProfile (s : State) (t : Tl) (stk : Bool) (asn : Nat) : State :=
  if s.stoked t = stk then s
  else
    let d := asnData t asn
    let s := (s.clkMark t).fp (profFld t) (b2n stk)
    let s := if t = .a then s.fp F.HRT_STAT_PROFILE (b2n stk) else s
    ((s.fset F.HRT_EVT_PROFILE).emit 0x52 0).ash3 0x0014 d.1 d.2 (w32 (b2n stk))

/-- Timelines that run no slot boundaries follow VIN_OK (R129). -/
def State.profFollow (s : State) : State :=
  (s.forEach [Tl.a, Tl.b] (fun s t => if s.tlThere t && !s.runs t then s.setProfile t s.vinOk 0 else s)).interimShow

/-- The debounce begins: VIN above the rising threshold, the warning inactive (R127). -/
def State.vinDebounce (s : State) : State :=
  if s.sup.vinPresent && !s.fb F.SUP_STAT_PFW && !s.vinOk then s.mHrt (fun h => { h with debounce := true }) else s

/-- A timeline takes its profile from VIN_OK, at a boundary that sets it (R129). -/
def State.profSwitch (s : State) (t : Tl) : State := (s.setProfile t s.vinOk (s.asn t)).interimShow

/-- This boundary sets the timeline's profile: it starts slotframe 0, or the first enabled slotframe, or no slotframe is enabled (R129). -/
def State.profDue (s : State) (t : Tl) : Bool := match (s.sfLens t).find? (fun l => l != 0) with
  | some l0 => s.asn t % l0 == 0
  | none => true

/-! ## Duty-cycle ledger (R130-R132) -/

/-- The centre frequency of a channel in kHz (R167). -/
def State.chanKhz (s : State) (t : Tl) (ch : Nat) : Nat := match t with
  | .a => (s.tc .a).band.ch0 + ch * (s.tc .a).band.spacing
  | .b => 2405000 + 5000 * (ch - 11)

/-- The sub-band of a frequency: the first that contains it. -/
def State.subBand (s : State) (khz : Nat) : Option Nat :=
  s.hrt.cfg.ledger.findIdx? (fun b => decide (b.lo ≤ khz) && decide (khz ≤ b.hi))

/-- A sub-band's settings. -/
def State.sb (s : State) (i : Nat) : SubBand := nth s.hrt.cfg.ledger i ⟨0, 0, false, 0, 0⟩

/-- The airtime used in a sub-band's window, in µs. -/
def State.ledgerUsed (s : State) (i : Nat) : Nat := (nth s.hrt.ledger i []).foldl (fun a r => a + r.1 * r.2) 0

/-- Every bucket of a limited sub-band filled with limit / 3,600 (R132), in whole µs rounded down (log 40, DESIGN CHOICE: the rule gives no
rounding, and the sum falls short of the limit by less than 3.6 ms); runs of (buckets, µs), oldest first. -/
def SubBand.full (b : SubBand) : List (Nat × Nat) := [(3600, b.limit * 1000 / 3600)]

/-- Hearth's start fills the ledger (R132). -/
def State.ledgerStart (s : State) : State := s.mHrt (fun h => { h with ledger := h.cfg.ledger.map SubBand.full })

/-- A configuration commit changes the sub-bands: the i-th of the new list goes on with the buckets of the old list's i-th, and one that the old list
did not have begins as at Hearth's start (log 40, DESIGN CHOICE: the manual does not say what becomes of the buckets). -/
def State.ledgerResize (s : State) : State :=
  s.mHrt (fun h => { h with ledger := h.cfg.ledger.mapIdx (fun i b => nth h.ledger i b.full) })

/-- A second: the oldest bucket leaves the window, an empty one enters (R130). -/
def ledgerShift (l : List (Nat × Nat)) : List (Nat × Nat) :=
  let l := match l with
    | (n, v) :: t => if n ≤ 1 then t else (n - 1, v) :: t
    | [] => []
  match l.reverse with
  | (n, 0) :: t => ((n + 1, 0) :: t).reverse
  | _ => l ++ [(1, 0)]

/-- Charge µs to the current bucket. -/
def ledgerCharge (l : List (Nat × Nat)) (us : Nat) : List (Nat × Nat) := match l.reverse with
  | (n, v) :: t => if n ≤ 1 then ((n, v + us) :: t).reverse else ((1, v + us) :: (n - 1, v) :: t).reverse
  | [] => [(1, us)]

/-- The ledger's decision (R131): `resp` for acknowledgements, gathered acknowledgements and open-poll responses. The reserve is rounded down to whole
µs (log 40, DESIGN CHOICE: the rule gives no rounding). -/
def State.ledgerOk (s : State) (t : Tl) (ch us : Nat) (resp : Bool) : Bool := match s.subBand (s.chanKhz t ch) with
  | none => true
  | some i =>
    let b := s.sb i
    let lim := 1000 * b.limit
    let room := if resp then lim else lim - lim * b.reserve / 10000
    b.limit == 0 || decide (s.ledgerUsed i + us ≤ room)

/-- An admitted transmission is charged (R131). -/
def State.ledgerAdd (s : State) (t : Tl) (ch us : Nat) : State := match s.subBand (s.chanKhz t ch) with
  | none => s
  | some i => s.mHrt (fun h => { h with ledger := modAt h.ledger i (fun l => ledgerCharge l us) })

/-- The sub-band requires listen-before-talk (R133). -/
def State.lbtBand (s : State) (t : Tl) (ch : Nat) : Bool := match s.subBand (s.chanKhz t ch) with
  | none => false
  | some i => (s.sb i).lbt

end Sys2Proof.Machine
end

