-- ==== Sys2Proof/Machine/Rsv.lean ====
section
/-! DEFINITION. Frame counters of key page 0: taking a counter, reservation records, and what a start, a failure and exhaustion do
(R232-R240). -/

namespace Sys2Proof.Machine

/-- What taking a counter gives (R233). -/
inductive CtrOut where
  | ok (ctr : Nat)
  | wait
  | exhausted
  deriving DecidableEq, Repr

/-- Next counter of a slot. -/
def State.ctr (s : State) (k : Nat) : Nat := (s.rd (R.LCE_CTRs k)).toNat

/-- Durable ceiling of a slot. -/
def State.ceil (s : State) (k : Nat) : Nat := (s.rd (R.LCE_CEILs k)).toNat

/-- The active block of the reservation area: 20 or 21. -/
def State.rsvBlock (s : State) : Nat := 20 + s.fg F.LCE_RSV_STAT_BLOCK

/-- The other block. -/
def rsvOther (b : Nat) : Nat := 41 - b

/-- The KCV of a slot, 0 where it is not VALID. -/
def State.slotKcv (s : State) (k : Nat) : Word := if s.fb (F.VLT_PGn_SLOTs_VALID 0 k) then s.rd (R.VLT_PGn_KCVs 0 k) else 0

/-- The page of a reservation record (Table 7-4). -/
def State.rsvPage (s : State) (ceils : List Nat) : List Byte :=
  let body := leBytes 4 0x4B430001 ++ leBytes 4 ((s.rd R.LCE_RSV_SEQ).toNat + 1) ++
    (List.range 8).flatMap (fun k => leBytes 4 (s.slotKcv k).toNat ++ leBytes 4 (nth ceils k 0) ++
      leBytes 4 (b2n (s.rsv.exh.contains k)) ++ leBytes 4 0) ++ List.replicate 116 0xFF
  body ++ leBytes 4 (crc32 body)

/-- LCE_RSV_STAT shows the next free page of the active block. -/
def State.rsvShow (s : State) : State := s.fp F.LCE_RSV_STAT_PAGE (s.blk s.rsvBlock).ptr

/-- A flash command of the reservation area is queued or runs for a block's erase. -/
def State.rsvErasing (s : State) : Bool :=
  (s.flc.queue ++ (s.flc.running.toList.map FlashStep.cmd) ++ (s.flc.suspended.toList.map FlashStep.cmd)).any
    (fun c => c.req == reqHearth && c.tag == 2)

/-- Ask for the other block's erase once the active block's next free page is 224 or above (R235). -/
def State.rsvAskErase (s : State) : State :=
  let o := rsvOther s.rsvBlock
  if 224 ≤ (s.blk s.rsvBlock).ptr ∧ (s.blk o).erased = false ∧ s.rsvErasing = false then s.flcEnqueue reqHearth (.erase o) false 2 else s

/-- Put the record's program into the flash queue, urgent; a full active block gives way to the other once that is ERASED (R235). -/
def State.rsvProgram (s : State) : State := match s.rsv.writing with
  | none => s
  | some ceils =>
    if s.rsv.queued then s
    else
      let full := decide (256 ≤ (s.blk s.rsvBlock).ptr)
      let o := rsvOther s.rsvBlock
      if full && !(s.blk o).erased then s.rsvAskErase
      else
        let b := if full then o else s.rsvBlock
        let s := (s.fp F.LCE_RSV_STAT_BLOCK (b - 20)).rsvAskErase
        (s.mRsv (fun r => { r with queued := true })).flcEnqueue reqHearth
          (.program (blockAddr b + 0x100 * (s.blk b).ptr) (s.rsvPage ceils)) true 1

/-- write_record (R233): raise the ceilings of some slots by 65,536, never above 0xFFFF_0000, where a slot is exhausted (R239); a request while another record is pending waits for it. -/
def State.rsvWrite (s : State) (slots : List Nat) : State :=
  if s.rsv.writing.isSome then s.mRsv (fun r => { r with wants := r.wants ++ slots.filter (fun k => !r.wants.contains k) })
  else
    let ceils := (List.range 8).map (fun k => if slots.contains k then max (s.ceil k) (min 0xFFFF0000 (s.ceil k + 65536)) else s.ceil k)
    ((s.mRsv (fun r => { r with writing := some ceils })).fset F.LCE_RSV_STAT_PENDING).rsvProgram

/-- A slot reaches 0xFFFF_0000 (R239). -/
def State.ctrExhausted (s : State) (k : Nat) : State :=
  if s.rsv.exh.contains k then s
  else ((s.mRsv (fun r => { r with exh := r.exh ++ [k] })).fset F.HRT_EVT_KEY_EXH).ash3 0x0019 (w32 k) 0 0

/-- Since when each counter has stood at its ceiling (R240): one that reaches it is noted, one below it again no longer is. -/
def State.rsvMark (s : State) : State :=
  let full := fun k => s.ceil k ≤ s.ctr k ∧ s.ctr k < 0xFFFF0000
  let kept := s.rsv.stuckAt.filter (fun p => decide (full p.1))
  let new := (List.range 8).filter (fun k => decide (full k) && !kept.any (fun p => p.1 == k))
  s.mRsv (fun r => { r with stuckAt := kept ++ new.map (fun k => (k, s.rtc.ember)) })

/-- take_counter (R233). -/
def State.takeCounter (s : State) (k : Nat) : CtrOut × State :=
  let c := s.ctr k
  let e := s.ceil k
  if 0xFFFF0000 ≤ c then (.exhausted, s)
  else if e ≤ c then (.wait, s)
  else
    let s := if e - c ≤ 8192 ∧ e < 0xFFFF0000 ∧ s.rsv.writing = none then s.rsvWrite [k] else s
    let s := (s.wr (R.LCE_CTRs k) (w32 (c + 1))).rsvMark
    (.ok c, if c + 1 = 0xFFFF0000 then s.ctrExhausted k else s)

/-- The failed state of R240 for some slots. -/
def State.rsvFail (s : State) (slots : List Nat) : State :=
  let s := ((s.fset F.HRT_EVT_CTR_RSV).fset F.LCE_RSV_STAT_FAILED).mRsv (fun r => { r with failed := r.failed ++ slots.filter (fun k => !r.failed.contains k) })
  s.forEach slots (fun s k => s.ash3 0x0018 (w32 k) 0 0)

/-- A slot's ceiling first exceeds 0xF000_0000: CTR_RSV once (R239). -/
def State.rsvWarn (s : State) : State :=
  s.forEach (List.range 8) (fun s k =>
    if 0xF0000000 < s.ceil k ∧ s.rsv.warned.contains k = false then
      (s.mRsv (fun r => { r with warned := r.warned ++ [k] })).fset F.HRT_EVT_CTR_RSV
    else s)

/-- A record's program, or the area's erase, ended (R235, R236, R240). -/
def State.rsvFlashEnd (s : State) (c : FlashCmd) (code : Nat) : State :=
  if c.tag = 2 then s.rsvShow.rsvProgram
  else if c.tag ≠ 1 then s
  else match s.rsv.writing with
    | none => s
    | some ceils =>
      let s := (s.mRsv (fun r => { r with queued := false })).rsvShow.rsvAskErase
      if code = 0 then
        let s := s.forEach (List.range 8) (fun s k => s.wr (R.LCE_CEILs k) (w32 (nth ceils k 0)))
        let s := ((s.wr R.LCE_RSV_SEQ (s.rd R.LCE_RSV_SEQ + 1)).fsat F.LCE_RSV_STAT_RECS).fclr F.LCE_RSV_STAT_PENDING
        let w := s.rsv.wants
        let s := ((s.mRsv (fun r => { r with writing := none, wants := [], failed := [] })).fclr F.LCE_RSV_STAT_FAILED).rsvMark.rsvWarn
        if w.isEmpty then s else s.rsvWrite w
      else s.rsvFail ((List.range 8).filter (fun k => nth ceils k 0 != s.ceil k))

/-- A LOAD into a page 0 slot that changed its KCV (R238). Under its new key the slot is nobody's earlier slot (R150), and a record that is being
written, which was made under the old key, gives the slot no ceiling: a record of its own follows. -/
def State.rsvRekey (s : State) (k : Nat) : State :=
  let s := (s.wr (R.LCE_CTRs k) 0).wr (R.LCE_CEILs k) 0
  let s := s.mHrt (fun h => { h with oldKeys := h.oldKeys.filter (fun x => x.2 != k) })
  let s := s.mRsv (fun r => { r with exh := r.exh.filter (fun x => x != k), warned := r.warned.filter (fun x => x != k)
                                     stuckAt := r.stuckAt.filter (fun p => p.1 != k), writing := r.writing.map (fun l => l.set k 0) })
  s.rsvMark.rsvWrite [k]

/-- A valid record's page in the area: sequence number and address (R236). A torn page holds none (R237). Of a SUSPECT block every page is read
(R337): mark and CRC alone judge a record. -/
def State.rsvRecords (s : State) : List (Nat × Nat) :=
  [20, 21].flatMap (fun b => (List.range (if (s.blk b).suspect then 256 else (s.blk b).ptr)).filterMap (fun p =>
    let a := blockAddr b + 0x100 * p
    if s.flc.torn.contains (pageOf a) then none
    else if s.ld a 4 = 0x4B430001 ∧ s.ld (a + 0xFC) 4 = crc32 (s.bytes a 0xFC) then some (s.ld (a + 4) 4, a) else none))

/-- Step 4 of Table 2-3: counters and ceilings from the latest record (R236, R237), then a new record that raises every ceiling. A slot whose
ceiling lay above 0xF000_0000 before the start has had its warning (R239: once per slot). -/
def State.rsvStart (s : State) : State :=
  let best := s.rsvRecords.foldl (fun (b : Option (Nat × Nat)) r => match b with
    | none => some r
    | some x => if x.1 < r.1 then some r else some x) none
  let s := s.mRsv (fun _ => ⟨[], [], none, false, [], [], []⟩)
  let s := (s.fclr F.LCE_RSV_STAT_RECS).fclr F.LCE_RSV_STAT_PENDING |>.fclr F.LCE_RSV_STAT_FAILED
  let s := match best with
    | some (sq, a) =>
      let s := (s.wr R.LCE_RSV_SEQ (w32 sq)).fp F.LCE_RSV_STAT_BLOCK (if a < blockAddr 21 then 0 else 1)
      s.forEach (List.range 8) (fun s k =>
        let same := s.fb (F.VLT_PGn_SLOTs_VALID 0 k) && decide (s.lw (a + 8 + 16 * k) = s.slotKcv k) && decide (s.slotKcv k ≠ 0)
        let c := if same then s.ld (a + 0x0C + 16 * k) 4 else 0
        let s := (s.wr (R.LCE_CTRs k) (w32 c)).wr (R.LCE_CEILs k) (w32 c)
        let s := if 0xF0000000 < c then s.mRsv (fun r => { r with warned := r.warned ++ [k] }) else s
        if same && s.ld (a + 0x10 + 16 * k) 4 % 2 == 1 then
          (s.mRsv (fun r => { r with exh := r.exh ++ [k] })).wr (R.LCE_CTRs k) (w32 (max c 0xFFFF0000))
        else if 0xFFFF0000 ≤ c then s.ctrExhausted k
        else s)
    | none =>
      let s := s.forEach (List.range 8) (fun s k => (s.wr (R.LCE_CTRs k) 0).wr (R.LCE_CEILs k) 0)
      if (s.blk 20).erased && (s.blk 21).erased then s
      else
        let s := ((s.fset F.LCE_RSV_STAT_AREA_LOST).fset F.HRT_EVT_CTR_RSV).ash3 0x0017 0 0 0
        s.forEach ((List.range 8).filter (fun k => s.fb (F.VLT_PGn_SLOTs_VALID 0 k)))
          (fun s k => (s.wr (R.LCE_CTRs k) 0xFFFF0000).ctrExhausted k)
  (s.rsvShow.rsvMark.rsvWrite (List.range 8)).rsvWarn

end Sys2Proof.Machine
end

