-- ==== Sys2Proof/Machine/Schedule.lean ====
section
/-! DEFINITION. The schedule: the staging list, its range check and its application, and the choice of the cell and descriptor a slot
runs (R92-R97, R112-R114, R119). -/

namespace Sys2Proof.Machine

/-! ## The staging list (R112, R113) -/

/-- HRT_SCH_STAT shows the number of edits. -/
def State.editsShow (s : State) : State := s.fp F.HRT_SCH_STAT_EDITS s.hrt.edits.length

/-- The staging list is emptied. -/
def State.editsClear (s : State) : State := (s.mHrt (fun h => { h with edits := [] })).editsShow

/-- Append an edit; a 65th is ignored and sets WERR (R112). -/
def State.editAdd (s : State) (e : SchEdit) : State :=
  if 64 ≤ s.hrt.edits.length then s.fset SetId.schedule.werr
  else ((s.mHrt (fun h => { h with edits := h.edits ++ [e] })).editsShow).fp F.HRT_SCH_STAT_ERRPOS 0

/-- A slotframe's length after the edits of a list. -/
def State.sfAfter (s : State) (l : List SchEdit) (t k : Nat) : Nat :=
  l.foldl (fun r e => match e with
    | .sf t' k' n => if t' = t ∧ k' = k then n else r
    | _ => r) (s.sfLen (Tl.ofBit t) k)

/-- A cell's entry after the edits of a list. -/
def State.cellAfter (s : State) (l : List SchEdit) (i : Nat) : Nat :=
  l.foldl (fun r e => match e with
    | .cell j v => if j = i then v else r
    | _ => r) (s.cell i)

/-- The last position + 1 of an edit that satisfies `p`; 0 where none does. -/
def lastEdit (l : List SchEdit) (p : SchEdit → Bool) : Nat :=
  (l.mapIdx (fun i e => (i, e))).foldl (fun r x => if p x.2 then x.1 + 1 else r) 0

/-- An edit that fails by itself (R113, first three conditions). -/
def State.editBad (s : State) : SchEdit → Bool
  | .sf t _ _ => t == 1 && !s.tlThere .b
  | .cell _ e => (cTl e == 1 && !s.tlThere .b) || (cV e && cellBad (s.tc (Tl.ofBit (cTl e))).band.modes e)

/-- Cells whose span the resulting schedule cannot hold: those edited, and those of a slotframe edited. -/
def State.spanErrors (s : State) (l : List SchEdit) : List Nat :=
  let touched : List Nat := l.flatMap (fun e => match e with
    | .cell i _ => [i]
    | .sf t k _ => ((s.cellsOf (Tl.ofBit t)).filter (fun p => cSf p.2 == k)).map (·.1))
  touched.filterMap (fun i =>
    let e := s.cellAfter l i
    let n := s.sfAfter l (cTl e) (cSf e)
    if cV e && n != 0 && decide (n < cBond e + 1) then
      let a := lastEdit l (fun x => match x with
        | .cell j _ => j == i
        | _ => false)
      let b := lastEdit l (fun x => match x with
        | .sf t k _ => t == cTl e && k == cSf e
        | _ => false)
      if max a b = 0 then none else some (max a b)
    else none)

/-- The lowest position + 1 among the failing edits; 0 where none fails (R113). -/
def State.schFirstError (s : State) : Nat :=
  let l := s.hrt.edits
  let own := (l.mapIdx (fun i e => (i, e))).filterMap (fun x => if s.editBad x.2 then some (x.1 + 1) else none)
  (lowest (own ++ s.spanErrors l)).getD 0

/-- GO on the schedule set. -/
def State.scheduleGo (s : State) : State :=
  let e := s.schFirstError
  let r := s.stgCheck .schedule (e == 0)
  let s := if r = 3 then s.fp F.HRT_SCH_STAT_ERRPOS e else s
  let s := s.stgArm .schedule r
  if r = 0 then s.mHrt (fun h => { h with schGo := true }) else s.editsClear

/-- A cell's entry as the table holds it: its reserved bits read zero (R8, R93), and a cell that is not valid leaves nothing. -/
def cellStore (e : Nat) : Nat := if cV e then e / 32 * 32 else 0

/-- The cell-table entries that edits change, the later edit of an index counting (R112). -/
def cellEdits (l : List SchEdit) : List (Nat × Nat) :=
  l.foldl (fun r e => match e with
    | .cell i v => alSet r i (cellStore v)
    | _ => r) []

/-- A slotframe edit applied to the active lengths. -/
def State.sfApply (s : State) : SchEdit → State
  | .cell _ _ => s
  | .sf 0 k n => s.fp (F.HRT_SF_As_LEN k) n
  | .sf _ k n => s.fp (F.HRT_SF_Bs_LEN k) n

/-! ## RMAX (R206) -/

/-- The units a cell needs. -/
def State.cellUnits (s : State) (e : Nat) : Nat :=
  let n := phyUnits ((s.tc (Tl.ofBit (cTl e))).mode (cPhy e)).code
  if [actRx, actPoll, actTxRx, actAdv].contains (cAct e) then n
  else if cAct e = actGatherRx then (cLane e + 1) * n
  else 0

/-- RMAX of a timeline: the largest need of any cell active in the stoked profile in an enabled slotframe. -/
def State.rmaxShow (s : State) (t : Tl) : State :=
  s.fp (t.f F.RFA_FBL_UNITS_RMAX) (((s.cellsOf t).filter (fun p => cStk p.2 && s.sfLen t (cSf p.2) != 0)).foldl
    (fun m p => max m (s.cellUnits p.2)) 0)

/-- The schedule becomes active: lengths, and the cells that Hearth arms from; the table in link RAM is rewritten after that (R114). -/
def State.scheduleApply (s : State) : State :=
  let s := s.forEach s.hrt.edits (fun s e => s.sfApply e)
  let s := (s.rewriteBegin (cellEdits s.hrt.edits)).editsClear
  (s.rmaxShow .a).rmaxShow .b

/-! ## Which cell a slot runs (R92, R94) -/

/-- A descriptor's PSDU length with MIC and FCS. -/
def State.psduLen (s : State) (q i : Nat) : Nat :=
  let fcs := if s.descTl q i = .a then s.hrt.cfg.fcs else 2
  s.mg (D.LEN q i) + descMic (s.mb (D.SEC q i)) (s.mg (D.SECLVL q i)) + fcs

/-- A descriptor's frame requests an acknowledgement. -/
def State.wantsAck (s : State) (q i : Nat) : Bool :=
  !s.mb (D.BCAST q i) && (s.rb (bufAddr (s.mg (D.BUF q i)) + 64)).getLsbD 5

/-- A frame that begins `at` µs after slot start fits a span of `slots` (R96). -/
def State.fitsFrom (s : State) (t : Tl) (m : ModeEntry) (start : Int) (n : Nat) (ack : Bool) (slots : Nat) : Bool :=
  let p := (s.tc t).tmpl
  decide (start + airtime m n + 200 + (if ack then p.txAck + ackAirtime m else 0 : Nat) ≤ slots * p.len)

/-- A scheduled frame fits a span of `slots` (R96). -/
def State.fitsSpan (s : State) (t : Tl) (m : ModeEntry) (n : Nat) (ack : Bool) (slots : Nat) : Bool :=
  s.fitsFrom t m (s.tc t).tmpl.txOff n ack slots

/-- The receive path of the profile runs full-band listening (R194, R195). -/
def State.fblRuns (s : State) (t : Tl) : Bool :=
  s.fb (t.f F.RFA_FBL_CFG_EN) && s.stoked t && !s.fb (t.f F.RFA_FBL_CFG_DRAIN) && s.fg (t.f F.RFA_STAT_STATE) != 11

/-- A power target of a mode entry in 0.25 dB for the profile in force (R181). -/
def State.targetOf (s : State) (t : Tl) (m : ModeEntry) : Int := if s.stoked t then m.stoked else m.keep

/-- The high-power path exists at a frequency (R180). -/
def hpBand (khz : Nat) : Bool := (decide (860000 ≤ khz) && decide (khz ≤ 930000)) || (decide (410000 ≤ khz) && decide (khz ≤ 510000))

/-- A Radio A transmission would select the high-power path outside INTERIM (R181). -/
def State.wouldHp (s : State) (t : Tl) (ch : Nat) (m : ModeEntry) : Bool :=
  t == .a && s.stoked .a && hpBand (s.chanKhz .a ch) && decide (40 ≤ m.stoked)

/-- A data frame, keep-alive or beacon may start as far as INTERIM goes (R128, R181). -/
def State.interimOk (s : State) (t : Tl) (ch : Nat) (m : ModeEntry) : Bool :=
  !(s.fb F.HRT_PROF_INTERIM && s.wouldHp t ch m)

/-- The exclusion list a sender uses for a cell: its neighbour's (R98). -/
def State.txExcl (s : State) (e : Nat) : List Nat := if cBc e then [] else s.nbrExcl (cNbr e)

/-- The channel of a cell in a slot. -/
def State.cellChan (s : State) (t : Tl) (e asn : Nat) (tx : Bool) : Nat :=
  chanOf (s.tc t).band.hop (if tx then s.txExcl e else (s.tlx t).excl) asn (cChoff e) (cBc e)

/-- A descriptor is eligible for a cell in a slot (R95). -/
def State.eligible (s : State) (t : Tl) (e asn q i : Nat) : Bool :=
  let m := (s.tc t).mode (cPhy e)
  let ack := s.wantsAck q i
  let dest := cBc e || (!s.mb (D.BCAST q i) && s.mg (D.NBR q i) == cNbr e)
  let fits := if cAct e = actGatherTx then decide (airtime m (s.psduLen q i) ≤ (s.tc t).tmpl.gather) && ack && s.hrt.cfg.short != 0xFFFE &&
      decide (cLane e < (lanesOf (s.tc t).band.hop (s.txExcl e) asn (cChoff e) 8).length)
    else s.fitsSpan t m (s.psduLen q i) ack (cBond e + 1)
  dest && fits && (!cShr e || (s.dx q i).wait == 0) && s.interimOk t (s.cellChan t e asn true) m

/-- The descriptor a cell sends: PRIO first, then the lowest queue, then the oldest (R95), then a forwarded Pilot frame (R383). -/
def State.cellDesc (s : State) (t : Tl) (e asn : Nat) : Option (Nat × Nat) :=
  let qs := (List.range 16).filter (fun q => s.fb (F.HRT_Qn_CFG_EN q) && s.qTl q == t && !s.fb (F.HRT_Qn_CFG_IMM q))
  let l := qs.flatMap (fun q => ((s.queued q).filter (fun i => s.eligible t e asn q i)).map (fun i => (q, i)))
  match l.find? (fun p => s.mb (D.PRIO p.1 p.2)) with
  | some p => some p
  | none => match l.head? with
    | some p => some p
    | none => (((s.queued fwdQ).filter (fun i => s.descTl fwdQ i == t && s.eligible t e asn fwdQ i)).map (fun i => (fwdQ, i))).head?

/-- A cell is active: its profile bit, a dedicated cell's neighbour not LOST_SYNC, gathering as the profile and the peer allow (R94,
R105, R126, R128, R195, R315). -/
def State.cellActive (s : State) (t : Tl) (e : Nat) : Bool :=
  (if s.stoked t then cStk e else cKw e) &&
  (cBc e || !s.mb (N.LS (cNbr e))) &&
  (if cAct e = actGatherRx then s.fblRuns t && !s.optFail && !s.fb F.HRT_PROF_INTERIM
   else if cAct e = actGatherTx then s.stoked t && !s.fb F.HRT_PROF_INTERIM && s.mb (N.STK (cNbr e)) && s.mb (N.GATH (cNbr e))
   else true)

/-- A cell matches a slot (R92). -/
def State.cellMatches (s : State) (t : Tl) (e asn : Nat) : Bool :=
  let l := s.sfLen t (cSf e)
  l != 0 && decide (cSlot e < l) && asn % l == cSlot e

/-- Insert a cell by slotframe, then index. -/
def cellInsert (p : Nat × Nat) : List (Nat × Nat) → List (Nat × Nat)
  | [] => [p]
  | x :: t => if cSf p.2 < cSf x.2 ∨ (cSf p.2 = cSf x.2 ∧ p.1 < x.1) then p :: x :: t else x :: cellInsert p t

/-- The matching active cells of a slot in the order of R94. -/
def State.slotCells (s : State) (t : Tl) (asn : Nat) : List (Nat × Nat) :=
  ((s.cellsOf t).filter (fun p => s.cellMatches t p.2 asn && s.cellActive t p.2)).foldl (fun l p => cellInsert p l) []

/-- A cell carries a keep-alive where no descriptor is eligible: a dedicated timekeeping cell of a transmitting side (R121). -/
def keepsAlive (e : Nat) : Bool := cTk e && !cBc e && (cAct e == actTx || cAct e == actGatherTx)

/-- The parent that an empty poll goes to in a cell: the child must poll again (R123, R125), and the cell is its side of a POLL cell, a shared TX
cell (log 45, DEDUCED). -/
def State.pollCell (s : State) (t : Tl) (e : Nat) : Option Nat :=
  (s.tlx t).pollNext.filter (fun p => cAct e == actTx && cShr e && (cBc e || cNbr e == p) && s.mb (N.V p))

/-- A cell has work (R94). -/
def State.cellWork (s : State) (t : Tl) (e asn : Nat) : Bool :=
  if cAct e = actTx ∨ cAct e = actGatherTx then (s.cellDesc t e asn).isSome || keepsAlive e || (s.pollCell t e).isSome else true

/-- The cell a slot runs (R94). -/
def State.slotCell (s : State) (t : Tl) (asn : Nat) : Option (Nat × Nat) :=
  (s.slotCells t asn).find? (fun p => s.cellWork t p.2 asn)

/-- A beacon is due (R109). -/
def State.beaconDue (s : State) (t : Tl) : Bool := match (s.tlx t).lastBcn with
  | none => true
  | some e => decide ((s.tc t).link.period ≤ s.since e)

/-- Descriptors that wait out a backoff count the shared cell that passes (R97). -/
def State.backoffTick (s : State) (t : Tl) (asn : Nat) : State :=
  s.forEach ((s.slotCells t asn).filter (fun p => cShr p.2 && (cAct p.2 == actTx || cAct p.2 == actTxRx))) (fun s p =>
    s.forEach (s.hrt.desc.filter (fun d => 0 < d.2.wait && s.descTl d.1.1 d.1.2 == t &&
        (cBc p.2 || s.mg (D.NBR d.1.1 d.1.2) == cNbr p.2)))
      (fun s d => s.mDx d.1.1 d.1.2 (fun x => { x with wait := x.wait - 1 })))

/-- A calibration item of the radio is stale (R176). -/
def State.anyStale (s : State) (t : Tl) : Bool := (List.range 5).any (fun i => s.fb (t.f (F.RFA_CALi_STALE i)))

/-- The ADV cells known of a timeline's time source (R496). -/
def State.tsAdvs (s : State) (t : Tl) : List AdvCell := ((s.tsNow t).bind (alGet s.hrt.advs)).getD []

/-- The time source's ADV cell of a slot (R119, R496). -/
def State.advHere (s : State) (t : Tl) (asn : Nat) : Option AdvCell :=
  (s.tsAdvs t).find? (fun a => a.len != 0 && asn % a.len == a.slot)

/-- Resynchronisation uses open polls: the time source last advertised PROFILE 1 and OPEN_POLL 1 (R119), and two in a row have not gone
unanswered (R125). -/
def State.tsOpen (s : State) (t : Tl) : Bool :=
  (s.tsNow t).any (fun n => s.mb (N.STK n) && s.mb (N.OPENP n)) && decide ((s.tlx t).openMiss < 2)

/-- The cell listens in its slot. -/
def armReceives (a : Arm) (e : Nat) : Bool :=
  [actRx, actPoll, actGatherRx].contains (cAct e) || (cAct e == actTxRx && a.desc.isNone) || (cAct e == actAdv && !a.beacon)

/-- The neighbours of the timekeeping cells of a slot with BC = 0, but for the cell at an index: where a slot runs another cell or none, each of
them counts a miss (R121). -/
def State.tkOthers (s : State) (t : Tl) (asn : Nat) (i : Option Nat) : List Nat :=
  ((s.slotCells t asn).filter (fun p => cTk p.2 && !cBc p.2 && i != some p.1)).map (fun p => cNbr p.2)

/-- The arm record of a slot (R80): `cal` says that no idle gap is left for a stale item, so that it takes the slot (R178). -/
def State.makeArm (s : State) (t : Tl) (asn : Nat) (inTime cal : Bool) : Arm :=
  let base : Arm := ⟨inTime, none, none, none, 0xFF, [], false, false, false, cal && s.anyStale t, false, 0, s.tkOthers t asn none, none⟩
  let resync := (s.tlx t).resync.isSome && !s.tsOpen t && (s.advHere t asn).isSome
  if resync then { base with listen := true, guard := (s.tc t).tmpl.len }
  else match s.slotCell t asn with
    | none => base
    | some (i, e) =>
      let skip := !cBcRx e && cAct e != actPoll && s.guardFails t (cNbr e)
      let tx := cAct e == actTx || cAct e == actTxRx || cAct e == actGatherTx
      let d := if tx && !skip then s.cellDesc t e asn else none
      let bcn := cAct e == actAdv && s.beaconDue t && s.interimOk t (s.cellChan t e asn true) ((s.tc t).mode (s.tc t).band.beaconMode)
      let poll := if d.isNone && !skip then s.pollCell t e else none
      let a := { base with
        cell := some e, tk := if cTk e && !cBc e then some (cNbr e) else none, desc := d, beacon := bcn, skip := skip
        ka := keepsAlive e && d.isNone && poll.isNone && !skip, others := s.tkOthers t asn (some i), poll := poll }
      { a with guard := if armReceives a e then s.cellGuard t i e else 0 }

end Sys2Proof.Machine
end

