-- ==== Sys2Proof/Machine/Frames.lean ====
section
/-! DEFINITION. Frames that Hearth builds and protects: acknowledgements, gathered acknowledgements, keep-alives, beacons and secured
descriptors (R66, R103, R107, R109, R121, R227-R230, R495; Tables 3-7 to 3-9, 7-2). Formats the manual leaves to IEEE 802.15.4-2020: log 42, PRESUMED. -/

namespace Sys2Proof.Machine

/-- CCM* of a frame's header and payload at a level: the payload as sent and the MIC (R227). -/
def frameSeal (key non hdr pay : List Byte) (lvl : Nat) : List Byte × List Byte :=
  if lvlEnc lvl then ccmSeal key non hdr pay (micLen lvl) true
  else (pay, (ccmSeal key non (hdr ++ pay) [] (micLen lvl) false).2)

/-- Open a received frame: the payload in clear, and whether the MIC is right. -/
def frameOpen (key non hdr pay mic : List Byte) (lvl : Nat) : List Byte × Bool :=
  if lvlEnc lvl then ccmOpen key non hdr pay mic true
  else (pay, (ccmOpen key non (hdr ++ pay) [] mic false).2)

/-- A page 0 slot's active key. -/
def State.key0 (s : State) (k : Nat) : List Byte := (s.key 0 k).active

/-- A page 0 slot holds an active key. -/
def State.key0Ok (s : State) (k : Nat) : Bool := s.fb (F.VLT_PGn_SLOTs_VALID 0 k)

/-- An auxiliary security header under a page 0 slot (R229). -/
def State.auxHdr (s : State) (k lvl ctr : Nat) : List Byte :=
  let mode := (s.key 0 k).mode
  leBytes 1 (lvl + 8 * mode) ++ leBytes 4 ctr ++ (if mode = 1 then leBytes 1 (s.fg (F.VLT_PGn_SLOTs_KEYIDX 0 k)) else [])

/-- Octets of a header IE. -/
def hdrIe (id : Nat) (c : List Byte) : List Byte := leBytes 2 (c.length + id * 128) ++ c

/-- Octets of a payload IE. -/
def payIe (group : Nat) (c : List Byte) : List Byte := leBytes 2 (c.length + group * 2048 + 32768) ++ c

/-- Octets of a nested IE in its short form. -/
def subIe (id : Nat) (c : List Byte) : List Byte := leBytes 2 (c.length + id * 256) ++ c

/-- Octets of a nested IE in its long form. -/
def subIeLong (id : Nat) (c : List Byte) : List Byte := leBytes 2 (c.length + id * 2048 + 32768) ++ c

/-- The OUI, bits [23:16] first (R495). -/
def State.ouiBytes (s : State) : List Byte := beBytes 3 s.oui

/-- A frame control field of version 0b10. -/
def fcf (ty : Nat) (sec pend ar comp sup ie : Bool) (dm sm : Nat) : List Byte :=
  leBytes 2 (ty + 8 * b2n sec + 16 * b2n pend + 32 * b2n ar + 64 * b2n comp + 256 * b2n sup + 512 * b2n ie + 1024 * dm + 0x2000 + 16384 * sm)

/-- A time correction's 12 bits (R103). -/
def corrField (c : Int) : Nat := unsigned 12 (clampI (-2047) 2047 c)

/-- Protect a header and payload under a page 0 slot with a counter; unchanged at level 0. -/
def State.protect (s : State) (hdr pay : List Byte) (k lvl ctr : Nat) : List Byte :=
  if lvl = 0 then hdr ++ pay
  else let r := frameSeal (s.key0 k) (nonce s.ownExt ctr lvl) hdr pay lvl; hdr ++ r.1 ++ r.2

/-- An Enhanced Acknowledgement to a frame (R103): its sequence number unless suppressed, a Time Correction IE, secured as the frame
was. -/
def State.ackFrame (s : State) (m : Mhr) (k : Nat) (ctr : Nat) (pend : Bool) (corr : Int) : List Byte :=
  let lvl := if m.sec then m.level else 0
  let hdr := fcf 2 m.sec pend false false m.seqSup true 0 0 ++ (if m.seqSup then [] else leBytes 1 m.seq) ++
    (if m.sec then s.auxHdr k lvl ctr else []) ++ hdrIe 0x1E (leBytes 2 (corrField corr))
  s.protect hdr [] k lvl ctr

/-- The entries of a gathered acknowledgement in lane order (Table 3-7), at most one a lane. -/
def laneOrder (l : List GatherEntry) : List GatherEntry := (List.range 8).filterMap (fun k => l.find? (fun e => e.lane == k))

/-- A gathered acknowledgement (R107, Table 3-7). -/
def State.gackFrame (s : State) (l : List GatherEntry) (k ctr : Nat) : List Byte :=
  let l := laneOrder l
  let ent := l.flatMap (fun e => leBytes 2 e.short ++ leBytes 1 e.seq ++ leBytes 1 (2 * e.lane + b2n e.pend) ++ leBytes 2 (corrField e.corr))
  let ie := hdrIe 0 (s.ouiBytes ++ leBytes 1 1 ++ leBytes 1 l.length ++ ent)
  let hdr := fcf 2 true false false true true true 2 2 ++ leBytes 2 s.hrt.cfg.pan ++ leBytes 2 0xFFFF ++ leBytes 2 s.hrt.cfg.short ++
    s.auxHdr k 1 ctr ++ ie
  s.protect hdr [] k 1 ctr

/-- An empty data frame to a neighbour that requests an acknowledgement: a keep-alive or an open poll (R119, R121). -/
def State.emptyFrame (s : State) (n seq : Nat) : List Byte :=
  fcf 1 false false true false false false 3 3 ++ leBytes 1 seq ++ leBytes 2 s.hrt.cfg.pan ++ leBytes 8 (s.nbrExt n) ++ leBytes 8 s.ownExt

/-- The TSCH Timeslot IE of Table 3-8. -/
def State.timeslotIe (s : State) (t : Tl) : List Byte :=
  let p := (s.tc t).tmpl
  if p.id ≠ 0xFF then subIe 0x1C (leBytes 1 p.id)
  else subIe 0x1C (leBytes 1 0 ++ leBytes 2 p.ccaOff ++ leBytes 2 p.cca ++ leBytes 2 p.txOff ++ leBytes 2 (p.txOff - p.guardMax / 2) ++
    leBytes 2 p.rxAck ++ leBytes 2 p.txAck ++ leBytes 2 p.guardMax ++ leBytes 2 p.ackWait ++ leBytes 2 0 ++ leBytes 2 0 ++ leBytes 3 0 ++
    leBytes 3 p.len)

/-- The Channel Hopping IE of Table 3-8. -/
def State.hoppingIe (s : State) (t : Tl) : List Byte :=
  let b := (s.tc t).band
  if b.full then subIeLong 9 (leBytes 1 b.hopId ++ leBytes 1 0 ++ leBytes 2 b.hop.length ++ leBytes 4 0 ++ leBytes 2 b.hop.length ++
    b.hop.flatMap (leBytes 2) ++ leBytes 2 (s.asn t % max 1 b.hop.length))
  else subIeLong 9 (leBytes 1 b.hopId)

/-- The TSCH Slotframe and Link IE of Table 3-8: the slotframes that hold active ADV cells, with those cells. -/
def State.slotframeIe (s : State) (t : Tl) : List Byte :=
  let adv := (s.cellsOf t).filter (fun p => cAct p.2 == actAdv && s.cellActive t p.2 && s.sfLen t (cSf p.2) != 0)
  let sfs := (List.range 8).filter (fun k => adv.any (fun p => cSf p.2 == k))
  if adv.isEmpty then []
  else subIe 0x1B (leBytes 1 sfs.length ++ sfs.flatMap (fun k =>
    let l := adv.filter (fun p => cSf p.2 == k)
    leBytes 1 k ++ leBytes 2 (s.sfLen t k) ++ leBytes 1 l.length ++ l.flatMap (fun p =>
      leBytes 2 (cSlot p.2) ++ leBytes 2 (cChoff p.2) ++ leBytes 1 (7 + 8 * b2n (cTk p.2)))))

/-- The node's 3σ to the root in µs (Table 3-9): that of its time source's model, and the one that the time source advertises, as independent errors
add (log 41, DEDUCED). It is 0 at a root, and saturates where either is not known. -/
def State.timeQuality (s : State) (t : Tl) : Nat := match s.tsNow t with
  | some n =>
    let own := 3 * s.sigNs n / 1000
    let up := (alGet s.hrt.tq n).getD 65535
    if s.hrt.cfg.root then 0 else if up = 65535 then 65535 else min 65535 (isqrt (own * own + up * up))
  | none => if s.hrt.cfg.root then 0 else 65535

/-- Gathering receive is advertised (R126, R195). -/
def State.advGather (s : State) (t : Tl) : Bool := t == .a && (s.tc t).link.gather && s.fblRuns t

/-- Open polls are advertised and accepted while full-band listening runs (R124, R126, R195), so that they end with it at a boundary (R128). -/
def State.advOpenPoll (s : State) (t : Tl) : Bool := (s.tc t).link.openPoll && s.fblRuns t

/-- The link-state IE (Table 3-9). -/
def State.linkStateIe (s : State) (t : Tl) : List Byte :=
  let x := s.tlx t
  let ver := s.exclVer t
  let flags := b2n (s.stoked t) + 2 * b2n (s.advOpenPoll t) + 4 * b2n (s.advGather t) + 8 * b2n x.exclNext.isSome
  let next := match x.exclNext with
    | some (l, eff) => leBytes 1 (ver + 1) ++ leBytes 5 eff ++ leBytes 1 l.length ++ l.flatMap (leBytes 1)
    | none => []
  payIe 2 (s.ouiBytes ++ leBytes 1 2 ++ leBytes 1 flags ++ leBytes 2 (s.timeQuality t) ++ leBytes 1 ver ++ leBytes 1 x.excl.length ++
    x.excl.flatMap (leBytes 1) ++ next)

/-- The node's join metric on a timeline (R159). -/
def State.joinMetric (s : State) (t : Tl) : Nat := s.fg (tsFld t).2.1

/-- An enhanced beacon (Table 3-8), secured under the beacon key where the image names one. -/
def State.beaconFrame (s : State) (t : Tl) (ctr : Nat) : List Byte :=
  let l := (s.tc t).link
  let lvl := if l.bcnKey.isSome then l.bcnLevel else 0
  let k := l.bcnKey.getD 0
  let hdr := fcf 0 (lvl != 0) false false false true true 0 3 ++ leBytes 2 s.hrt.cfg.pan ++ leBytes 8 s.ownExt ++
    (if lvl = 0 then [] else s.auxHdr k lvl ctr) ++ hdrIe 0x7E []
  let mlme := subIe 0x1A (leBytes 5 (s.asn t) ++ leBytes 1 (s.joinMetric t)) ++ s.timeslotIe t ++ s.hoppingIe t ++ s.slotframeIe t
  let pay := payIe 1 mlme ++ (if s.optFail then [] else s.linkStateIe t)
  s.protect hdr pay k lvl ctr

/-- A descriptor's frame area. -/
def State.descFrame (s : State) (q i : Nat) : List Byte := s.bytes (bufAddr (s.mg (D.BUF q i)) + 64) (s.mg (D.LEN q i))

/-- The octets a secured descriptor sends with its counter, and the state: the counter in the auxiliary header and the MIC above offset LEN
(R66). The auxiliary header on air is that of the slot named by KEY, with its key identifier mode and KEYIDX, and of SECLVL (R229); of the frame
area only the counter and the MIC change (R66; log 42, DEDUCED: the two rules meet so where an owner has written another header). -/
def State.descSecure (s : State) (q i ctr : Nat) : List Byte × State :=
  let k := s.mg (D.KEY q i)
  let lvl := s.mg (D.SECLVL q i)
  let f := s.descFrame q i
  let m := parseMhr f
  let c0 := m.addrEnd + 1
  let o := f.take m.addrEnd ++ s.auxHdr k lvl ctr ++ f.drop m.auxEnd
  let b := bufAddr (s.mg (D.BUF q i)) + 64
  let p := payOff (parseMhr o) o
  let r := frameSeal (s.key0 k) (nonce s.ownExt ctr lvl) (o.take p) (o.drop p) lvl
  let s := s.putBytes (b + c0) (leBytes 4 ctr)
  (o.take p ++ r.1 ++ r.2, s.putBytes (b + s.mg (D.LEN q i)) r.2)

/-! ## Received beacons (Tables 3-8, 3-9) -/

/-- Payload IEs: (group, content). -/
def payIes : Nat → List Byte → List (Nat × List Byte)
  | 0, _ => []
  | n + 1, o =>
    if o.length < 2 then []
    else
      let d := octs o 0 2
      let l := d % 2048
      let g := d / 2048 % 16
      if g = 15 then [] else (g, (o.drop 2).take l) :: payIes n (o.drop (2 + l))

/-- Nested IEs of an MLME IE: (long, sub-ID, content). -/
def subIes : Nat → List Byte → List (Bool × (Nat × List Byte))
  | 0, _ => []
  | n + 1, o =>
    if o.length < 2 then []
    else
      let d := octs o 0 2
      let long := decide (32768 ≤ d)
      let l := if long then d % 2048 else d % 256
      let id := if long then d / 2048 % 16 else d / 256 % 128
      (long, id, (o.drop 2).take l) :: subIes n (o.drop (2 + l))

/-- A nested IE of a beacon's payload. -/
def beaconSub (pay : List Byte) (id : Nat) : Option (List Byte) :=
  ((payIes 32 pay).filter (fun x => x.1 == 1)).flatMap (fun x => subIes 32 x.2) |>.find? (fun y => !y.1 && y.2.1 == id) |>.map (fun y => y.2.2)

/-- The ASN and join metric of a beacon's TSCH Synchronization IE. -/
def beaconSync (pay : List Byte) : Option (Nat × Nat) := (beaconSub pay 0x1A).map (fun c => (octs c 0 5, oct c 5))

/-- The links of one slotframe: (timeslot, channel offset). -/
def linksOf (c : List Byte) (i n : Nat) : List (Nat × Nat) := (List.range n).map (fun k => (octs c (i + 5 * k) 2, octs c (i + 5 * k + 2) 2))

/-- The ADV cells a Slotframe and Link IE advertises. -/
def advsOf : Nat → List Byte → List AdvCell
  | 0, _ => []
  | n + 1, c =>
    if c.length < 4 then []
    else
      let k := oct c 3
      (linksOf c 4 k).map (fun l => ⟨oct c 0, octs c 1 2, l.1, l.2⟩) ++ advsOf n (c.drop (4 + 5 * k))

/-- The link-state IE of a beacon's payload for an OUI: its content after the subtype. -/
def State.beaconLink (s : State) (pay : List Byte) : Option (List Byte) :=
  ((payIes 32 pay).filter (fun x => x.1 == 2)).find? (fun x => x.2.take 3 == s.ouiBytes && oct x.2 3 == 2) |>.map (fun x => x.2.drop 4)

/-- A list of octets as numbers. -/
def nums (l : List Byte) : List Nat := l.map BitVec.toNat

/-- Take a link-state IE into a neighbour's entry (R135, R140), with the time quality it advertises (Table 3-9). -/
def State.takeLinkState (s : State) (n : Nat) (c : List Byte) : State :=
  let f := oct c 0
  let k := oct c 4
  let next := if f / 8 % 2 = 1 then
      some (oct c (5 + k), octs c (6 + k) 5, nums ((c.drop (12 + k)).take (oct c (11 + k)))) else none
  let s := s.mHrt (fun h => { h with tq := alSet h.tq n (octs c 1 2) })
  let s := s.nbrWrite n (fun s => ((s.mp (N.STK n) (f % 2)).mp (N.OPENP n) (f / 2 % 2)).mp (N.GATH n) (f / 4 % 2))
  s.nbrLinkState n (oct c 3) (nums ((c.drop 5).take k)) next

end Sys2Proof.Machine
end

