-- ==== Sys2Proof/Machine/Radio.lean ====
section
/-! DEFINITION. The radios: their states, output power, calibration, full-band listening's units and outputs, the crystal's failure and
test mode (R166-R192, R194-R218). -/

namespace Sys2Proof.Machine

/-! ## States (Table 5-4, R171) -/

/-- Radio states of Table 5-4. -/
abbrev rOff : Nat := 0
/-- IDLE. -/
abbrev rIdle : Nat := 1
/-- LOCKING. -/
abbrev rLocking : Nat := 2
/-- READY. -/
abbrev rReady : Nat := 3
/-- RX_SC. -/
abbrev rRxSc : Nat := 4
/-- RX_FRAME. -/
abbrev rRxFrame : Nat := 5
/-- FBL. -/
abbrev rFbl : Nat := 6
/-- TX. -/
abbrev rTx : Nat := 8
/-- CAL. -/
abbrev rCal : Nat := 10
/-- CLKFAIL. -/
abbrev rClkFail : Nat := 11
/-- TEST. -/
abbrev rTest : Nat := 12

/-- A radio's STATE. -/
def State.radioState (s : State) (t : Tl) : Nat := s.fg (t.f F.RFA_STAT_STATE)

/-- The synthesiser can lock: the VCO item has a valid result (R174, R179). -/
def State.vcoOk (s : State) (t : Tl) : Bool := s.fb (t.f (F.RFA_CALi_VALID 0))

/-- A radio enters a state; ACTIVE of its channelizer follows FBL, LOCK what holds the synthesiser locked, RSSI reads 0x80 outside RX_SC; PATH
shows the HP path while it transmits; a ramp is over (R169). -/
def State.radioTo (s : State) (t : Tl) (st : Nat) : State :=
  let s := (s.fp (t.f F.RFA_STAT_STATE) st).fp (t.f F.RFA_FBL_CFG_ACTIVE) (b2n (st == rFbl))
  let s := s.fp (t.f F.RFA_STAT_LOCK) (b2n (s.vcoOk t && [rReady, rRxSc, rRxFrame, rFbl, rTx].contains st))
  let s := if t = .a ∧ st ≠ rTx then s.fclr F.RFA_STAT_PATH else s
  let s := (if st = rRxSc then s else s.fp (t.f F.RFA_RSSI_RSSI) 0x80).mRad t (fun r => { r with ramp := none })
  if st = rFbl ∨ st = rOff ∨ st = rIdle then (s.fp (t.f F.RFA_STAT_CH) 0xFF).fp (t.f F.RFA_STAT_PHY) 0 else s

/-- The radio is tuned to a channel for a mode entry. -/
def State.radioTune (s : State) (t : Tl) (ch mode : Nat) : State :=
  (s.fp (t.f F.RFA_STAT_CH) ch).fp (t.f F.RFA_STAT_PHY) ((s.tc t).mode mode).code

/-- The automatic return state (R171, R194): FBL where full-band listening runs; single-channel listening while a window of R111's pattern is open; else
READY, IDLE or OFF by the µs until the next armed action. -/
def State.radioReturn (s : State) (t : Tl) (gap : Nat) : State :=
  if s.radioState t = rClkFail ∨ s.radioState t = rTest then s
  else if s.fblRuns t then s.radioTo t rFbl
  else match (s.rad t).patCh with
    | some ch => (s.radioTo t rRxSc).radioTune t ch (s.tc t).band.beaconMode
    | none => s.radioTo t (if gap ≤ 400 then rReady else if gap ≤ 3000 then rIdle else rOff)

/-! ## Demodulator units (R204-R212) -/

/-- Units of a radio. -/
def unitCount : Tl → Nat
  | .a => 32
  | .b => 8

/-- STATE of a unit: 0 FREE, 1 RESERVED, 2 SEARCH, 3 LOCKED. -/
def State.uSt (s : State) (t : Tl) (u : Nat) : Nat := s.fg (t.f (F.RFA_FBL_UNITu_STATE u))

/-- RFA_FBL_UNITS and each output's BUSY follow the units. -/
def State.unitsShow (s : State) (t : Tl) : State :=
  let us := List.range (unitCount t)
  let rsv := us.filter (fun u => s.uSt t u != 0 && s.fb (t.f (F.RFA_FBL_UNITu_RSV u)))
  let fc := us.filter (fun u => s.uSt t u != 0 && !s.fb (t.f (F.RFA_FBL_UNITu_RSV u)))
  let s := (s.fp (t.f F.RFA_FBL_UNITS_RSVD) rsv.length).fp (t.f F.RFA_FBL_UNITS_FIRST) fc.length
  s.fp (t.f F.RFA_FBL_UNITS_FREE) (unitCount t - rsv.length - fc.length)

/-- The FREE units, lowest first. -/
def State.unitsFree (s : State) (t : Tl) : List Nat := (List.range (unitCount t)).filter (fun u => s.uSt t u == 0)

/-- The groups of a radio, each named by its lowest unit (R204). -/
def State.groups (s : State) (t : Tl) : List Nat :=
  (List.range (unitCount t)).filter (fun u => s.uSt t u != 0 && s.fg (t.f (F.RFA_FBL_UNITu_LOW u)) == u)

/-- The units of a group. -/
def State.groupUnits (s : State) (t : Tl) (g : Nat) : List Nat :=
  (List.range (unitCount t)).filter (fun u => s.uSt t u != 0 && s.fg (t.f (F.RFA_FBL_UNITu_LOW u)) == g)

/-- A group is a reserved one. -/
def State.groupRsv (s : State) (t : Tl) (g : Nat) : Bool := s.fb (t.f (F.RFA_FBL_UNITu_RSV g))

/-- The output that a group serves. -/
def State.groupOut (s : State) (t : Tl) (g : Nat) : Nat := s.fg (t.f (F.RFA_FBL_UNITu_OUT g))

/-- The groups on an output. -/
def State.groupsOn (s : State) (t : Tl) (out : Nat) : List Nat := (s.groups t).filter (fun g => s.groupOut t g == out)

/-- The group on an output that awaits its SFD. -/
def State.searching (s : State) (t : Tl) (out : Nat) : Option Nat := (s.groupsOn t out).find? (fun g => s.uSt t g == 2)

/-- An output serves a frame: a group on it is in SEARCH or LOCKED (R201). -/
def State.outServes (s : State) (t : Tl) (out : Nat) : Bool := (s.groupsOn t out).any (fun g => 2 ≤ s.uSt t g)

/-- The reserved group whose window is open on an output (R201, R208). -/
def State.outWindow (s : State) (t : Tl) (out : Nat) : Option Nat :=
  if (s.rad t).winOpen then (s.groupsOn t out).find? (fun g => s.groupRsv t g) else none

/-- An output's BUSY: it serves a frame or a reserved window (R201). -/
def State.outShow (s : State) (t : Tl) (out : Nat) : State :=
  s.fp (t.f (F.RFA_FBL_OUTc_BUSY out)) (b2n (s.outServes t out || (s.outWindow t out).isSome))

/-- Every output's BUSY. -/
def State.outsShow (s : State) (t : Tl) : State := s.forEach (List.range (s.fg (t.f F.RFA_FBL_CFG_NOUT))) (fun s c => s.outShow t c)

/-- Take the lowest `n` FREE units as one group for an output. -/
def State.unitsTake (s : State) (t : Tl) (n st : Nat) (rsv : Bool) (out phy : Nat) : State :=
  let us := (s.unitsFree t).take n
  let low := us.head?.getD 0
  let s := s.forEach us (fun s u =>
    let s := ((s.fp (t.f (F.RFA_FBL_UNITu_STATE u)) st).fp (t.f (F.RFA_FBL_UNITu_RSV u)) (b2n rsv)).fp (t.f (F.RFA_FBL_UNITu_LOW u)) low
    (s.fp (t.f (F.RFA_FBL_UNITu_OUT u)) out).fp (t.f (F.RFA_FBL_UNITu_PHY u)) phy)
  (s.unitsShow t).outShow t out

/-- The units of a group change state together (R204). -/
def State.groupSet (s : State) (t : Tl) (g st : Nat) : State :=
  let out := s.groupOut t g
  let s := s.forEach (s.groupUnits t g) (fun s u => s.fp (t.f (F.RFA_FBL_UNITu_STATE u)) st)
  (s.unitsShow t).outShow t out

/-- A group becomes FREE. -/
def State.groupFree (s : State) (t : Tl) (g : Nat) : State :=
  let out := s.groupOut t g
  let s := s.forEach (s.groupUnits t g) (fun s u => s.wr (t.f (F.RFA_FBL_UNITu_STATE u)).addr 0)
  (s.unitsShow t).outShow t out

/-- "Back" of Table 6-6: RESERVED for a reserved unit whose window is open, FREE otherwise. -/
def State.groupBack (s : State) (t : Tl) (g : Nat) : State :=
  if s.groupRsv t g && (s.rad t).winOpen then s.groupSet t g 1 else s.groupFree t g

/-- The output that serves a channel, where the channel is covered (R198, R199). -/
def State.outOf (s : State) (t : Tl) (ch : Nat) : Option Nat :=
  let f := s.fg (t.f F.RFA_FBL_CFG_FIRST)
  if f ≤ ch ∧ ch < f + s.fg (t.f F.RFA_FBL_CFG_NOUT) then some (ch - f) else none

/-- A channel of an output. -/
def State.chOf (s : State) (t : Tl) (out : Nat) : Nat := s.fg (t.f F.RFA_FBL_CFG_FIRST) + out

/-- An event bit of a channelizer's EVT register. -/
def State.fblEvt (s : State) (t : Tl) (bit : Nat) : State := s.rset (R.RFA_FBL_EVT + t.radio) bit

/-- Reserve units for a cell that receives (R207, R209): true where its reservation did not fall short for the whole cell. -/
def State.reserve (s : State) (t : Tl) (chs : List Nat) (code : Nat) (gather : Bool) : Bool × State :=
  let n := phyUnits code
  chs.foldl (fun (r : Bool × State) ch =>
    match r.2.outOf t ch with
    | none => r
    | some c =>
      if n ≤ (r.2.unitsFree t).length then (r.1, r.2.unitsTake t n 1 true c code)
      else
        let s := (r.2.fsat (t.f (if gather then F.RFA_FBL_SHORT_LO else F.RFA_FBL_SHORT_HI))).fblEvt t 2
        (r.1 && gather, s)) (true, s)

/-- A first-come assignment on an output ended: by timeout or header discard, or otherwise (R203). -/
def State.muteCount (s : State) (t : Tl) (out : Nat) (failed : Bool) : State :=
  let n := if failed then (alGet (s.rad t).mute out).getD 0 + 1 else 0
  let run := s.fg (t.f F.RFA_FBL_LIM_MUTE_RUN)
  let s := s.mRad t (fun r => { r with mute := alSet r.mute out n })
  if run ≠ 0 ∧ run ≤ n ∧ s.fb (t.f (F.RFA_FBL_OUTc_MUTED out)) = false then
    ((s.mRad t (fun r => { r with mute := alSet r.mute out 0 })).fset (t.f (F.RFA_FBL_OUTc_MUTED out))).fblEvt t 3
  else s

/-- A first-come group's assignment ended with neither a timeout nor a header-time discard (R203). -/
def State.muteEnd (s : State) (t : Tl) (g : Nat) : State := if s.groupRsv t g then s else s.muteCount t (s.groupOut t g) false

/-! ## Frames lost -/

/-- Zero the whole frame area of an early-delivered frame and give its verdict (R242): ABORTED, or AUTH_FAIL; the host is told ABANDON (R244). -/
def State.earlyFail (s : State) (q i code : Nat) : State :=
  let b := bufAddr (s.mg (D.BUF q i))
  let s := s.wipe (b + 64) (b + 64 + 2048)
  let s := ((s.mp (D.CODE q i) code).mp (D.ST q i) 3).mp (D.VERDICT q i) 1
  let s := (s.fset (F.HRT_Qn_STAT_VCHG q)).cnt (0x104 + 0x10 * q)
  if s.fg (F.HRT_Qn_CFG_OWNER q) = ownHost then s.hostNote 3 (leBytes 1 q ++ leBytes 1 i ++ leBytes 1 code) else s

/-- A frame in progress is dropped: its buffer returns to FREE, or an early-delivered one ends ABORTED (R73, R242). -/
def State.rxDrop (s : State) (t : Tl) (x : RxFrame) : State :=
  let s := s.mRad t (fun r => { r with rx := r.rx.filter (fun y => y.out != x.out) })
  match x.early with
  | some (q, i) => s.earlyFail q i ccAborted
  | none => if x.buf < 64 then s.setHolder x.buf ownNone else s

/-- The frame received through an output, or on the single-channel path. -/
def State.rxAt (s : State) (t : Tl) (via : Option Nat) : Option RxFrame := (s.rad t).rx.find? (fun x => x.out == via)

/-- Replace a frame in progress. -/
def State.rxSet (s : State) (t : Tl) (x : RxFrame) : State :=
  s.mRad t (fun r => { r with rx := r.rx.map (fun y => if y.out = x.out then x else y) })

/-- The radio leaves full-band listening (R172, R212, R214): every group in SEARCH or LOCKED is released, its frame lost and counted. -/
def State.blank (s : State) (t : Tl) : State :=
  let s := s.forEach ((s.rad t).rx.filter (fun x => x.out.isSome)) (fun s x => s.rxDrop t x)
  s.forEach ((s.groups t).filter (fun g => 2 ≤ s.uSt t g)) (fun s g =>
    ((s.muteEnd t g).groupFree t g).rsat (R.RFA_BLANK_CNT + t.radio))

/-- Leave FBL for an action where the radio is in it. -/
def State.leaveFbl (s : State) (t : Tl) : State := if s.radioState t = rFbl then (s.blank t).radioTo t rReady else s

/-- Every group is released and every frame in progress lost (R216 at CLKFAIL). -/
def State.unitsOff (s : State) (t : Tl) : State :=
  let s := s.forEach (s.rad t).rx (fun s x => s.rxDrop t x)
  s.forEach (s.groups t) (fun s g => (if 2 ≤ s.uSt t g then s.muteEnd t g else s).groupFree t g)

/-! ## First-come allocation (R200-R203, R210) -/

/-- Units in first-come use. -/
def State.firstUse (s : State) (t : Tl) : Nat := s.fg (t.f F.RFA_FBL_UNITS_FIRST)

/-- The detection class of a PHY code: of SUN-OFDM, the option, whose MCS the PHR tells (R200). -/
def detClass (phy : Nat) : Nat := if isOfdm phy then phy / 8 * 8 else phy

/-- A detector searches for a class: on Radio A those of DET_SET_A, on Radio B O-QPSK (R200). -/
def State.detects (s : State) (t : Tl) (phy : Nat) : Bool := match t with
  | .a => (s.tc .a).fbl.det.any (fun m => detClass ((s.tc .a).mode m).code == detClass phy)
  | .b => phy == 0x80

/-- A detection is suppressed (R202): the same class on a neighbouring output within 32 µs, at least 20 dB stronger. -/
def State.leaks (s : State) (t : Tl) (out phy : Nat) (level : Int) (us : Nat) : Bool :=
  (s.rad t).assigned.any (fun p => (p.1 == out + 1 || p.1 + 1 == out) && p.2.1 == detClass phy && decide (us ≤ p.2.2.2 + 32) && decide (level + 20 ≤ p.2.2.1))

/-- A unit has been assigned on an output to a detection (R202). -/
def State.assignedTo (s : State) (t : Tl) (out phy : Nat) (level : Int) (us : Nat) : State :=
  s.mRad t (fun r => { r with assigned := alSet r.assigned out (detClass phy, level, us) })

/-- "Output busy" or muted (Table 6-10). -/
def State.noUnitLo (s : State) (t : Tl) : State := (s.fsat (t.f F.RFA_FBL_NOUNIT_LO)).fblEvt t 1

/-- A detection that no rule of the output bars takes a group of FREE units within the cap of R206 (R210). -/
def State.firstCome (s : State) (t : Tl) (out phy : Nat) (level : Int) (us : Nat) : State :=
  let n := phyUnits phy
  if n ≤ (s.unitsFree t).length ∧ s.firstUse t + n ≤ unitCount t - s.fg (t.f F.RFA_FBL_UNITS_RMAX) then
    (s.unitsTake t n 2 false out phy).assignedTo t out phy level us
  else (s.fsat (t.f F.RFA_FBL_NOUNIT_HI)).fblEvt t 1

/-- A reserved unit whose window is open on the output searches for the class: it does so itself, whether or not the output's detector runs (R204,
R208). -/
def State.ownWindow (s : State) (t : Tl) (out phy : Nat) : Bool :=
  (s.outWindow t out).any (fun g => detClass (s.fg (t.f (F.RFA_FBL_UNITu_PHY g))) == detClass phy)

/-- A preamble is declared on an output for a PHY code (R200-R203, R208, R210, R216). `us`: the instant, on a running count of µs. A detection that
several rules bar is judged in this order (log 81, DESIGN CHOICE): draining, leakage, an output that serves a frame, a reserved window, muting. -/
def State.preamble (s : State) (t : Tl) (out phy : Nat) (level : Int) (us : Nat) : State :=
  let own := s.ownWindow t out phy
  if s.radioState t ≠ rFbl ∨ (own = false ∧ (s.fb (t.f (F.RFA_FBL_OUTc_EN out)) = false ∨ s.detects t phy = false)) then s
  else
    let s := s.rsat (R.RFA_FBL_DETCNT + t.radio)
    if s.fb (t.f F.RFA_FBL_CFG_DRAIN) then s
    else if s.leaks t out phy level us then s.fsat (t.f F.RFA_FBL_TOCNT_LO)
    else if s.outServes t out then s.noUnitLo t
    else match s.outWindow t out with
      | some g =>
        if own then (s.groupSet t g 2).assignedTo t out phy level us
        else s.noUnitLo t
      | none => if s.fb (t.f (F.RFA_FBL_OUTc_MUTED out)) then s.noUnitLo t else s.firstCome t out phy level us

/-- A group without SFD 2 ms after assignment (R211, R212): a reserved one goes back, a first-come one is FREE and counted. -/
def State.sfdTimeout (s : State) (t : Tl) (out : Nat) : State := match s.searching t out with
  | none => s
  | some g =>
    if s.groupRsv t g then s.groupBack t g
    else ((s.fsat (t.f F.RFA_FBL_TOCNT_HI)).muteCount t out true).groupFree t g

/-! ## Output power (R180-R186) -/

/-- Divide rounding to nearest, halves away from zero. -/
def roundDiv (a b : Int) : Int := if 0 ≤ a then (2 * a + b) / (2 * b) else -((-2 * a + b) / (2 * b))

/-- The LP path's maximum at VKEEP, in 0.25 dB: +14 dBm at 2.4 V, falling linearly to +11 dBm at 2.0 V (Table 5-7). -/
def lpMax (vkeep : Nat) : Int := if 2400 ≤ vkeep then 56 else if vkeep ≤ 2000 then 44 else 44 + 12 * (vkeep - 2000 : Nat) / 400

/-- The path of a transmission in the model's numbering: 0 HP, 1 LP, 2 Radio B. -/
def pathNo (t : Tl) (hp : Bool) : Nat := if t = .b then 2 else if hp then 0 else 1

/-- A path's lowest power. -/
def pathMin (p : Nat) : Int := if p = 0 then 40 else -80

/-- A path's highest power at a frequency and supply (Table 5-7). -/
def pathMax (p khz vkeep : Nat) : Int :=
  if p = 0 then (if 860000 ≤ khz then 108 else 96) else if p = 1 then lpMax vkeep else 80

/-- The supply of a path in mV. -/
def pathSupply (p : Nat) (m : PaMeas) : Nat := if p = 0 then m.vsys else m.vkeep

/-- The correction of R183 in 1/16 dB, rounded once: kt is in 0.001 dB/°C and the sensor in 1/16 °C, kv in 0.001 dB/V and the supply in mV. -/
def paCorr (p khz : Nat) (m : PaMeas) : Int :=
  let vnom : Int := if p = 0 then 5000 else 3000
  roundDiv (Config.paKt p khz * (m.pa - 400) * 1000 + 16 * (Config.paKv p * (vnom - pathSupply p m))) 1000000

/-- want_code of R183, clamped to the table's range. -/
def wantCode (p khz : Nat) (pow : Int) (m : PaMeas) : Int :=
  clampI (Config.paMin p) (Config.paMax p) (Config.paTable p khz pow + paCorr p khz m)

/-- A sample of a radio's PA-adjacent sensor: its PA calibration may become stale (R176). -/
def State.paTemp (s : State) (t : Tl) (pa : Int) : State := (s.fp (t.f F.RFA_TEMP_PA) (unsigned 16 pa)).calStale t [4]

/-- The latest samples and the supply at a frame start. -/
def State.paSample (s : State) (t : Tl) (m : PaMeas) : State :=
  let s := s.paTemp t m.pa
  let s := if t = .a then s.fp F.RFA_SUPPLY_VSYS m.vsys else s
  (s.fp (t.f F.RFA_SUPPLY_VKEEP) m.vkeep).dieSample m.die

/-- The power in 0.25 dB that a radio transmits: its frame's, or in test mode that of the test. -/
def State.radioPower (s : State) (t : Tl) : Int :=
  if s.radioState t = rTx then ((s.rad t).act.map (fun a => a.power)).getD 0
  else if s.radioState t = rTest then signed 8 (s.fg (t.f F.RFA_LASTTX_PWR)) else 0

/-- Hearth's estimate of the chip's dissipation at this instant, in mW (R186). -/
def State.dissipation (s : State) : Nat :=
  Config.dissipation (s.radios.map s.radioState) (s.radios.map s.radioPower) (s.rd R.CLK_SEL)

/-- A second's sample of the dissipation: the last ten are kept (R186; log 82, DESIGN CHOICE: the manual does not say how often it is taken). -/
def State.pestSample (s : State) : State := s.mHrt (fun h => { h with pest := (s.dissipation :: h.pest).take 10 })

/-- P_est in mW: the average over the last 10 s (R186), before the first sample that of this instant. -/
def State.pEst (s : State) : Nat :=
  let l := s.hrt.pest
  if l.isEmpty then s.dissipation else l.foldl (· + ·) 0 / l.length

/-- The estimated ambient in 1/16 °C: T_die − THETA_JA × P_est (R186). -/
def State.ambient (s : State) (m : PaMeas) : Int := m.die - (s.fg F.RFA_THERM_THETA_JA * s.pEst / 250 : Nat)

/-- The thermal cap at a Radio A frame start (R186). -/
def State.thermalCap (s : State) (m : PaMeas) : State :=
  let amb := s.ambient m
  let s := s.fp F.RFA_THERM_AMB (unsigned 8 (amb / 16))
  let on := s.fb F.RFA_STAT_CAP20
  let note (new : Bool) : State :=
    ((s.fp F.RFA_STAT_CAP20 (b2n new)).fset F.RFA_EVT_CAP).ash3 0x0023 (w32 (b2n new)) (w32 (unsigned 32 (amb / 16))) (w32 (unsigned 32 (m.die / 16)))
  if !on && (decide (85 * 16 < amb) || decide (120 * 16 ≤ m.die)) then note true
  else if on && decide (amb ≤ 82 * 16) && decide (m.die < 115 * 16) then note false
  else s

/-- Sensor disagreement at a frame start (R185). -/
def State.paDisagree (s : State) (t : Tl) (m : PaMeas) : State :=
  let d := (m.pa - m.die).natAbs
  let f := t.f F.RFA_STAT_PADIS
  let s :=
    if !s.fb f && decide (15 * 16 < d) then
      let s := (s.fset f).fset (t.f F.RFA_EVT_PA_DIS)
      if (s.rad t).padisAt ≠ 0 ∧ s.sec < (s.rad t).padisAt - 1 + 3600 then s
      else (s.mRad t (fun r => { r with padisAt := s.sec + 1 })).ash3 0x0022 (w32 (t.bit * 256)) (w32 (unsigned 16 m.pa * 0x10000 + unsigned 16 m.die)) 0
    else if s.fb f && decide (d ≤ 10 * 16) then s.fclr f
    else s
  if s.fb f then s.rsat (R.RFA_PADIS_CNT + t.radio) else s

/-- A frame starts at a frequency and a target: the power used and the code (R181, R183, R185, R186), shown in LASTTX. `hp`: the path chosen by
R181; the LP limit follows SUP's latest VKEEP value (R458). -/
def State.frameStart (s : State) (t : Tl) (khz : Nat) (hp : Bool) (target : Int) (m : PaMeas) : (Int × Int) × State :=
  let p := pathNo t hp
  let s := s.paSample t m
  let s := if t = .a then s.thermalCap m else s
  let s := s.paDisagree t m
  let x := min target (pathMax p khz s.sup.vkeep)
  let x := if p = 0 && s.fb F.RFA_STAT_CAP20 then min x 80 else x
  let x := if s.fb (t.f F.RFA_STAT_PADIS) then x - 12 else x
  let x := max x (pathMin p)
  let comp := s.fb (t.f F.RFA_THERM_COMP_EN)
  let corr := if comp then paCorr p khz m else 0
  let code := if comp then wantCode p khz x m else Config.paTable p khz x
  let s := ((s.fp (t.f F.RFA_LASTTX_REQ) (unsigned 8 target)).fp (t.f F.RFA_LASTTX_PWR) (unsigned 8 x)).fp (t.f F.RFA_LASTTX_COR) (unsigned 8 corr)
  let s := if t = .a then (s.fp F.RFA_LASTTX_PATH (b2n hp)).fp F.RFA_STAT_PATH (b2n hp) else s
  ((x, code), s)

/-! ## Calibration (R176-R179) -/

/-- An item is due (R176). -/
def State.calDue (s : State) (t : Tl) (i : Nat) : Bool :=
  s.fb (t.f (F.RFA_CALi_STALE i)) || decide (80 < s.calMoved t i) || decide (s.fg (t.f F.RFA_CALPER_CAL_PERIOD) ≤ s.fg (t.f (F.RFA_CALi_AGE i)))

/-- The next item to run, in the order VCO, DC, ADC, IQ, PA (R177). -/
def State.calNext (s : State) (t : Tl) : Option Nat := [0, 1, 3, 2, 4].find? (fun i => s.calDue t i)

/-- An item can start (R177, R178): the radio runs no action and none waits on it (a frame with its acknowledgement, an open window, an answer to send),
no unit is locked, it is neither receiving, failed, testing nor calibrating, and no fatal fault has come (R85). A radio that is off between actions is started for it. -/
def State.calFree (s : State) (t : Tl) : Bool :=
  let r := s.rad t
  [rOff, rIdle, rReady, rRxSc, rFbl].contains (s.radioState t) && r.act.isNone && !r.winOpen && r.ackDue.isEmpty && r.lastAck.isNone &&
  r.dataDue.isNone && !s.hrt.fatal && !(List.range (unitCount t)).any (fun u => s.uSt t u == 3)

/-- Start an item (R177): the radio leaves FBL, the VCO item unlocks the synthesiser. -/
def State.calStart (s : State) (t : Tl) (i : Nat) : State :=
  if s.calFree t && s.calNext t == some i then
    let back := s.radioState t
    let s := s.leaveFbl t
    ((s.radioTo t rCal).fset (t.f F.RFA_STAT_CALBUSY)).mRad t (fun r => { r with cal := some ⟨i, back⟩ })
  else s

/-- An item ends with a result or a failure (R179). `temp`: its sensor's sample in °C, which it records and the radio shows (R176). -/
def State.calEnd (s : State) (t : Tl) (ok : Bool) (temp : Int) (gap : Nat) : State := match (s.rad t).cal with
  | none => s
  | some c =>
    let i := c.item
    let temp := clampI (-128) 127 temp
    let s := (s.mRad t (fun r => { r with cal := none })).fclr (t.f F.RFA_STAT_CALBUSY)
    let s :=
      if ok then
        let s := (if i = 4 then s.paTemp t (16 * temp) else s.dieSample (16 * temp))
        let s := ((s.fset (t.f (F.RFA_CALi_VALID i))).fclr (t.f (F.RFA_CALi_STALE i))).fclr (t.f (F.RFA_CALi_FAILS i))
        ((s.fp (t.f (F.RFA_CALi_TEMP i)) (unsigned 8 temp)).fp (t.f (F.RFA_CALi_AGE i)) 0).fset (t.f F.RFA_EVT_CAL_DONE)
      else
        let s := s.fsat (t.f (F.RFA_CALi_FAILS i))
        if s.fg (t.f (F.RFA_CALi_FAILS i)) < 3 then s
        else
          let s := s.fset (t.f F.RFA_EVT_CAL_FAIL)
          let due := match alGet (s.rad t).calFailAt i with
            | some e => decide (e + 3600 ≤ s.sec) || s.fg (t.f (F.RFA_CALi_FAILS i)) == 3
            | none => true
          if due then
            (s.mRad t (fun r => { r with calFailAt := alSet r.calFailAt i s.sec })).ash3 0x0021 (w32 (t.bit * 256 + i)) (w32 (unsigned 32 (signed 16 (s.fg (t.f F.RFA_TEMP_DIE)) / 16))) 0
          else s
    s.radioReturn t gap

/-- Seconds since each item's last run (saturating). -/
def State.calSecond (s : State) (t : Tl) : State :=
  s.forEach (List.range 5) (fun s i => if s.fb (t.f (F.RFA_CALi_VALID i)) then s.fsat (t.f (F.RFA_CALi_AGE i)) else s)

/-- Every item is stale: at Hearth start and after a crystal recovery (R173, R176). -/
def State.calAllStale (s : State) (t : Tl) : State := s.forEach (List.range 5) (fun s i => s.fset (t.f (F.RFA_CALi_STALE i)))

/-! ## The crystal (R173) -/

/-- An immediate queue of a failed radio completes each QUEUED descriptor with RADIO_UNAVAILABLE (R173). -/
def State.immClk (s : State) (t : Tl) : State :=
  if s.radioState t ≠ rClkFail then s
  else s.forEach ((List.range 16).filter (fun q => s.fb (F.HRT_Qn_CFG_EN q) && s.fb (F.HRT_Qn_CFG_IMM q) && s.qTl q == t))
    (fun s q => s.forEach (s.queued q) (fun s i => s.complete q i ccRadio 0))

/-- The action's descriptor. -/
def TxKind.descOf : TxKind → Option (Nat × Nat)
  | .desc q i => some (q, i)
  | .imm q i => some (q, i)
  | .pend q i => some (q, i)
  | _ => none

/-- A descriptor that Hearth holds completes with RADIO_UNAVAILABLE. -/
def State.radioGone (s : State) (d : Option (Nat × Nat)) : State := match d with
  | some (q, i) => if s.mg (D.ST q i) = 1 ∨ s.mg (D.ST q i) = 2 then s.complete q i ccRadio 0 else s
  | none => s

/-- A radio enters CLKFAIL: what it was doing is lost, and the descriptors of its action and of the running slot's cell complete with
RADIO_UNAVAILABLE; the ember timer times the slot clock from now on. -/
def State.clkFail (s : State) (t : Tl) : State :=
  let s := (s.unitsOff t).clkMark t
  let s := (s.radioGone ((s.rad t).act.bind (fun a => a.kind.descOf))).radioGone ((s.tlx t).cur.bind (fun a => a.desc))
  let s := s.mRad t (fun r => { r with
    act := none, ackDue := [], lastAck := none, dataDue := none, cal := none, winOpen := false, patCh := none })
  let s := s.mTl t (fun x => { x with cur := x.cur.map (fun a => { a with desc := none, beacon := false, ka := false, poll := none }) })
  let s := ((s.radioTo t rClkFail).fset (t.f F.RFA_STAT_CLKFAIL)).fset (t.f F.RFA_EVT_CLK_FAIL)
  (s.fclr (t.f F.RFA_STAT_CALBUSY)).immClk t

/-- The crystal is not ready 2 ms after its start: both radios enter CLKFAIL. -/
def State.xoFail (s : State) : State :=
  if s.fb F.CLK_STAT_XO_RDY || s.fb F.RFA_STAT_CLKFAIL then s
  else (s.forEach s.radios (fun s t => s.clkFail t) |>.fset F.CLK_STAT_XO_FAIL |>.fset F.CLK_EVT_XO_FAIL).ash3 0x0020 1 0 0

/-- The crystal, restarted every second, starts: both radios go to OFF, calibrations stale. -/
def State.xoBack (s : State) : State :=
  let s := if s.fb F.CLK_STAT_XO_FAIL then s.fset F.CLK_EVT_XO_OK else s
  let s := (s.fset F.CLK_STAT_XO_RDY).fclr F.CLK_STAT_XO_FAIL
  if s.fb F.RFA_STAT_CLKFAIL then
    let s := s.forEach s.radios (fun s t =>
      ((((s.clkMark t).radioTo t rOff).fclr (t.f F.RFA_STAT_CLKFAIL)).fset (t.f F.RFA_EVT_CLK_OK)).calAllStale t)
    s.ash3 0x0020 0 0 0
  else s

/-! ## Test mode (R192) -/

/-- A test request names a frequency and path of Table 5-7; the power it asks for is limited as any other is (R183, R192). DESIGN CHOICE (log 88): the
reserved MODE 0b11, and PRBS9 with a PHY code that is not the radio's, name no test and are refused in the same way; the manual does not say. -/
def State.testOk (s : State) (t : Tl) (v : Word) : Bool :=
  let khz := s.fg (t.f F.RFA_TEST_FREQ_FREQ)
  let hp := t == .a && wBit v 24
  let freq := match t with
    | .a => inR 410000 960000 khz && (!hp || hpBand khz)
    | .b => inR 2400000 2483500 khz
  let code := (phyInfo (wField v 23 16)).isSome && (wField v 23 16 == 0x80) == (t == .b)
  freq && wField v 29 28 != 3 && (wField v 29 28 != 1 || code)

/-- A test transmission starts at the frequency, path and power asked for, under R180 to R186, with the latest samples of the sensors and the supply
(log 83, DESIGN CHOICE: the manual names no sampling instant for test mode); a receive test transmits nothing. -/
def State.testStart (s : State) (t : Tl) (v : Word) : State :=
  if wField v 29 28 = 2 then s
  else
    let m : PaMeas := ⟨signed 16 (s.fg (t.f F.RFA_TEMP_PA)), signed 16 (s.fg (t.f F.RFA_TEMP_DIE)), s.fg F.RFA_SUPPLY_VSYS, s.fg (t.f F.RFA_SUPPLY_VKEEP)⟩
    (s.frameStart t (s.fg (t.f F.RFA_TEST_FREQ_FREQ)) (t == .a && wBit v 24) (signed 8 (wField v 15 8)) m).2

/-- Test mode ends. -/
def State.testEnd (s : State) (t : Tl) : State :=
  if s.radioState t = rTest then (if t = .a then s.fclr F.RFA_STAT_PATH else s).radioTo t rOff else s

/-- A write of RFA_TEST or RFB_TEST that R192 permits: EN needs Hearth OFF or in NOCONFIG and MFG, or FIELD_OPEN with debug open. PATH exists on Radio A
only. DESIGN CHOICE (log 88): a radio in CLKFAIL takes the test and shows TEST, and the crystal's recovery sets OFF with EN still 1; the manual does not
say. -/
def State.testWrite (s : State) (t : Tl) (v : Word) : State :=
  let a := R.RFA_TEST + t.radio
  let v := if t = .a then v else wSetField v 24 24 0
  let st := s.fg F.HRT_STAT_STATE
  let lc := s.lifeCycle == lcMfg || (s.lifeCycle == lcOpen && s.fb F.LCS_DBG_OPEN)
  if wBit v 31 then
    if (st == hOff || st == hNoConfig) && lc then
      if s.testOk t v then ((s.regStore a v).radioTo t rTest).testStart t v
      else ((s.regStore a v).fclr (t.f F.RFA_TEST_EN)).testEnd t
    else s
  else (s.regStore a v).testEnd t

/-! ## Gain (R218) -/

/-- The gain's register: 60 dB in steps of 6 dB. A step down; at the lowest GAIN_MIN is set. -/
def State.gainDown (s : State) (t : Tl) : State :=
  let g := s.fg (t.f F.RFA_FBL_GAIN_GAIN)
  if s.radioState t ≠ rFbl ∨ g < 6 then s
  else
    let s := (s.fp (t.f F.RFA_FBL_GAIN_GAIN) (g - 6)).fsat (t.f F.RFA_FBL_GAIN_STEPS)
    if g - 6 = 0 then s.fblEvt t 0 else s

/-- A step up, with no unit LOCKED. -/
def State.gainUp (s : State) (t : Tl) : State :=
  let g := s.fg (t.f F.RFA_FBL_GAIN_GAIN)
  if s.radioState t ≠ rFbl ∨ 54 < g ∨ (List.range (unitCount t)).any (fun u => s.uSt t u == 3) then s
  else (s.fp (t.f F.RFA_FBL_GAIN_GAIN) (g + 6)).fsat (t.f F.RFA_FBL_GAIN_STEPS)

/-! ## What the configuration image shows in the radio registers (R191, R198, R220) -/

/-- The covered channels of Radio A: the lowest and how many. -/
def coveredA (b : Band) (f : FblCfg) : Nat × Nat :=
  let w := 100 * f.winW
  let l := (List.range 255).filter (fun j => decide (2 * f.winCtr ≤ 2 * (b.ch0 + j * b.spacing) - b.spacing + w) &&
    decide (2 * (b.ch0 + j * b.spacing) + b.spacing ≤ 2 * f.winCtr + w))
  (l.head?.getD 0, min 140 l.length)

/-- The registers of a radio take the configuration's values at step 4 or at a commit. -/
def State.radioConfig (s : State) (t : Tl) : State := match s.hrt.cfg.tl t with
  | none => s
  | some c =>
    let b := c.band
    let s := s.forEach (List.range 16) (fun s m =>
      let e := c.mode m
      let ok := decide (m < b.modes.length)
      let s := s.wr (R.RFA_MODEm m + t.radio) (if ok then w32 (e.maxPsdu * 0x200000 + b2n (t == .a && s.hrt.cfg.fcs == 4) * 0x100000 + b2n e.dw * 0x80000 + 0x40000 + e.pre * 256 + e.code) else 0)
      s.wr (R.RFA_TXPm m + t.radio) (if ok then w32 (unsigned 8 e.stoked * 256 + unsigned 8 e.keep) else 0))
    let s := if t = .a then (s.fp F.RFA_BAND_CH0 b.ch0).fp F.RFA_BAND_SPACING b.spacing else s
    let r := c.radio
    let s := s.wr (R.RFA_CCA + t.radio) (w32 (r.ccaMode * 0x40000000 + unsigned 8 r.edThr * 0x10000 + unsigned 8 r.lbtThr * 256 + unsigned 8 s.hrt.cfg.rssiOff))
    let s := (s.wr (R.RFA_LBT + t.radio) (w32 r.lbtRand)).wr (R.RFA_CALPER + t.radio) (w32 b.calPer)
    let s := s.fp (t.f F.RFA_THERM_COMP_EN) (b2n s.hrt.cfg.compEn)
    let s := s.fp (t.f F.RFA_STAT_COMP_OFF) (b2n (!s.hrt.cfg.compEn))
    let s := if t = .a then s.fp F.RFA_THERM_THETA_JA s.hrt.cfg.thetaJa else s
    let f := c.fbl
    let cov := if t = .a then coveredA b f else (11, 16)
    let s := ((s.fp (t.f F.RFA_FBL_CFG_EN) (b2n f.en)).fp (t.f F.RFA_FBL_CFG_FIRST) cov.1).fp (t.f F.RFA_FBL_CFG_NOUT) cov.2
    let s := if t = .a then (s.fp F.RFA_FBL_WIN_WIN_CTR (f.winCtr / 10)).fp F.RFA_FBL_WIN_WIN_W f.winW else s
    let s := if t = .a then s.wr R.RFA_FBL_DET (w32 ((List.range 4).foldl (fun v i => match f.det[i]? with
        | some d => v + 2 ^ (16 + i) + d * 16 ^ i
        | none => v) 0)) else s
    let s := s.wr (R.RFA_FBL_LIM + t.radio) (w32 (f.margin * 0x1000000 + f.muteRun * 0x10000 + f.muteTime))
    let s := s.fp (t.f F.RFA_FBL_GAIN_GAIN) 60
    s.forEach (List.range (if t = .a then 140 else 16)) (fun s c =>
      let en := decide (c < cov.2) && (match f.outEn with
        | some l => nth l c false
        | none => b.hop.contains (cov.1 + c))
      s.fp (t.f (F.RFA_FBL_OUTc_EN c)) (b2n en))

end Sys2Proof.Machine
end

