-- ==== Sys2Proof/Machine/Join.lean ====
section
/-! DEFINITION. Beacons, joining, resynchronisation and the pair's work that events bring (R79, R104, R110, R111, R119, R121, R146,
R160). Work that comes while the pair recovers is kept and done when it resumes (R50). -/

namespace Sys2Proof.Machine

/-! ## Synchronisation state -/

/-- HRT_STAT.STATE, or the value it returns to after a recovery. -/
def State.hState (s : State) (v : Nat) : State :=
  if s.recovering then s.mHrt (fun h => { h with saved := v }) else s.fp F.HRT_STAT_STATE v

/-- Set or clear a timeline's SYNC bit. -/
def State.setSync (s : State) (t : Tl) (b : Bool) : State := match t with
  | .a => s.fp F.HRT_STAT_SYNC_A (b2n b)
  | .b => s.fp F.HRT_STAT_SYNC_B (b2n b)

/-- A timeline is synchronised: SYNCED where it is timeline A (Table 2-3). -/
def State.synced (s : State) (t : Tl) : State :=
  let s := (s.setSync t true).mTl t (fun x => { x with resync := none, openMiss := 0, cands := [] })
  if t = .a then s.hState hSynced else s

/-- A refused snapshot request (R46). -/
def State.snapRefuse (s : State) (reason : Nat) : State := (s.fsat F.HRT_SNAP_STAT_REFUSED).fp F.HRT_SNAP_STAT_REASON reason

/-- A snapshot request that is PENDING when its timeline stops is refused (R46), the copy that a boundary has frozen with it. -/
def State.snapCheck (s : State) : State :=
  if s.fg F.HRT_SNAP_STAT_STATE = 1 ∧ s.runs s.hrt.snapTl = false then
    (((s.fp F.HRT_SNAP_STAT_STATE 0).fp F.HRT_SNAP_STAT_HOLDER ownNone).mHrt (fun h => { h with snapFrozen := false })).snapRefuse 4
  else s

/-- A timeline returns to JOINING (R119): it has no time source. -/
def State.toJoining (s : State) (t : Tl) : State :=
  let s := match s.tsNow t with
    | some n => s.nbrWrite n (fun s => s.mp (N.TS n) 0)
    | none => s
  let s := ((s.tsShow t none).setSync t false).snapCheck
  let s := s.mTl t (fun x => { x with resync := none, cands := [], newTs := none, pollNext := none, arm := none, cur := none, joinPos := 0 })
  let s := if t = .a then s.hState hJoining else s
  (s.setProfile t s.vinOk 0).interimShow

/-! ## Resynchronisation (R119) -/

/-- Resynchronisation with the time source begins. -/
def State.resyncStart (s : State) (t : Tl) : State :=
  if (s.tlx t).resync.isSome || s.hrt.cfg.root then s else s.mTl t (fun x => { x with resync := some (0, s.rtc.ember) })

/-- An attempt failed; the fourth returns the timeline to JOINING. -/
def State.resyncFail (s : State) (t : Tl) : State := match (s.tlx t).resync with
  | none => s
  | some (n, _) => if 3 ≤ n then s.toJoining t else s.mTl t (fun x => { x with resync := some (n + 1, s.rtc.ember) })

/-- The time source has been heard: the miss run ends. -/
def State.resyncOk (s : State) (t : Tl) (n : Nat) : State :=
  if (s.tlx t).resync.isSome then (s.mTl t (fun x => { x with resync := none, openMiss := 0 })).missClear n else s

/-- A resynchronisation that knows no ADV cell of its time source and may not poll it listens under the pattern of R111 (R119). -/
def State.resyncPattern (s : State) (t : Tl) : Bool := (s.tlx t).resync.isSome && !s.tsOpen t && (s.tsAdvs t).isEmpty

/-- With no ADV cell known, an attempt is one beacon period of listening (R119). -/
def State.resyncPeriod (s : State) (t : Tl) : State := match (s.tlx t).resync with
  | some (_, e) => if s.resyncPattern t && decide ((s.tc t).link.period ≤ s.since e) then s.resyncFail t else s
  | none => s

/-- An open poll of this node was not answered (R119, R125): the attempt failed; after two in a row the parent's POLL cells serve, and the node
resynchronises first where its guard would be too wide. -/
def State.openUnanswered (s : State) (t : Tl) (n : Option Nat) : State :=
  let s := (s.mTl t (fun x => { x with openMiss := x.openMiss + 1 })).resyncFail t
  if (s.tlx t).openMiss < 2 ∨ s.sync t = false then s
  else
    let s := s.mTl t (fun x => { x with pollNext := n })
    if n.any (s.guardFails t) then s.resyncStart t else s

/-! ## Observations and corrections (R104, R117) -/

/-- An offset of a neighbour's clock: the time source's steps the slot clock at the next boundary. -/
def State.clockSeen (s : State) (n : Nat) (off : Int) (sat : Bool) : State :=
  let t := s.nbrTl n
  let s := if s.mb (N.TS n) then s.mTl t (fun x => { x with step := x.step - off }) else s
  s.observe n off sat

/-! ## Beacons -/

/-- A timeline in JOINING keeps a beacon as a candidate (R110), with the ember count at its SFD. -/
def State.candidate (s : State) (t : Tl) (n : Nat) (o : List Byte) (rssi : Int) (ember : Nat) : State :=
  let m := parseMhr o
  let pan := m.srcPan == some s.hrt.cfg.pan || m.dstPan == some s.hrt.cfg.pan
  match beaconSync (o.drop (payOff m o)) with
  | some (a, jm) =>
    if s.joining t && pan && decide ((s.tc t).radio.joinRssi ≤ rssi) then
      s.mTl t (fun x => { x with cands := x.cands ++ [⟨n, jm, rssi, a, ember⟩] })
    else s
  | none => s

/-- A beacon from a neighbour of the table (R135, R140, R160, R496). -/
def State.beaconTake (s : State) (t : Tl) (n : Nat) (o : List Byte) (rssi : Int) (ember : Nat) : State :=
  let m := parseMhr o
  let pay := o.drop (payOff m o)
  let s := s.nbrHeard n
  let s := match beaconSync pay with
    | some (_, jm) => s.nbrJm t n jm
    | none => s
  let s := match s.beaconLink pay with
    | some c => s.takeLinkState n c
    | none => s
  let s := match beaconSub pay 0x1B with
    | some c => s.mHrt (fun h => { h with advs := alSet h.advs n ((advsOf 8 (c.drop 1)).take 8) })
    | none => s
  let s := s.candidate t n o rssi ember
  if s.mb (N.TS n) then s.resyncOk t n else s

/-- A beacon of an unknown source: an entry is learned as R146 permits. -/
def State.strangerBeacon (s : State) (t : Tl) (ext : Nat) (secured : Bool) (o : List Byte) (rssi : Int) (ember : Nat) : State :=
  let c := s.hrt.cfg
  let low := if t = .a then c.rssiA else c.rssiB
  let l := (s.tlx t).learned
  let n := if l.1 = s.sec then l.2 else 0
  if !(c.admMode == 0 || (c.admMode == 1 && secured)) || decide (rssi < low) then s
  else if c.admRate ≤ n then s.fsat F.HRT_NBR_FULL_BCN
  else match s.nbrCreate t ext admLearned with
    | none => s.neighFull t
    | some (i, s) =>
      let s := s.mTl t (fun x => { x with learned := (s.sec, n + 1) })
      (s.nbrRssi i rssi).beaconTake t i o rssi ember

/-- A Data Request from a neighbour (R158): a child entry where the policy creates one. -/
def State.dataRequest (s : State) (n : Nat) : State :=
  if s.hrt.cfg.childAuto && (s.childOf n).isNone then
    match s.childCreate n with
    | some (_, s) => s
    | none => s
  else s

/-! ## Joining (R110) -/

/-- The chosen candidate: the lowest metric, then the highest RSSI, then the first. -/
def bestCand (l : List Cand) : Option Cand :=
  l.foldl (fun (b : Option Cand) c => match b with
    | none => some c
    | some x => if c.metric < x.metric ∨ (c.metric = x.metric ∧ x.rssi < c.rssi) then some c else some x) none

/-- Slots since a beacon of `ember` on a timeline's own slot grid. -/
def State.slotsSince (s : State) (t : Tl) (ember : Nat) : Nat :=
  let p := (s.tc t).tmpl
  let us := (s.rtc.ember + 0x1000000000000 - ember) % 0x1000000000000 * 1000000 / 32768
  (us + p.txOff + tShr ((s.tc t).mode (s.tc t).band.beaconMode)) / max p.len 1

/-- JOIN_COLLECT has passed: the best candidate becomes the time source and the timeline is synchronised (R110). -/
def State.joinChoose (s : State) (t : Tl) : State :=
  if s.joining t = false then s
  else match bestCand ((s.tlx t).cands.filter (fun c => s.mb (N.V c.nbr) && s.nbrTl c.nbr == t && s.mg (N.ADM c.nbr) != admBlocked)) with
    | none => s.mTl t (fun x => { x with cands := [] })
    | some c =>
      let s := s.setAsn t ((c.asn + s.slotsSince t c.ember) % 2 ^ 40)
      let s := s.tsMove t (some c.nbr)
      s.synced t

/-! ## The pair's work -/

/-- The work of an event. -/
def State.pairRun (s : State) : PairEv → State
  | .observe n off sat => s.clockSeen n off sat
  | .beacon t n o rssi ember => s.beaconTake t n o rssi ember
  | .stranger t ext sec o rssi ember => s.strangerBeacon t ext sec o rssi ember
  | .lost n => s.lostSync n
  | .heard n => s.nbrHeard n
  | .dataReq n => s.dataRequest n
  | .resyncFail t => s.resyncFail t
  | .resyncOk t n => s.resyncOk t n
  | .pollFail t n => s.openUnanswered t n
  | .guardFail t => s.resyncStart t
  | .profile t => if s.runs t then s.profSwitch t else s
  | .vinOk => s.profFollow
  | .collect t => s.joinChoose t
  | .nbrAges => s.nbrAgeCheck
  | .childAges => s.childCheck
  | .modelAges => s.modelCheck

/-- The octets of the scratch RAM that are not zero. -/
def State.scratch (s : State) : List Host.Cell :=
  s.mem.filter (fun c => decide (scratchBase ≤ c.1) && decide (c.1 < scratchBase + 0x1000))

/-- What a checkpoint copy is sealed with: the CRC-32 over the boundary ASN, the pair's register files and its scratch RAM (R78). -/
def State.ckptSeal (s : State) (no asn : Nat) : Nat :=
  crc32 (leBytes 5 asn ++ (List.range 128).map (Config.pairOctet no) ++ s.bytes scratchBase 4096)

/-- A checkpoint: register files and scratch RAM go to the copy that does not hold the latest checkpoint, sealed with the boundary ASN and a CRC-32,
and the journal restarts empty (R78). -/
def State.checkpoint (s : State) : State :=
  let t := s.hrt.lastTl
  let no := s.hrt.ckpt + 1
  let c : Ckpt := ⟨no, t, s.asn t, s.scratch, s.ckptSeal no (s.asn t)⟩
  s.mHrt (fun h => { h with journal := [], ckpt := no, ckpts := h.ckpts.set (no % 2) (some c) })

/-- A journal record, of which there are at most 256; the 192nd takes an extra checkpoint (R79). -/
def State.journalRec (s : State) (r : JrnRec) : State :=
  let s := s.mHrt (fun h => { h with journal := (h.journal ++ [r]).take 256 })
  if 192 ≤ s.hrt.journal.length ∧ s.recovering = false then s.checkpoint else s

/-- A journal record of a transmission or a cell: the neighbour, and the correction in µs. -/
def State.journal (s : State) (ev : JrnEv) (t : Tl) (src : Option Nat) (off rssi : Int) (lqi : Nat) : State :=
  s.journalRec ⟨ev, t, s.asn t, src, (0, 0), off, rssi, lqi⟩

/-- A cell counted LATE, or one that was not run (R79). -/
def State.journalCell (s : State) (ev : JrnEv) (t : Tl) (n : Option Nat) : State := s.journal ev t n 0 0 0

/-- Work that an event brings: at once, or after a recovery (R50). -/
def State.pairDo (s : State) (e : PairEv) : State :=
  if s.recovering then s.mHrt (fun h => { h with deferred := h.deferred ++ [e] }) else s.pairRun e

/-- A timekeeping exchange with a neighbour succeeded or was missed (R121): the frame engine writes MISS at once, and the mark after a third miss is
the pair's work (R122, R134). -/
def State.exchange (s : State) (n : Nat) (ok : Bool) : State :=
  if ok then s.missClear n
  else
    let s := s.missCount n
    if s.mg (N.MISS n) = 3 ∧ s.mb (N.LS n) = false then s.pairDo (.lost n) else s

/-! ## VIN_OK (R127-R129) -/

/-- VIN_OK changes: timelines that run no boundaries follow it (R127, R129); full-band listening of a stoked timeline drains (R128). A switch of
profile is work of the pair (Table 2-1); VIN_OK and INTERIM change at once. -/
def State.setVinOk (s : State) (ok : Bool) : State :=
  let s := (s.fp F.HRT_PROF_VIN_OK (b2n ok)).mHrt (fun h => { h with debounce := false })
  (s.pairDo .vinOk).interimShow

/-- The debounce has elapsed without interruption, Hearth released: VIN_OK becomes 1 (R127), also while the start waits for the TRNG or for flash (R254, R342). -/
def State.vinSteady (s : State) : State :=
  let st := s.fg F.HRT_STAT_STATE
  if s.hrt.debounce && st != hOff && (st != hRestarting || s.trngFail || s.bankBusy 0) then s.setVinOk true else s

/-- The lockout trips or the warning asserts: VIN_OK becomes 0 at once (R127). -/
def State.vinLost (s : State) : State := s.setVinOk false

/-! ## The listening pattern (R111) -/

/-- The radio runs no action and no window of a cell, so that it may rest in its automatic return state. -/
def State.radioRests (s : State) (t : Tl) : Bool :=
  (s.rad t).act.isNone && !(s.rad t).winOpen && [rOff, rIdle, rReady, rRxSc].contains (s.radioState t)

/-- The pattern of R111: a timeline that joins, or resynchronises without a known ADV cell (R119), listens on the next channel of its list where
full-band listening does not run: in keep-warm, and in every other case of R194. Nothing is begun after a fatal fault (R85).
A radio that is busy listens there once its action ends (R171). -/
def State.joinOpen (s : State) (t : Tl) : State :=
  if (s.joining t || s.resyncPattern t) && !s.fblRuns t && !s.hrt.fatal && s.radioState t != rClkFail && s.radioState t != rTest then
    let l := (s.tc t).band.hop
    let ch := nth l ((s.tlx t).joinPos % max 1 l.length) 0xFF
    let s := if s.radioRests t then (s.radioTo t rRxSc).radioTune t ch (s.tc t).band.beaconMode else s
    (s.mTl t (fun x => { x with joinPos := (x.joinPos + 1) % max 1 l.length })).mRad t (fun r => { r with patCh := some ch })
  else s

/-- The window of the pattern ends: a radio that listens there is off until the next one. -/
def State.joinClose (s : State) (t : Tl) : State :=
  if (s.rad t).patCh.isNone then s
  else
    let s := if s.radioRests t && s.radioState t == rRxSc then s.radioTo t rOff else s
    s.mRad t (fun r => { r with patCh := none })

end Sys2Proof.Machine
end

