-- ==== Sys2Proof/Machine/Tx.lean ====
section
/-! DEFINITION. Transmission: the attempt of a cell or an immediate queue, listening before it, its start and end, its outcome, and the
frames a receiver answers with (R60, R89, R97, R101-R103, R107, R121, R123-R125, R181-R188, R214, R215, R232). -/

namespace Sys2Proof.Machine

/-! ## Parts -/

/-- FCS octets of a timeline. -/
def State.fcsLen (s : State) (t : Tl) : Nat := if t = .a then s.hrt.cfg.fcs else 2

/-- The action's mode entry. -/
def State.actMode (s : State) (t : Tl) (a : TxAct) : ModeEntry := (s.tc t).mode a.mode

/-- The airtime of a PSDU without its FCS. -/
def State.airOf (s : State) (t : Tl) (mode : Nat) (o : List Byte) : Nat := airtime ((s.tc t).mode mode) (o.length + s.fcsLen t)

/-- Change the transmit action. -/
def State.setAct (s : State) (t : Tl) (a : Option TxAct) : State := s.mRad t (fun r => { r with act := a })

/-- Acknowledgements, gathered ones and those that answer an open poll; the frame that follows one is a data frame (R131). -/
def TxKind.resp : TxKind → Bool
  | .ack => true
  | .gack => true
  | _ => false

/-- The running slot's own transmission: its descriptor's, its beacon, its keep-alive or its poll. -/
def TxKind.ofSlot : TxKind → Bool
  | .desc _ _ => true
  | .beacon => true
  | .keepAlive => true
  | .poll slot => slot
  | _ => false

/-- A pending frame (R123). -/
def TxKind.isPend : TxKind → Bool
  | .pend _ _ => true
  | _ => false

/-- The slot's own transmission is over: nothing of it starts again. -/
def State.slotTxDone (s : State) (t : Tl) : State :=
  s.mTl t (fun x => { x with cur := x.cur.map (fun a => { a with desc := none, beacon := false, ka := false, poll := none }) })

/-- The outcome of the running slot's timekeeping cell is settled (R121). -/
def State.tkEnd (s : State) (t : Tl) (ok : Bool) : State := match (s.tlx t).cur with
  | some a => match a.tk with
    | some n => (s.mTl t (fun x => { x with cur := some { a with tk := none } })).exchange n ok
    | none => s
  | none => s

/-- An action's outcome settles the slot's timekeeping cell where the action is the slot's own (R121). -/
def State.tkOf (s : State) (t : Tl) (a : TxAct) (ok : Bool) : State := if a.kind.ofSlot then s.tkEnd t ok else s

/-- RSSI_OFFSET added to a measured level in dBm, saturated (R189). -/
def State.rssiOf (s : State) (level : Int) : Int := clampI (-128) 10 (level + s.hrt.cfg.rssiOff)

/-! ## Beginning an attempt (R60, R66, R232) -/

/-- The path and target of a transmission of a mode entry (R181). -/
def State.pathOf (s : State) (t : Tl) (ch : Nat) (m : ModeEntry) : Bool × Int :=
  (t == .a && s.stoked .a && !s.fb F.HRT_PROF_INTERIM && hpBand (s.chanKhz .a ch) && decide (40 ≤ s.targetOf t m), s.targetOf t m)

/-- No descriptor after all: the cell runs as if none were eligible (R233). -/
def State.slotNoDesc (s : State) (t : Tl) : State :=
  s.mTl t (fun x => { x with cur := x.cur.map (fun a =>
    let p := a.cell.bind (s.pollCell t)
    { a with desc := none, ka := a.cell.any keepsAlive && p.isNone, poll := p }) })

/-- Begin a descriptor's attempt: length, counter, protection (R60, R232, R233). DESIGN CHOICE (log 88): the wait of an immediate queue's or a pending
frame's descriptor counts in the half of LCE_CTR_STALL that is the descriptors', though no cell is concerned (R233 counts each). -/
def State.beginDesc (s : State) (t : Tl) (k : TxKind) (q i ch mode : Nat) : State :=
  let m := (s.tc t).mode mode
  if s.mg (D.ST q i) ≠ 1 then s
  else if m.maxPsdu < s.psduLen q i then s.complete q i ccTooLong 0
  else
    let sec := s.mb (D.SEC q i)
    let key := s.mg (D.KEY q i)
    let r := match (s.dx q i).ctr, sec with
      | some c, _ => (CtrOut.ok c, s)
      | none, true => s.takeCounter key
      | none, false => (CtrOut.ok 0, s)
    match r.1 with
    | .wait =>
      let s := r.2.fsat F.LCE_CTR_STALL_CELL
      if k.ofSlot then s.slotNoDesc t else s
    | .exhausted => r.2.complete q i ccKey 0
    | .ok c =>
      let s := r.2.mDx q i (fun x => { x with ctr := if sec then some c else none })
      let o := if sec then s.descSecure q i c else (s.descFrame q i, s)
      let s := o.2.setSt q i 2
      let h := parseMhr o.1
      let bc := s.mb (D.BCAST q i)
      let p := s.pathOf t ch m
      s.setAct t (some ⟨k, .tuning, ch, mode, o.1, if bc then none else some (s.mg (D.NBR q i)), !bc && h.ar,
        if h.seqSup then none else some h.seq, if sec then s.mg (D.SECLVL q i) else 0, key, p.1, p.2, 0, false, 0⟩)

/-- A frame of Hearth's own, in buffer 0 or 1 (R70, R121). -/
def State.beginOwn (s : State) (t : Tl) (k : TxKind) (ch mode : Nat) (o : List Byte) (nbr : Option Nat) (seq : Option Nat) : State :=
  let p := s.pathOf t ch ((s.tc t).mode mode)
  (s.putBytes (bufAddr t.bit + 64) o).setAct t (some ⟨k, .tuning, ch, mode, o, nbr, seq.isSome, seq, 0, 0, p.1, p.2, 0, false, 0⟩)

/-- Begin a keep-alive or a poll: an empty frame that requests an acknowledgement. -/
def State.beginEmpty (s : State) (t : Tl) (k : TxKind) (ch mode n : Nat) : State :=
  let q := s.hrt.seqNo
  (s.mHrt (fun h => { h with seqNo := (h.seqNo + 1) % 256 })).beginOwn t k ch mode (s.emptyFrame n q) (some n) (some q)

/-- Begin a beacon: one that needs a counter is not sent without it (R109, R233). -/
def State.beginBeacon (s : State) (t : Tl) (ch : Nat) : State :=
  let l := (s.tc t).link
  let r := match l.bcnKey with
    | some k => if l.bcnLevel = 0 then (CtrOut.ok 0, s) else s.takeCounter k
    | none => (CtrOut.ok 0, s)
  match r.1 with
  | .ok c => r.2.beginOwn t .beacon ch (s.tc t).band.beaconMode (r.2.beaconFrame t c) none none
  | .wait => (r.2.fsat F.LCE_CTR_STALL_ACK).slotTxDone t
  | .exhausted => r.2.slotTxDone t

/-- Begin the slot's frame that needs no descriptor: a beacon, a poll or a keep-alive. -/
def State.beginBare (s : State) (t : Tl) (a : Arm) (e : Nat) : State :=
  if a.beacon then s.beginBeacon t a.ch
  else match a.poll with
    | some n => s.beginEmpty t (.poll true) a.ch (cPhy e) n
    | none => if a.ka then s.beginEmpty t .keepAlive a.ch (cPhy e) (cNbr e) else s

/-- Begin what the running slot transmits, once. -/
def State.txBegin (s : State) (t : Tl) : State :=
  if (s.rad t).act.isSome || s.hrt.fatal || s.radioState t == rClkFail || s.radioState t == rTest then s
  else match (s.tlx t).cur with
  | none => s
  | some a => match a.done && !a.cal && !a.skip && !a.listen, a.cell with
    | true, some e => match a.desc with
      | some (q, i) =>
        let s := s.beginDesc t (.desc q i) q i a.ch (cPhy e)
        match (s.rad t).act, (s.tlx t).cur with
        | none, some a => if a.desc.isNone then s.beginBare t a e else s
        | _, _ => s
      | none => s.beginBare t a e
    | _, _ => s

/-! ## Tuning and listening before (R101, R102, R174, R187, R188, R214) -/

/-- The synthesiser begins retuning for the action, or for a receive cell the channelizer does not cover (R199). -/
def State.retune (s : State) (t : Tl) : State :=
  if [rClkFail, rCal, rTest, rTx, rRxFrame].contains (s.radioState t) || s.hrt.fatal then s
  else
    let s := s.txBegin t
    match (s.rad t).act, (s.tlx t).cur with
    | some a, _ =>
      if a.phase != .tuning then s
      else if s.radioState t = rReady ∧ s.fg (t.f F.RFA_STAT_CH) = a.ch ∧ s.vcoOk t then s.setAct t (some { a with phase := .ready })
      else ((s.leaveFbl t).radioTo t rLocking).radioTune t a.ch a.mode
    | none, some a =>
      if a.done && !a.skip && !a.cal && a.cell.any (fun e => cAct e != actTx && cAct e != actGatherTx) && (s.outOf t a.ch).isNone then
        ((s.leaveFbl t).radioTo t rLocking).radioTune t a.ch ((a.cell.map cPhy).getD 0)
      else s
    | none, none => s

/-- The synthesiser locks, where its VCO calibration is valid (R174, R179). -/
def State.synthLock (s : State) (t : Tl) : State :=
  if s.radioState t ≠ rLocking ∨ s.vcoOk t = false then s
  else
    let s := s.radioTo t rReady
    match (s.rad t).act with
    | some a => if a.phase = .tuning then s.setAct t (some { a with phase := .ready }) else s
    | none => s

/-- A listening interval is due before the action: CCA by its cell, or listen-before-talk by its sub-band (R102, R133). -/
def State.listens (s : State) (t : Tl) (a : TxAct) : Bool × Bool :=
  let cell := ((s.tlx t).cur.bind (·.cell)).getD 0
  ((match a.kind with
    | .desc _ _ => cCca cell || cShr cell
    | .keepAlive => cCca cell || cShr cell
    | .beacon => cCca cell || cShr cell
    | .poll slot => slot && (cCca cell || cShr cell)
    | _ => false), s.lbtBand t a.ch && a.kind != .ack && a.kind != .gack)

/-- Every check that an action needs before it has found the channel idle (R133, R187, R188). -/
def State.listened (s : State) (t : Tl) (a : TxAct) : Bool :=
  let l := s.listens t a
  !(l.1 || l.2) || a.clear

/-- The oldest pending frame of a neighbour: PRIO first, then the lowest queue, then ring order (log 45, DEDUCED). -/
def State.oldestPend (s : State) (t : Tl) (n : Nat) : Option (Nat × Nat) :=
  let qs := (List.range 16).filter (fun q => s.fb (F.HRT_Qn_CFG_EN q) && s.qTl q == t && !s.fb (F.HRT_Qn_CFG_IMM q))
  let l := qs.flatMap (fun q => ((s.queued q).filter (fun i => !s.mb (D.BCAST q i) && s.mg (D.NBR q i) == n)).map (fun i => (q, i)))
  match l.find? (fun p => s.mb (D.PRIO p.1 p.2)) with
  | some p => some p
  | none => l.head?

/-- The parent begins the pending frame that follows its acknowledgement (R123), where the radio is free for it and INTERIM permits it (R128, R181). -/
def State.pendBegin (s : State) (t : Tl) (d : AckDue) : State :=
  if [rClkFail, rTest, rCal].contains (s.radioState t) || s.hrt.fatal || (s.rad t).act.isSome || !s.vcoOk t ||
      !s.interimOk t d.ch ((s.tc t).mode d.mode) then s
  else match d.nbr.bind (s.oldestPend t) with
    | none => s
    | some (q, i) => s.beginDesc t (.pend q i) q i d.ch d.mode

/-- The time by which a listen-before-talk check begins before TsCcaOffset: uniform from 0 to LBT_RAND in steps of 20 µs, drawn from the TRNG
(R188); with the TRNG failed, LBT_RAND (R254). -/
def State.lbtDraw (s : State) (t : Tl) : Nat × State :=
  let n := (s.tc t).radio.lbtRand
  if s.trngFail then (n, s)
  else
    let r := s.draw
    (20 * (r.1.toNat % (n / 20 + 1)), r.2)

/-- A CCA or listen-before-talk interval begins, for the slot's own transmission, one that has begun, or a pending frame. -/
def State.ccaStart (s : State) (t : Tl) : State :=
  let s := s.txBegin t
  let s := match (s.rad t).lastAck with
    | some d => if s.lbtBand t d.ch then s.pendBegin t d else s
    | none => s
  match (s.rad t).act with
  | none => s
  | some a =>
    let l := s.listens t a
    if (l.1 || l.2) && !s.hrt.fatal && (a.phase == .tuning || a.phase == .ready) && s.vcoOk t &&
        !([rClkFail, rCal, rTest, rLocking, rOff, rTx].contains (s.radioState t)) then
      let r := if l.2 then s.lbtDraw t else (0, s)
      (((r.2.leaveFbl t).radioTo t rRxSc).radioTune t a.ch a.mode).setAct t (some { a with phase := .cca, clear := false, lbtR := r.1 })
    else s

/-- A 128 µs part meets a CCA mode's condition (Table 5-8). -/
def ccaBusy (mode : Nat) (thr : Int) (p : Int × Bool) : Bool :=
  let e := decide (thr ≤ p.1)
  match mode with
  | 0 => e
  | 1 => p.2
  | 2 => e || p.2
  | _ => e && p.2

/-- After a failed attempt in a shared cell: the backoff of TSCH CSMA-CA, a random number of shared cells (R97, log 43, PRESUMED). -/
def State.backoff (s : State) (t : Tl) (q i : Nat) (shared : Bool) : State :=
  if shared = false then s
  else
    let l := (s.tc t).link
    let be := min l.maxBe ((s.dx q i).be - 1 + (if (s.dx q i).be = 0 then l.minBe else 1))
    let r := s.draw
    r.2.mDx q i (fun x => { x with be := be + 1, wait := r.1.toNat % 2 ^ be })

/-- An attempt of a descriptor failed: it stays QUEUED until RETRY + 1 attempts have been made (R97). -/
def State.attemptFailed (s : State) (t : Tl) (q i : Nat) (busy : Bool) : State :=
  let s := s.mDx q i (fun x => { x with tries := x.tries + 1, busy := x.busy + b2n busy, late := 0 })
  let x := s.dx q i
  if s.mg (D.RETRY q i) + 1 ≤ x.tries then s.complete q i (if x.busy = x.tries then ccCca else ccNoAck) 0
  else
    let shared := (s.rad t).act.any (fun a => a.kind.ofSlot && ((s.tlx t).cur.bind (·.cell)).any cShr)
    (s.backoff t q i shared).setSt q i 1

/-- The action is over: one of the slot's own ends what the slot transmits (R89), a pending frame ends the answer it belongs to. -/
def State.actOver (s : State) (t : Tl) : State :=
  let a := (s.rad t).act
  let s := s.setAct t none
  let s := if a.any (fun a => a.kind.isPend) then s.mRad t (fun r => { r with lastAck := none }) else s
  if a.any (fun a => a.kind.ofSlot) then s.slotTxDone t else s

/-- The action ends and the radio returns. -/
def State.actEnd (s : State) (t : Tl) (gap : Nat) : State := (s.actOver t).radioReturn t gap

/-- A transmission ended without its frame on air, its descriptor staying QUEUED. -/
def State.actPut (s : State) (t : Tl) (a : TxAct) (gap : Nat) : State :=
  let s := match a.kind.descOf with
    | some (q, i) => s.setSt q i 1
    | none => s
  s.actEnd t gap

/-- The listening interval ends (R187, R188). `pre`: the level measured in each 128 µs part of the time drawn before TsCcaOffset, in which only
listen-before-talk listens; `parts`: that of each 128 µs part from TsCcaOffset on (of the whole interval, where no slot gives it), and whether an SHR
of the mode was detected in it. RSSI_OFFSET is added to every level (R189). An interval found busy by both checks counts as a busy CCA (log 54,
DESIGN CHOICE). -/
def State.ccaEnd (s : State) (t : Tl) (pre : List Int) (parts : List (Int × Bool)) (gap : Nat) : State := match (s.rad t).act with
  | none => s
  | some a =>
    if a.phase != .cca then s
    else
      let l := s.listens t a
      let r := (s.tc t).radio
      let parts := parts.map (fun p => (s.rssiOf p.1, p.2))
      let lbt := (pre.take (ceilDiv a.lbtR 128)).map s.rssiOf ++ parts.map Prod.fst
      let busyC := l.1 && parts.any (ccaBusy r.ccaMode r.edThr)
      let busyL := l.2 && lbt.any (fun p => decide (r.lbtThr ≤ p))
      if busyC || busyL then
        let s := s.fsat (t.f (if busyC then F.RFA_CCA_CNT_HI else F.RFA_CCA_CNT_LO))
        let s := match a.kind.descOf with
          | some (q, i) => s.attemptFailed t q i true
          | none => s
        ((s.journal .txOutcome t a.nbr 0 0 0).tkOf t a false).actEnd t gap
      else (s.radioTo t rReady).setAct t (some { a with phase := .ready, clear := true })

/-! ## On the air (R60, R75, R102, R131, R182, R183) -/

/-- The metadata of a descriptor's buffer at its frame start (Table 2-12). `sfd`: the SFD instant in 25 ns ticks after slot start. -/
def State.txMeta (s : State) (t : Tl) (a : TxAct) (q i sfd : Nat) : State :=
  let b := bufAddr (s.mg (D.BUF q i))
  let d := asnData t (s.asn t)
  let s := s.mDx q i (fun x => { x with sent := true })
  let s := ((s.sw b d.1).sw (b + 4) d.2).sw (b + 8) (w32 sfd)
  let s := s.sw (b + 0xC) (w32 (a.ch * 256 + (s.actMode t a).code))
  (s.sw (b + 0x10) (w32 ((s.dx q i).ctr.getD 0))).sw (b + 0x18) s.emberLo

/-- The ledger refuses the action (R131): its descriptor completes with DUTY_LIMIT; anything else is not sent and is counted. -/
def State.dutyRefuse (s : State) (t : Tl) (a : TxAct) (gap : Nat) : State :=
  let s := match a.kind.descOf with
    | some (q, i) => s.complete q i ccDuty 0
    | none => s.cnt 0x080
  ((s.journal .txOutcome t a.nbr 0 0 0).tkOf t a false).actEnd t gap

/-- The frame would take the HP path while VSYS is below 4.5 V (R457): the path starts no frame. -/
def State.hpStarved (s : State) (t : Tl) (ch mode : Nat) (m : PaMeas) : Bool :=
  (s.pathOf t ch ((s.tc t).mode mode)).1 && decide (m.vsys < 4500)

/-- The action's first symbol leaves with a power and code. -/
def State.onAir (s : State) (t : Tl) (a : TxAct) (sfd : Nat) (m : PaMeas) : State :=
  let s := s.ledgerAdd t a.ch (s.airOf t a.mode a.psdu)
  let p := s.pathOf t a.ch (s.actMode t a)
  let r := s.frameStart t (s.chanKhz t a.ch) p.1 p.2 m
  let s := (r.2.radioTo t rTx).radioTune t a.ch a.mode
  let s := s.setAct t (some { a with phase := .onAir, hp := p.1, power := r.1.1, code := r.1.2 })
  let s := match a.kind.descOf with
    | some (q, i) => (s.mDx q i (fun x => { x with late := 0 })).txMeta t a q i sfd
    | none => s
  match a.kind with
  | .beacon => (s.mTl t (fun x => { x with lastBcn := some s.rtc.ember })).cnt 0x08C
  | _ => s

/-- The first preamble symbol of the slot's, an immediate or a poll's frame leaves (R102), once the checks it needs have found the channel idle
(R133, R187, R188). -/
def State.txStart (s : State) (t : Tl) (sfd gap : Nat) (m : PaMeas) : State :=
  let s := s.txBegin t
  match (s.rad t).act with
  | none => s
  | some a =>
    if s.hrt.fatal || (a.phase != .ready && (a.phase != .tuning || s.fg (t.f F.RFA_STAT_CH) != a.ch)) || s.radioState t != rReady || !s.vcoOk t || !s.listened t a || a.kind.isPend then s
    else if s.interimOk t a.ch (s.actMode t a) = false ∨ s.hpStarved t a.ch a.mode m then (s.tkOf t a false).actPut t a gap
    else if s.ledgerOk t a.ch (s.airOf t a.mode a.psdu) a.kind.resp = false then s.dutyRefuse t a gap
    else s.onAir t a sfd m

/-- The synthesiser is still unlocked 20 µs after TsTxOffset (R68, R102). -/
def State.txLate (s : State) (t : Tl) (gap : Nat) : State :=
  let s := s.txBegin t
  match (s.rad t).act with
  | none => s
  | some a => match a.kind with
    | .imm _ _ => s
    | _ =>
      if a.phase != .tuning then s
      else
        let s := (s.cnt 0x064).journalCell .late t a.nbr
        let s := s.tkOf t a false
        match a.kind.descOf with
        | some (q, i) =>
          let s := s.mDx q i (fun x => { x with late := x.late + 1, lates := x.lates + 1 })
          if 4 ≤ (s.dx q i).late then (s.complete q i ccLate 0).actEnd t gap else s.actPut t a gap
        | none => s.actEnd t gap

/-- An attempt succeeded: its descriptor completes OK with the peer's correction. -/
def State.txOk (s : State) (t : Tl) (a : TxAct) (corr : Int) (gap : Nat) : State :=
  let s := match a.kind.descOf with
    | some (q, i) => (s.mDx q i (fun x => { x with tries := x.tries + 1 })).complete q i ccOk corr
    | none => s
  s.actEnd t gap

/-- The running slot's cell is a gathering cell in which this node sends, and the action is the slot's own: a gathered acknowledgement answers it,
on the base channel (R106). -/
def State.gathers (s : State) (t : Tl) (a : TxAct) : Bool :=
  a.kind.ofSlot && ((s.tlx t).cur.bind (·.cell)).any (fun e => cAct e == actGatherTx)

/-- What follows the last symbol: an acknowledgement is awaited, or the action ends. -/
def State.txAfter (s : State) (t : Tl) (a : TxAct) (gap : Nat) : State := match a.kind with
  | .ack => (s.setAct t none).radioReturn t gap
  | .gack => ((s.cnt 0x094).setAct t none).radioReturn t gap
  | .beacon => s.actEnd t gap
  | _ =>
    if a.ackReq then
      let base := ((s.tlx t).cur.map (fun c => c.lanes.head?.getD a.ch)).getD a.ch
      ((s.radioTo t rRxSc).radioTune t (if s.gathers t a then base else a.ch) a.mode).setAct t (some { a with phase := .ackWait })
    else (s.journal .txOutcome t a.nbr 0 0 0).txOk t a 0 gap

/-- The last symbol leaves (R97, R101, R106, R171); the power amplifier ramps down (R169, R182). -/
def State.txEnd (s : State) (t : Tl) (gap : Nat) : State := match (s.rad t).act with
  | none => s
  | some a =>
    if a.phase != .onAir then s
    else ((if t = .a then s.fclr F.RFA_STAT_PATH else s).txAfter t a gap).mRad t (fun r => { r with ramp := some a.hp })

/-- The acknowledgement window closes without a valid acknowledgement (R97, R121, R125). -/
def State.ackNone (s : State) (t : Tl) (gap : Nat) : State := match (s.rad t).act with
  | none => s
  | some a =>
    if a.phase != .ackWait || s.radioState t == rRxFrame then s
    else
      let s := s.journal .txOutcome t a.nbr 0 0 0
      let s := match a.kind.descOf with
        | some (q, i) => s.attemptFailed t q i false
        | none => s
      let s := match a.kind with
        | .poll false => s.pairDo (.pollFail t a.nbr)
        | _ => s.tkOf t a false
      s.actEnd t gap

/-- A correction every 2 ms of a long SUN-FSK or O-QPSK frame (R183), with a sample of the PA-adjacent sensor (R191). -/
def State.txCorrect (s : State) (t : Tl) (m : PaMeas) : State := match (s.rad t).act with
  | none => s
  | some a =>
    let e := s.actMode t a
    if a.phase == .onAir && !isOfdm e.code && decide (2000 < s.airOf t a.mode a.psdu) && s.fb (t.f F.RFA_THERM_COMP_EN) then
      let s := s.paTemp t m.pa
      let p := pathNo t a.hp
      let khz := s.chanKhz t a.ch
      let w := wantCode p khz a.power m
      s.setAct t (some { a with code := clampI (Config.paMin p) (Config.paMax p) (a.code + clampI (-2) 2 (w - a.code)) })
    else s

/-! ## Immediate queues (R89) -/

/-- An immediate queue's oldest QUEUED descriptor begins on a channel and mode (log 44, DESIGN CHOICE). -/
def State.immStart (s : State) (q ch mode : Nat) : State :=
  let t := s.qTl q
  if !(s.fb (F.HRT_Qn_CFG_EN q) && s.fb (F.HRT_Qn_CFG_IMM q) && decide (q < 16)) || (s.rad t).act.isSome ||
      s.hrt.fatal || [rTest, rCal, rTx, rRxFrame].contains (s.radioState t) then s
  else match (s.queued q).head? with
  | none => s
  | some i =>
    if s.radioState t = rClkFail then s.complete q i ccRadio 0
    else if s.interimOk t ch ((s.tc t).mode mode) = false then s
    else
      let s := s.beginDesc t (.imm q i) q i ch mode
      if (s.rad t).act.isSome then ((s.leaveFbl t).radioTo t rLocking).radioTune t ch mode else s

/-- It has waited 500 µs for lock. -/
def State.immTimeout (s : State) (t : Tl) (gap : Nat) : State := match (s.rad t).act with
  | some a => match a.kind, a.phase with
    | .imm q i, .tuning => ((s.complete q i ccRadio 0).journal .txOutcome t a.nbr 0 0 0).actEnd t gap
    | _, _ => s
  | none => s

/-! ## Acknowledgements (R103, R107, R124, R215) -/

/-- The child of an acknowledgement's neighbour. -/
def State.ackChild (s : State) (a : AckDue) : Option Nat := a.nbr.bind s.childOf

/-- A response through full-band listening is held (R215, Table 6-8): the acknowledgement, or the pending frame that would follow it. -/
def State.respHeld (s : State) (t : Tl) (d : AckDue) : State :=
  s.fsat (t.f (if d.openPoll then F.RFA_FBL_ACKHELD_LO else F.RFA_FBL_ACKHELD_HI))

/-- An open poll goes unanswered: its child entry counts it (R155, R215). -/
def State.declined (s : State) (d : AckDue) : State := match d.openPoll, s.ackChild d with
  | true, some c => s.childWrite c (fun s => s.msat (C.DECL c))
  | _, _ => s

/-- A reserved window is open, or a reserved unit is locked to a frame. -/
def State.rsvBusy (s : State) (t : Tl) : Bool :=
  (s.groups t).any (fun g => s.groupRsv t g && (s.uSt t g == 3 || (s.rad t).winOpen))

/-- A response frame leaves at once. -/
def State.respond (s : State) (t : Tl) (k : TxKind) (d : AckDue) (m : PaMeas) : State :=
  let s := s.leaveFbl t
  s.onAir t ⟨k, .ready, d.ch, d.mode, d.psdu, d.nbr, false, none, 0, 0, false, 0, 0, true, 0⟩ 0 m

/-- The radio cannot send: it has failed, it is in test mode, or its synthesiser cannot lock (R174, R179). -/
def State.radioMute (s : State) (t : Tl) : Bool := [rClkFail, rTest].contains (s.radioState t) || !s.vcoOk t

/-- An acknowledgement of a neighbour's frame counts in its child entry where its pending bit is 1 (R155). -/
def State.pendAcked (s : State) (n : Option Nat) (pend : Bool) : State := match pend, n.bind s.childOf with
  | true, some c => s.childWrite c (fun s => s.msat (C.PENDACK c))
  | _, _ => s

/-- The first acknowledgement that is due is sent, or held, or refused by the ledger. Where it comes before the pending frame of an earlier one, that
frame does not follow any more: the radio is committed, and it is held (R215). `clash`: its blanked interval overlaps an armed action of the
radio. -/
def State.ackSend (s : State) (t : Tl) (clash : Bool) (m : PaMeas) : State := match (s.rad t).ackDue with
  | [] => s
  | d :: rest =>
    let s := s.mRad t (fun r => { r with ackDue := rest })
    if s.radioMute t || (!d.viaFbl && (s.rad t).act.isSome) || s.hpStarved t d.ch d.mode m then s
    else if d.viaFbl && (clash || (s.rad t).act.isSome || s.rsvBusy t) then (s.respHeld t d).declined d
    else if s.ledgerOk t d.ch (s.airOf t d.mode d.psdu) true = false then (s.cnt 0x080).declined d
    else
      let s := (s.respond t .ack d m).journal .ackSent t d.nbr d.corr 0 0
      let s := (if d.openPoll then s.cnt 0x090 else s).pendAcked d.nbr d.pend
      let s := match (s.rad t).lastAck with
        | some p => if p.viaFbl then s.respHeld t p else s
        | none => s
      s.mRad t (fun r => { r with lastAck := if d.pend then some d else none })

/-- A pending frame fits after its acknowledgement: after an open poll no rule asks it, else under R96 in the span of the slot's cell (R123).
`sfd`: its SFD instant in 25 ns ticks after slot start. -/
def State.pendFits (s : State) (t : Tl) (d : AckDue) (a : TxAct) (sfd : Nat) : Bool :=
  let m := s.actMode t a
  let bond := (((s.tlx t).cur.bind (·.cell)).map cBond).getD 0
  d.openPoll || s.fitsFrom t m ((sfd / 40 : Nat) - tShr m) (a.psdu.length + s.fcsLen t) a.ackReq (bond + 1)

/-- The parent's pending frame follows its acknowledgement (R123, R124, Table 3-11), where it fits; in a sub-band of mode LBT once its check has found the
channel idle (R133), INTERIM still permits it (R128) and no fatal fault has come (R85); the ledger judges it as the data frame it is (R131). `clash`: as for the acknowledgement (R215). -/
def State.pendSend (s : State) (t : Tl) (clash : Bool) (sfd gap : Nat) (m : PaMeas) : State := match (s.rad t).lastAck with
  | none => s
  | some d =>
    let s := if s.lbtBand t d.ch then s else s.pendBegin t d
    let s := s.mRad t (fun r => { r with lastAck := none })
    match (s.rad t).act with
    | none => s
    | some a =>
      if !a.kind.isPend then s
      else if s.hrt.fatal || s.radioMute t || !s.listened t a || !s.interimOk t a.ch (s.actMode t a) || s.hpStarved t d.ch d.mode m || !s.pendFits t d a sfd then
        s.actPut t a gap
      else if d.viaFbl && (clash || s.rsvBusy t) then (s.respHeld t d).actPut t a gap
      else if s.ledgerOk t a.ch (s.airOf t a.mode a.psdu) false = false then s.dutyRefuse t a gap
      else (s.leaveFbl t).onAir t a sfd m

/-! ## Gathered acknowledgements (R106, R107) -/

/-- The list of verified lane frames closes; the pending bits are those of this instant. -/
def State.gatherClose (s : State) : State :=
  if ((s.tlx .a).cur.bind (·.cell)).any (fun e => cAct e == actGatherRx) then
    s.mTl .a (fun x => { x with
      gclosed := true
      gath := x.gath.map (fun e => { e with pend := e.nbr.any s.pendBit }) })
  else s

/-- The gathered acknowledgement is built and sent on the base channel, under the gathering key. -/
def State.gackSend (s : State) (m : PaMeas) : State :=
  let x := s.tlx .a
  match x.cur.bind (·.cell), x.cur.bind (fun a => a.lanes.head?), (s.tc .a).link.gatherKey with
  | some e, some ch, some k =>
    if s.hrt.fatal || !x.gclosed || x.gath.isEmpty || (s.rad .a).act.isSome || cAct e != actGatherRx || s.radioMute .a then s
    else
      let s := s.mTl .a (fun x => { x with gath := [] })
      let r := s.takeCounter k
      match r.1 with
      | .wait => r.2.fsat F.LCE_CTR_STALL_ACK
      | .exhausted => r.2
      | .ok c =>
        let s := r.2
        let d : AckDue := ⟨ch, cPhy e, s.gackFrame x.gath k c, none, false, false, true, 0⟩
        if s.hpStarved .a ch d.mode m then s
        else if s.ledgerOk .a ch (s.airOf .a d.mode d.psdu) true = false then s.cnt 0x080
        else (s.respond .a .gack d m).forEach x.gath (fun s e => (s.pendAcked e.nbr e.pend).journal .ackSent .a e.nbr e.corr 0 0)
  | _, _, _ => s

/-! ## Open polls of this node (R119, R125) -/

/-- An open poll to the time source begins, on a channel of the hopping list that is drawn at random (log 45, DESIGN CHOICE: the parent hears any,
R124, and the manual does not say which the child takes). -/
def State.pollStart (s : State) (t : Tl) : State := match s.tsNow t with
  | none => s
  | some n =>
    if (s.rad t).act.isSome || s.hrt.fatal || [rClkFail, rTest, rCal, rTx, rRxFrame].contains (s.radioState t) then s
    else
      let l := (s.tc t).band.hop
      let r := s.draw
      let ch := nth l (r.1.toNat % max 1 l.length) 0xFF
      let mode := (s.tc t).band.pollMode
      (((r.2.beginEmpty t (.poll false) ch mode n).leaveFbl t).radioTo t rLocking).radioTune t ch mode

/-- 50 ms after an unanswered open poll, once (R125). -/
def State.repoll (s : State) (t : Tl) : State :=
  if (s.tlx t).openMiss = 1 then s.pollStart t else s

end Sys2Proof.Machine
end

