-- ==== Sys2Proof/Machine/Supply.lean ====
section
/-! DEFINITION. The supplies (R454-R464): the undervoltage lockout, the power-fail warning, VSYS, the supply samples, the trickle
charger and its staged set, and the I/O banks. -/

namespace Sys2Proof.Machine

/-- VSYS_OK and SRC follow the supplies (R454, R470). -/
def State.supShow (s : State) : State :=
  (s.fp F.SUP_STAT_VSYS_OK (b2n (decide (4500 ≤ s.sup.vsys)))).fp F.SUP_STAT_SRC (b2n (decide (s.sup.vkeep < s.sup.vsys)))

/-! ## The trickle charger (R459-R461) -/

/-- V_CV of the active set in mV. -/
def State.chgVcv (s : State) : Nat := 2500 + 50 * s.fg F.SUP_CHG_ACT_V_CV

/-- Radio A's HP path transmits above +20 dBm: a frame, or a test signal (R192). -/
def State.hpHigh (s : State) : Bool :=
  (s.rad .a).act.any (fun a => a.phase == .onAir && a.hp && decide (80 < a.power)) ||
  (s.radioState .a == rTest && s.fb F.RFA_TEST_PATH && s.fg F.RFA_TEST_MODE != 2 && decide (80 < s.radioPower .a))

/-- The charger pauses (R460). -/
def State.chgPaused (s : State) : Bool :=
  !s.sup.vinPresent || s.fb F.SUP_STAT_PFW || (s.fb F.SUP_CHG_ACT_NTC_EN && !s.fb F.SUP_STAT_NTC_OK) || s.sup.hot || s.hpHigh

/-- PRE, CC or CV by the level of VKEEP (Table 16-3). -/
def State.chgLevel (s : State) : Nat :=
  if s.sup.vkeep < 2000 then 1 else if s.sup.vkeep < s.chgVcv then 2 else 3

/-- The state the charger takes from `cur` (Table 16-3): FAULT stays until a commit or a reset, DONE until VKEEP has fallen 100 mV below
V_CV. -/
def State.chgNext (s : State) (cur : Nat) : Nat :=
  if s.fb F.SUP_CHG_ACT_EN = false then 0
  else if cur = 6 then 6
  else if cur = 4 ∧ s.chgVcv < s.sup.vkeep + 100 then 4
  else if s.chgPaused then 5
  else s.chgLevel

/-- The charger enters a state, with its event. -/
def State.chgGo (s : State) (n : Nat) : State :=
  if s.fg F.SUP_STAT_CHG = n then s
  else
    let s := (s.fp F.SUP_STAT_CHG n).mSup (fun x => { x with chgAt := s.sec })
    if n = 4 then s.fset F.SUP_EVT_CHG_DONE
    else if n = 5 then s.fset F.SUP_EVT_CHG_PAUSE
    else if n = 6 then s.fset F.SUP_EVT_CHG_FAULT
    else s

/-- The charger is judged anew: pauses at 110 °C of the die, resuming below 105 °C. -/
def State.chgEval (s : State) : State :=
  let h := if 1760 ≤ s.hrt.die then true else if s.hrt.die < 1680 then false else s.sup.hot
  let s := s.mSup (fun x => { x with hot := h })
  s.chgGo (s.chgNext (s.fg F.SUP_STAT_CHG))

/-- The range check of the charger set (R459). -/
def State.chgValueOk (s : State) : Bool :=
  !(s.fb F.SUP_CHG_STG_EN && !wBit (s.opt 0) 0) && decide (s.fg F.SUP_CHG_STG_V_CV ≤ 50) &&
    decide (1 ≤ s.fg F.SUP_CHG_STG_I_CC) && decide (s.fg F.SUP_CHG_STG_I_CC ≤ 12)

/-- GO on the charger set. -/
def State.chgSetGo (s : State) : State := s.stgArm .charger (s.stgCheck .charger s.chgValueOk)

/-- NTC_OK: with NTC_EN 1, the ratio at WAKE3 is inside the window of SUP_CHG_NTC (R461). -/
def State.ntcJudge (s : State) : State :=
  s.fp F.SUP_STAT_NTC_OK (b2n (s.fb F.SUP_CHG_ACT_NTC_EN && decide (s.fg F.SUP_CHG_NTC_HOT ≤ s.sup.ntc) && decide (s.sup.ntc ≤ s.fg F.SUP_CHG_NTC_COLD)))

/-- The charger set becomes active: FAULT and DONE are left and the charger re-enters its state by the new values. -/
def State.chgApply (s : State) : State :=
  let s := (s.wr R.SUP_CHG_ACT (s.rd R.SUP_CHG_STG)).ntcJudge
  s.chgGo (s.chgNext 0)

/-- A write of SUP_CHG_NTC moves the window (R461). -/
def State.ntcWrite (s : State) (a : Nat) (v : Word) : State := ((s.regStore a v).ntcJudge).chgEval

/-- VKEEP below 2.0 V after 30 min of PRE (Table 16-3). -/
def State.chgPreTimeout (s : State) : State :=
  if s.fg F.SUP_STAT_CHG = 1 ∧ s.sup.vkeep < 2000 then s.chgGo 6 else s

/-- The current has been below I_CC/10 for 60 s (Table 16-3). -/
def State.chgTerminate (s : State) : State :=
  if s.fb F.SUP_CHG_ACT_TERM && s.fg F.SUP_STAT_CHG == 3 then s.chgGo 4 else s

/-- A new VKEEP value appears in SUP_VMON, and one below SUP_KEEP_THR sets KEEP_LOW (R458). -/
def State.vkeepShow (s : State) : State :=
  let s := s.fp ⟨R.SUP_VMON, 15, 0⟩ (min s.sup.vkeep 0xFFFF)
  if s.sup.vkeep < s.fg F.SUP_KEEP_THR_THR then s.fset F.SUP_EVT_KEEP_LOW else s

/-- VKEEP crosses a level of Table 16-3, as SUP measures it. -/
def State.chgVkeep (s : State) (mv : Nat) : State := ((s.mSup (fun x => { x with vkeep := mv })).supShow).vkeepShow.chgEval

/-- The ratio at WAKE3 leaves or re-enters the window (R461). -/
def State.ntcRatio (s : State) (ratio : Nat) : State :=
  let s := s.mSup (fun x => { x with ntc := ratio })
  if s.fb F.SUP_CHG_ACT_NTC_EN then (s.ntcJudge).chgEval else s

/-- SUP_CHG_MON: the current in 0.1 mA, which in CV only the cell decides up to the bound of CC, half of I_CC from 95 °C on, and the minutes in the state (R470). -/
def State.chgMon (s : State) : Word :=
  let full := 50 * s.fg F.SUP_CHG_ACT_I_CC
  let cc := if 1520 ≤ s.hrt.die then full / 2 else full
  let i := match s.fg F.SUP_STAT_CHG with
    | 1 => 50
    | 2 => cc
    | 3 => (Config.freeWord s.free).toNat % (cc + 1)
    | _ => 0
  w32 (i * 0x10000 + min ((s.sec - s.sup.chgAt) / 60) 0xFFFF)

/-! ## VIN, VSYS and the samples -/

/-- The lockout trips (R455). -/
def State.vinDown (s : State) (mv : Nat) : State :=
  if s.sup.vinPresent = false then s
  else
    let s := s.mSup (fun x => { x with vinPresent := false, vin := mv })
    let s := ((s.fclr F.SUP_STAT_VIN_UV).fset F.SUP_EVT_VIN_DOWN).vinLost
    s.chgEval

/-- The lockout releases (R455): VSYS regulates, the debounce of VIN_OK begins. -/
def State.vinUp (s : State) (mv : Nat) : State :=
  if s.sup.vinPresent then s
  else
    let s := s.mSup (fun x => { x with vinPresent := true, vin := mv, vsys := 5000 })
    let s := (((s.fset F.SUP_STAT_VIN_UV).fset F.SUP_EVT_VIN_UP).emit 0x58 0).wakeEvent 1
    ((s.supShow).vinDebounce).chgEval

/-- The warning threshold in mV. -/
def State.pfwMv (s : State) : Nat := 100 * s.fg F.SUP_PFW_THR_THR

/-- VIN has been below the threshold for 2 µs (R456). -/
def State.powerFail (s : State) (mv : Nat) : State :=
  let s := s.mSup (fun x => { x with vin := mv })
  if s.fb F.SUP_STAT_PFW ∨ s.pfwMv ≤ mv then s
  else
    let s := (((s.fset F.SUP_STAT_PFW).fset F.PWR_EVT_PFW).emit 0x59 0).vinLost
    let s := s.ash3 0x0005 (w32 (mv % 0x10000 * 0x10000 + s.sup.vkeep % 0x10000)) 0 0
    (s.ashFlushStart true none).chgEval

/-- The warning deasserts: VIN 0.5 V above the threshold for 1 ms, or 100 ms after the lockout tripped (R456). -/
def State.pfwOff (s : State) (mv : Nat) : State :=
  let s := s.mSup (fun x => { x with vin := mv })
  if s.fb F.SUP_STAT_PFW && (decide (s.pfwMv + 500 ≤ mv) || !s.sup.vinPresent) then
    ((((s.fclr F.SUP_STAT_PFW).fset F.SUP_EVT_PFW_OFF)).vinDebounce).chgEval
  else s

/-- VSYS falls below 4.5 V: an HP frame on air is cut off and its attempt counts as unacknowledged (R457). -/
def State.vsysLow (s : State) (mv gap : Nat) : State :=
  let s := (s.mSup (fun x => { x with vsys := mv })).supShow
  if mv < 4500 then
    match (s.rad .a).act with
    | some a => if a.phase == .onAir && a.hp then (s.setAct .a (some { a with phase := .ackWait })).ackNone .a gap else s
    | none => s
  else s

/-- SUP samples VKEEP and VIN (R458). -/
def State.supplySample (s : State) (vin vkeep vsys : Nat) : State :=
  let s := (s.mSup (fun x => { x with vin := vin, vkeep := vkeep, vsys := vsys })).supShow
  ((s.fp ⟨R.SUP_VMON, 31, 16⟩ (min (vin / 10) 0xFFFF)).vkeepShow).chgEval

/-- The LOW flag of an I/O bank: 0 bank A, 1 bank B. -/
def ioLow (bank : Nat) : Fld := if bank = 0 then F.SUP_STAT_IOA_LOW else F.SUP_STAT_IOB_LOW

/-- The BOR enable of an I/O bank. -/
def ioBor (bank : Nat) : Fld := if bank = 0 then F.SUP_IO_CFG_BOR_A_EN else F.SUP_IO_CFG_BOR_B_EN

/-- A bank whose enable is 0 falls below its threshold: its pads go high-impedance (R464). -/
def State.ioBankLow (s : State) (bank : Nat) : State := if s.fb (ioBor bank) then s else s.fset (ioLow bank)

/-- The bank's supply returns (R464, R483). -/
def State.ioBankBack (s : State) (bank : Nat) : State := s.fclr (ioLow bank)

/-- A write of SUP_PFW_THR: a threshold outside 85-400 is ignored and sets WERR (R470). -/
def State.pfwWrite (s : State) (v : Word) : State :=
  let n := wField v 9 0
  if 85 ≤ n ∧ n ≤ 400 then s.fp F.SUP_PFW_THR_THR n else s.fset F.SUP_EVT_WERR

end Sys2Proof.Machine
end

