-- ==== Sys2Proof/Machine/Lum.lean ====
section
/-! DEFINITION. The lamp side (R426-R436, R443): the DALI interface, the 0-10 V dimming sink, the relay drivers and the motion input. -/

namespace Sys2Proof.Machine

/-- Change the DALI interface. -/
def State.mDali (s : State) (f : DaliSt → DaliSt) : State := s.mPer (fun p => { p with dali := f p.dali })

/-- Change the dimming ramp. -/
def State.mDim (s : State) (f : DimSt → DimSt) : State := s.mPer (fun p => { p with dim := f p.dim })

/-! ## DALI -/

/-- A send runs. -/
def State.daliBusy (s : State) : Bool := s.fg F.LUM_DALI_RES_STATE == 1

/-- A send ends with a code of Table 15-1 and, with ANSWER, the backward frame. -/
def State.daliEnd (s : State) (code back : Nat) : State :=
  let s := ((s.fp F.LUM_DALI_RES_STATE (if code ≤ 3 then 2 else 3)).fp F.LUM_DALI_RES_CODE code).fp F.LUM_DALI_RES_BACK back
  let s := s.mDali (fun d => { d with tx := none, abort := false, tries := 0 })
  ((s.fset F.LUM_EVT_DALI_TXDONE).emitChained 0x91 0x50).setHop 0x50 none

/-- What a forward word sends, with the priority in force: 16 bits, or 24 with LEN24, and twice with TWICE (R426, R428, Table 15-5). -/
def State.daliFrame (s : State) (v : Word) : DaliTx :=
  let b := if wBit v 28 then 24 else 16
  ⟨b, wField v 23 0 % 2 ^ b, s.fg F.LUM_DALI_CFG_PRIO, if wBit v 30 then 2 else 1⟩

/-- A send starts, by software (`hop` none) or by the flue task (R428): it latches the forward frame and its priority; a bus that is down ends it. -/
def State.daliSend (s : State) (hop : Option Nat) : State :=
  if s.daliBusy then (if hop = none then s.fset F.LUM_EVT_WERR else s)
  else if s.fb F.LUM_DALI_CFG_EN = false then s
  else
    let v := s.rd R.LUM_DALI_FWD
    let s := (s.mDali (fun d => { d with fwd := v, tx := some (s.daliFrame v), tries := 0, abort := false })).setHop 0x50 hop
    let s := ((s.fp F.LUM_DALI_RES_STATE 1).fp F.LUM_DALI_RES_CODE 0).fp F.LUM_DALI_RES_BACK 0
    if s.fb F.LUM_STAT_BUS_UP then s else s.daliEnd 5 0

/-- ABORT ends the send after the frame on the bus. -/
def State.daliAbort (s : State) : State := if s.daliBusy then s.mDali (fun d => { d with abort := true }) else s

/-- A frame of a send has left. Where TWICE asks for it again, it follows at the shortest settling time; after the last one, with EXPECT, the window for
a backward frame has ended: `heard` is the frame that began in it, or a framing error (`some none`), or nothing (R428). -/
def State.daliSent (s : State) (heard : Option (Option Nat)) : State :=
  if s.daliBusy = false then s
  else if s.per.dali.abort then s.daliEnd 6 0
  else if s.per.dali.tx.any (fun x => 2 ≤ x.left) then s.mDali (fun d => { d with tx := d.tx.map (fun x => { x with left := x.left - 1 }) })
  else if wBit s.per.dali.fwd 31 = false then s.daliEnd 0 0
  else match heard with
    | none => s.daliEnd 2 0
    | some none => s.daliEnd 3 0
    | some (some b) => s.daliEnd 1 (b % 256)

/-- A half-bit mismatch (R429): the attempt is lost; three lost attempts end the send. -/
def State.daliCollision (s : State) : State :=
  if s.daliBusy = false then s
  else
    let s := (s.fsat F.LUM_DALI_CNT_COLL).mDali (fun d => { d with tries := d.tries + 1 })
    if s.per.dali.abort then s.daliEnd 6 0
    else if 3 ≤ s.per.dali.tries then s.daliEnd 4 0
    else s

/-- The bus has stayed low for more than 45 ms (R430). -/
def State.daliDown (s : State) : State :=
  if s.fb F.LUM_STAT_BUS_UP = false then s
  else
    let s := ((s.fclr F.LUM_STAT_BUS_UP).fset F.LUM_EVT_BUS_DOWN).fsat F.LUM_DALI_CNT_DOWN
    if s.daliBusy then s.daliEnd 5 0 else s

/-- The bus is up again. -/
def State.daliUp (s : State) : State := s.fset F.LUM_STAT_BUS_UP

/-- A frame that does not answer the device's own send is received (R430): type 3 is a framing error. -/
def State.daliReceived (s : State) (ty data : Nat) : State :=
  if s.fb F.LUM_DALI_CFG_EN = false then s
  else
    let s := if ty = 3 then s.fsat F.LUM_DALI_CNT_FRM else s
    if 4 ≤ s.per.dali.rx.length then (s.fset F.LUM_EVT_RX_OVF).fsat F.LUM_DALI_CNT_OVF
    else
      let bits := nth [16, 24, 8, 24] (ty % 4) 24
      let s := s.mDali (fun d => { d with rx := d.rx ++ [⟨ty % 4, data % 2 ^ bits, s.emberLo⟩] })
      (s.fset F.LUM_EVT_DALI_RX).emit 0x90 0

/-- RX_POP removes the oldest entry. -/
def State.daliPop (s : State) : State := s.mDali (fun d => { d with rx := d.rx.drop 1 })

/-- LUM_DALI_RX: the oldest entry. -/
def State.daliRx (s : State) : Word := match s.per.dali.rx with
  | [] => 0
  | x :: t => w32 (0x80000000 + x.ty * 0x20000000 + (t.length + 1) * 0x1000000 + x.data)

/-- LUM_DALI_RXT: its stamp. -/
def State.daliRxt (s : State) : Word := match s.per.dali.rx with
  | [] => 0
  | x :: _ => x.stamp

/-- A write of LUM_DALI_CTL. -/
def State.daliCtl (s : State) (v : Word) : State :=
  let s := if wBit v 2 then s.daliPop else s
  let s := if wBit v 1 then s.daliAbort else s
  if wBit v 0 then s.daliSend none else s

/-- A write of LUM_DALI_CFG: a priority outside 1-5 is ignored and sets WERR (R449). -/
def State.daliCfg (s : State) (v : Word) : State :=
  let s := s.fp F.LUM_DALI_CFG_EN (wField v 31 31)
  let p := wField v 26 24
  if 1 ≤ p ∧ p ≤ 5 then s.fp F.LUM_DALI_CFG_PRIO p else s.fset F.LUM_EVT_WERR

/-! ## Dimming -/

/-- The level in force, as LUM_DIM_ACT and LUM_STAT show it. -/
def State.dimShow (s : State) (level target : Nat) (ramping : Bool) : State :=
  (((s.fp F.LUM_DIM_ACT_LEVEL level).fp F.LUM_DIM_ACT_TARGET target).fp F.LUM_DIM_ACT_RAMPING (b2n ramping)).fp F.LUM_STAT_DIM level

/-- A level and a ramp time (in 100 ms) are latched (R431); an APPLY after DIM_FAULT was cleared turns the sink on again (R432). -/
def State.dimTo (s : State) (level ramp : Nat) : State :=
  let l0 := s.fg F.LUM_DIM_ACT_LEVEL
  let off := s.per.dim.off && s.fb F.LUM_EVT_DIM_FAULT
  if ramp = 0 then (s.mDim (fun _ => ⟨level, level, 0, 0, off⟩)).dimShow level level false
  else (s.mDim (fun _ => ⟨l0, level, 0, ramp * 100, off⟩)).dimShow l0 level true

/-- APPLY. -/
def State.dimApply (s : State) : State := s.dimTo (s.fg F.LUM_DIM_STG_LEVEL) (s.fg F.LUM_DIM_STG_RAMP)

/-- Step `k` of a ramp of `n` steps from `l0` to `t` (R431). -/
def dimLevel (l0 t k n : Nat) : Nat := ((l0 : Int) + roundDiv (((t : Int) - l0) * k) n).toNat

/-- One millisecond of a ramp. -/
def State.dimStep (s : State) : State :=
  let d := s.per.dim
  if d.k < d.steps then
    let k := d.k + 1
    (s.mDim (fun x => { x with k := k })).dimShow (dimLevel d.l0 d.target k d.steps) d.target (decide (k < d.steps))
  else s

/-- DIM_SINK rises above 14 V (R432). -/
def State.dimFault (s : State) : State :=
  ((s.mDim (fun d => { d with off := true })).fset F.LUM_EVT_DIM_FAULT).emit 0x92 0

/-- The current DIM_SINK sinks, in 1/4,095 mA (R431, R432): 0 is full brightness. -/
def State.dimSink (s : State) : Nat :=
  if s.fb F.PAD_HOLD_LAMP then s.pwr.hold.dim
  else if s.fb F.LUM_DIM_CTL_EN && !s.per.dim.off then s.fg F.LUM_DIM_ACT_LEVEL else 0

/-- A write of LUM_DIM_CTL. -/
def State.dimCtl (s : State) (v : Word) : State :=
  let s := s.fp F.LUM_DIM_CTL_EN (wField v 31 31)
  if wBit v 0 then s.dimApply else s

/-! ## Relay drivers: 0 RLY_A, 1 RLY_B -/

/-- The driver is on. -/
def rlyOn (r : Nat) : Fld := if r = 0 then F.LUM_STAT_RLY_A else F.LUM_STAT_RLY_B
/-- The driver is pulsing. -/
def rlyPulsing (r : Nat) : Fld := if r = 0 then F.LUM_STAT_PULSE_A else F.LUM_STAT_PULSE_B
/-- The driver's MODE bit. -/
def rlyMode (r : Nat) : Fld := if r = 0 then F.LUM_RLY_CFG_A_MODE else F.LUM_RLY_CFG_B_MODE
/-- A_ON or B_ON. -/
def rlyReq (r : Nat) : Fld := if r = 0 then F.LUM_RLY_CTL_A_ON else F.LUM_RLY_CTL_B_ON
/-- The driver's fault flag. -/
def rlyFault (r : Nat) : Fld := if r = 0 then F.LUM_EVT_RLY_A_FAULT else F.LUM_EVT_RLY_B_FAULT
/-- The driver's pulse count. -/
def rlyCount (r : Nat) : Fld := if r = 0 then F.LUM_RLY_CNT_A else F.LUM_RLY_CNT_B

/-- The driver is in pulse mode (R433). -/
def State.rlyPulseMode (s : State) (r : Nat) : Bool := s.fb F.LUM_RLY_CFG_PAIR || s.fb (rlyMode r)

/-- A pulse request on this driver is refused: it is pulsing, or with PAIR 1 the other is (R434). -/
def State.rlyRefused (s : State) (r : Nat) : Bool :=
  s.fb (rlyPulsing r) || (s.fb F.LUM_RLY_CFG_PAIR && s.fb (rlyPulsing (1 - r)))

/-- A pulse begins on a driver in pulse mode whose fault is clear (R433, R435). -/
def State.rlyStart (s : State) (r : Nat) : State :=
  if s.rlyPulseMode r && !s.fb (rlyFault r) then
    ((s.fset (rlyOn r)).fset (rlyPulsing r)).fsat (rlyCount r)
  else s

/-- A software pulse request (R434). -/
def State.rlyPulse (s : State) (r : Nat) : State :=
  if s.rlyRefused r then s.fset F.LUM_EVT_WERR else s.rlyStart r

/-- A pulse ends after PULSE_MS. -/
def State.rlyPulseEnd (s : State) (r : Nat) : State :=
  if s.fb (rlyPulsing r) then (s.fclr (rlyPulsing r)).fclr (rlyOn r) else s

/-- A write of A_ON or B_ON (R433, R434): a 1 to a driver in pulse mode is refused. -/
def State.rlySwitch (s : State) (r : Nat) (on : Bool) : State :=
  if s.rlyPulseMode r then (if on then s.fset F.LUM_EVT_WERR else s)
  else (s.fp (rlyReq r) (b2n on)).fp (rlyOn r) (b2n (on && !s.fb (rlyFault r)))

/-- The driver trips (R435). -/
def State.rlyTrip (s : State) (r : Nat) : State :=
  (((s.fclr (rlyOn r)).fclr (rlyPulsing r)).fset (rlyFault r)).emit 0x92 0

/-- A write of LUM_RLY_CTL. -/
def State.rlyCtl (s : State) (v : Word) : State :=
  let s := (s.rlySwitch 0 (wBit v 16)).rlySwitch 1 (wBit v 17)
  let s := if wBit v 0 then s.rlyPulse 0 else s
  if wBit v 1 then s.rlyPulse 1 else s

/-- The bits of LUM_RLY_CFG that hold settings. -/
abbrev rlyCfgMask : Word := 0x83FF0003

/-- A driver that a change of mode puts into pulse mode is off. -/
def State.rlySettle (s : State) (r : Nat) : State :=
  if s.rlyPulseMode r && !s.fb (rlyPulsing r) then (s.fclr (rlyOn r)).fclr (rlyReq r) else s

/-- A write of LUM_RLY_CFG: a PULSE_MS outside 10-1,000, or a change while either driver pulses, is ignored and sets WERR (R433, R434). -/
def State.rlyCfg (s : State) (v : Word) : State :=
  let w := v &&& rlyCfgMask
  let ms := wField v 25 16
  let pulsing := s.fb F.LUM_STAT_PULSE_A || s.fb F.LUM_STAT_PULSE_B
  if ms < 10 ∨ 1000 < ms ∨ (pulsing = true ∧ w ≠ s.rd R.LUM_RLY_CFG) then s.fset F.LUM_EVT_WERR
  else ((s.wr R.LUM_RLY_CFG w).rlySettle 0).rlySettle 1

/-- A relay driver conducts: its latched state while the lamp group is held (R297). -/
def State.relayOn (s : State) (r : Nat) : Bool :=
  if s.fb F.PAD_HOLD_LAMP then (if r = 0 then s.pwr.hold.relayA else s.pwr.hold.relayB) else s.fb (rlyOn r)

/-! ## Lamp-safe defaults and the Pilot's LAMP request (R436) -/

/-- A relay action: 1 on, 2 off, 3 pulse; others nothing. A pulse asked of a static driver puts it into pulse mode first. -/
def State.rlyAction (s : State) (r act : Nat) : State :=
  if s.rlyPulseMode r then (if act = 1 ∨ act = 3 then (if s.rlyRefused r then s else s.rlyStart r) else s)
  else if act = 1 then s.rlySwitch r true
  else if act = 2 then s.rlySwitch r false
  else if act = 3 then ((s.fset (rlyMode r)).rlySettle r).rlyStart r
  else s

/-- A broadcast DAPC level is sent: a 16-bit forward frame to address 0xFE, with the interface enabled. -/
def State.dapc (s : State) (level : Nat) : State :=
  let s := (s.fset F.LUM_DALI_CFG_EN).wr R.LUM_DALI_FWD (w32 (0xFE00 + level % 256))
  if s.daliBusy then s else s.daliSend none

/-- The dimming sink takes a level at once. -/
def State.sinkTo (s : State) (level : Nat) : State := (s.fset F.LUM_DIM_CTL_EN).dimTo level 0

/-- The lamp-safe defaults are applied (R381, R436). -/
def State.lampSafe (s : State) : State :=
  let s := s.sinkTo (s.fg F.LUM_SAFE_DIM)
  let l := s.fg F.LUM_SAFE_DALI
  let s := if s.fb F.LUM_SAFE_DALI_EN && l != 0xFF then s.dapc l else s
  (s.rlyAction 0 (s.fg F.LUM_SAFE_RLY_A)).rlyAction 1 (s.fg F.LUM_SAFE_RLY_B)

/-- A LAMP request: a level 0-254, 0xFF unchanged, and the relay actions, 0xFF unchanged. -/
def State.lampSet (s : State) (level ra rb : Nat) : State :=
  let s := if 255 ≤ level then s
    else if s.fb F.LUM_SAFE_DALI_EN then s.dapc level
    else s.sinkTo (roundDiv ((254 - (level : Int)) * 4095) 254).toNat
  (s.rlyAction 0 ra).rlyAction 1 rb

/-! ## Motion (R443) -/

/-- A motion report. -/
def State.motion (s : State) : State :=
  (s.mUpd (fun u => { u with motionAt := some s.rtc.ember })).rsat R.LUM_MOT_CNT

/-- The configuration of IO24 that MOT_IN follows, as a number: the latched one while bank A is held (R297, R443). -/
def State.motPin (s : State) : Nat :=
  (if s.fb F.PAD_HOLD_BANK_A then (alGet s.pwr.hold.cfg 24).getD 0 else s.rd (R.PAD_CFGn 24)).toNat

/-- A debounced edge on MOT_IN: a report where the detector is enabled for it and IO24 carries MOT_IN with its input on; not in CINDER. -/
def State.motionEdge (s : State) (rising : Bool) : State :=
  let e := s.fg F.LUM_MOT_CFG_EDGE
  if s.fb F.LUM_MOT_CFG_PIN_EN && (if rising then e % 2 == 1 else decide (2 ≤ e)) &&
      (s.motPin >>> 4) % 4 == 1 && (s.motPin >>> 8) % 2 == 1 && (decide (s.pwr.state = .run) || decide (s.pwr.state = .banked)) then s.motion
  else s

end Sys2Proof.Machine
end

