-- ==== Sys2Proof/Machine/Rx.lean ====
section
/-! DEFINITION. Reception: start of frame, header-time checks, the filter, key selection, replay and duplicate checks, records,
acknowledgements and posting (R64, R73, R103, R137, R148-R158, R213, R229-R231, R241-R244). -/

namespace Sys2Proof.Machine

/-! ## Start of frame (R73) -/

/-- A frame that the receiver gives up: its group goes back, its single-channel path listens again. -/
def State.rxReject (s : State) (t : Tl) (x : RxFrame) (failed : Bool) : State :=
  let s := s.rxDrop t x
  match x.out with
  | some c => (if x.rsv then s else s.muteCount t c failed).groupBack t x.grp
  | none => if s.radioState t = rRxFrame then s.radioTo t rRxSc else s

/-- The receive path has found an SFD: a group in SEARCH on the output, or single-channel listening. -/
def State.rxReady (s : State) (t : Tl) : Option Nat → Bool
  | some c => s.radioState t == rFbl && (s.searching t c).isSome
  | none => s.radioState t == rRxSc && (s.rad t).act.all (fun a => a.phase == .ackWait)

/-- LQI of a signal-to-noise ratio in 1/16 dB (R190). -/
def lqiOf (snr : Int) : Nat := min 255 (roundDiv (snr + 64) 2).toNat

/-- The mode entry of a received frame: the first of its code (log 88, DESIGN CHOICE: the manual does not say which, where several share it; they
differ in powers and preamble only where they share a code). -/
def State.rxMode (s : State) (t : Tl) (code : Nat) : Nat := ((s.tc t).band.modes.findIdx? (fun m => m.code == code)).getD 0

/-- The SFD tick, in this slot, of a pending frame that follows an acknowledgement at its end + TsTxAckDelay (Table 3-11, R123). -/
def State.dataSfd (s : State) (t : Tl) (phy : Nat) (d : DataDue) : Int :=
  let m := (s.tc t).mode (s.rxMode t phy)
  let p := (s.tc t).tmpl
  let slots := (s.asn t + 2 ^ 40 - d.asn) % 2 ^ 40
  d.ackEnd + 40 * (p.txAck : Nat) + roundDiv (40 * m.shrNum : Nat) m.shrDen - 40 * (slots * p.len : Nat)

/-- Start of frame: Hearth takes any FREE buffer; with none the frame is not received. `tick`: the SFD instant in 25 ns ticks after slot start;
`rssi`: the level measured over the SHR in dBm (R189); `snr`: the signal-to-noise ratio in 1/16 dB (R190). -/
def State.sfdFound (s : State) (t : Tl) (via : Option Nat) (phy tick : Nat) (rssi snr : Int) : State :=
  if s.rxReady t via = false then s
  else
    let ch := match via with
      | some c => s.chOf t c
      | none => s.fg (t.f F.RFA_STAT_CH)
    let g := (via.bind (s.searching t)).getD 0
    let rsv := via.isSome && s.groupRsv t g
    let units := if via.isSome then (s.groupUnits t g).length else 0
    match s.freeBufs with
    | [] =>
      let s := (s.rsat (if t = .a then R.HRT_RXDROP_A else R.HRT_RXDROP_B)).cntR 0x048 t
      if via.isSome then (s.muteEnd t g).groupBack t g else s
    | b :: _ =>
      let s := s.setHolder b ownHearth
      let due := if via.isNone then (s.rad t).dataDue.map (s.dataSfd t phy) else none
      let x : RxFrame := ⟨via, .sfd, b, ch, phy, units, rsv, tick, s.rtc.ember, s.asn t, s.rssiOf rssi, lqiOf snr, 0, none, [], none, false, none, g, due⟩
      let s := s.mRad t (fun r => { r with rx := r.rx.filter (fun y => y.out != via) ++ [x] })
      if via.isSome then s.groupSet t g 3 else s.radioTo t rRxFrame

/-- A frame that came in a window has ended: with no other such frame and no reserved unit left, the window is over (R171, R208). -/
def State.windowDone (s : State) (t : Tl) (x : RxFrame) : State :=
  let inWin (y : RxFrame) : Bool := y.rsv || y.out.isNone
  if inWin x && !(s.rad t).rx.any inWin && !(s.groups t).any (s.groupRsv t) then
    (s.mRad t (fun r => { r with winOpen := false, dataDue := none })).outsShow t
  else s

/-- A frame's signal is lost before its end (Table 7-5). -/
def State.signalLost (s : State) (t : Tl) (via : Option Nat) (gap : Nat) : State := match s.rxAt t via with
  | none => s
  | some x =>
    let s := s.rxDrop t x
    match via with
    | some _ => ((s.muteEnd t x.grp).groupFree t x.grp).windowDone t x
    | none => if (s.rad t).act.isSome then s.radioTo t rRxSc else (s.windowDone t x).radioReturn t gap

/-! ## The PHR (R213) -/

/-- The counters of the output that a frame comes by; the single-channel path has none (R213, Table 2-15). -/
def State.outCounter (s : State) (t : Tl) (x : RxFrame) (bad : Bool) : State :=
  match x.out with
  | some c => s.cnt (outCnt t c + (if bad then 4 else 0))
  | none => s

/-- The largest PSDU for a frame: its cell's for a reserved unit and the single-channel path, else the largest of its code (R213). -/
def State.rxMax (s : State) (t : Tl) (x : RxFrame) (code : Nat) : Nat :=
  let cell := ((s.tlx t).cur.bind (·.cell)).map cPhy
  let act := (s.rad t).act.map (fun a => a.mode)
  let own := match act, cell with
    | some m, _ => m
    | none, some m => m
    | none, none => (s.tc t).band.beaconMode
  if x.rsv || x.out.isNone then ((s.tc t).mode own).maxPsdu
  else (((s.tc t).band.modes.filter (fun m => m.code == code)).map (·.maxPsdu)).foldl max 0

/-- The PHR's checks (Table 6-7): `fcs4` its FCS-type bit says 4 octets, `hcs` its check sequence holds, `code` the mode it names. -/
def State.phrBad (s : State) (t : Tl) (x : RxFrame) (len code : Nat) (modeSwitch fcs4 hcs : Bool) : Bool :=
  let l := len == 0 || decide (s.rxMax t x code < len)
  if code = 0x80 then l
  else if isOfdm code then !hcs || !(s.tc t).band.modes.any (fun m => m.code == code) || l
  else modeSwitch || fcs4 != (s.fcsLen t == 4) || l

/-- The PHR has been received. -/
def State.phr (s : State) (t : Tl) (via : Option Nat) (len code : Nat) (modeSwitch fcs4 hcs : Bool) : State := match s.rxAt t via with
  | none => s
  | some x =>
    if x.stage ≠ .sfd then s
    else if s.phrBad t x len code modeSwitch fcs4 hcs then
      let s := (s.cntR 0x050 t).outCounter t x true
      (s.chanOutcome t x.ch true).rxReject t x true
    else s.rxSet t { x with stage := .phr, len := len, phy := code }

/-! ## Steps 2 to 4 of Table 4-5 -/

/-- This node's addresses. -/
def State.ownAddr (s : State) (mode a : Nat) : Bool :=
  (mode == 2 && a == s.hrt.cfg.short && s.hrt.cfg.short != 0xFFFE) || (mode == 3 && a == s.ownExt)

/-- The PAN a frame is for (R149): its destination's, else its source's. -/
def Mhr.pan (m : Mhr) : Option Nat := match m.dstPan with
  | some p => some p
  | none => m.srcPan

/-- An acknowledgement is for the frame that waits for one (Table 4-6); a short source names the neighbour by its registered address. -/
def State.ackFor (s : State) (t : Tl) (m : Mhr) : Bool := match (s.rad t).act with
  | none => false
  | some a =>
    let src := m.srcMode == 0 || a.nbr.any (fun n => (m.srcMode == 3 && m.src == s.nbrExt n) || (m.srcMode == 2 && s.mb (N.SHV n) && m.src == s.mg (N.SHORT n)))
    a.phase == .ackWait && (m.dstMode == 0 || s.ownAddr m.dstMode m.dst || (s.gathers t a && m.dstMode == 2 && m.dst == 0xFFFF)) && src &&
    (m.seqSup || a.seq == some m.seq)

/-- The destination filter (Table 4-6). DESIGN CHOICE (log 88): at a ROOT, a data or command frame without destination address and without any PAN ID is
rejected: the row asks for the source PAN ID, which R149's 'if both are absent' does not supply. -/
def State.destOk (s : State) (t : Tl) (m : Mhr) : Bool :=
  let pan := match m.pan with
    | some p => p == s.hrt.cfg.pan || p == 0xFFFF
    | none => true
  if m.ty = 0 then m.dstMode == 0
  else if m.ty = 2 then s.ackFor t m
  else if m.srcMode = 0 then false
  else if m.dstMode = 0 then s.hrt.cfg.root && m.srcPan == some s.hrt.cfg.pan
  else pan && ((m.dstMode == 2 && m.dst == 0xFFFF) || s.ownAddr m.dstMode m.dst)

/-- The neighbour entry of a source address (R142, R145); an acknowledgement without one comes from the neighbour it was awaited from (Table 4-6). -/
def State.srcNbr (s : State) (t : Tl) (m : Mhr) : Option Nat :=
  if m.srcMode = 3 then s.lookExt m.src t else if m.srcMode = 2 then s.lookShort m.src t
  else if m.ty = 2 then (s.rad t).act.bind (fun a => a.nbr) else none

/-- Step 2: version and type. -/
def fcOk (m : Mhr) : Bool := m.ver == 2 && decide (m.ty ≤ 3)

/-- Step 2 for a frame at its frame control field. -/
def State.rxFc (s : State) (t : Tl) (x : RxFrame) (m : Mhr) : Option RxFrame × State :=
  if fcOk m then let x := { x with stage := .fc }; (some x, s.rxSet t x)
  else (none, (s.fsat F.HRT_FILT_CNT_HI).rxReject t x false)

/-- Step 3. -/
def State.rxDest (s : State) (t : Tl) (x : RxFrame) (m : Mhr) : Option RxFrame × State :=
  if s.destOk t m then let x := { x with stage := .dest }; (some x, s.rxSet t x)
  else (none, (s.fsat F.HRT_FILT_CNT_HI).rxReject t x false)

/-- Step 4. -/
def State.rxSource (s : State) (t : Tl) (x : RxFrame) (m : Mhr) : Option RxFrame × State :=
  let n := s.srcNbr t m
  if n.any (fun n => s.mg (N.ADM n) == admBlocked) then (none, (s.fsat F.HRT_FILT_CNT_LO).rxReject t x false)
  else let x := { x with stage := .source, nbr := n }; (some x, s.rxSet t x)

/-- The place of a stage in Table 4-5. -/
def RxStage.no : RxStage → Nat
  | .sfd => 0
  | .phr => 1
  | .fc => 2
  | .dest => 3
  | .source => 4
  | .aux => 5

/-- The steps of Table 4-5 that a frame has not passed yet, up to the one numbered `upto`. -/
def State.rxSteps (s : State) (t : Tl) (x : RxFrame) (m : Mhr) (upto : Nat) : Option RxFrame × State :=
  let r := if x.stage.no < 2 ∧ 2 ≤ upto then s.rxFc t x m else (some x, s)
  let r := match r.1 with
    | some x => if x.stage.no < 3 ∧ 3 ≤ upto then r.2.rxDest t x m else r
    | none => r
  match r.1 with
  | some x => if x.stage.no < 4 ∧ 4 ≤ upto then r.2.rxSource t x m else r
  | none => r

/-- A part of the header has been received. -/
def State.rxHeader (s : State) (t : Tl) (via : Option Nat) (o : List Byte) (upto : Nat) : State := match s.rxAt t via with
  | none => s
  | some x => if x.stage.no = 0 then s else (s.rxSteps t x (parseMhr o) upto).2

/-! ## Security (R150, R151, R227-R230) -/

/-- A frame type's place in the SECURITY section: beacon, data, command, acknowledgement. -/
def secClass (ty : Nat) : Nat := nth [0, 1, 3, 2] ty 0

/-- The receive key slot of a header (Table 7-3). -/
def State.rxKey (s : State) (t : Tl) (m : Mhr) : Option Nat :=
  if m.keyMode = 0 then
    let k := nth s.hrt.cfg.implicitKeys (4 * t.bit + secClass m.ty) 0xFF
    if k < 8 ∧ s.key0Ok k then some k else none
  else if m.keyMode = 1 then
    (List.range 8).find? (fun k => s.key0Ok k && s.fg (F.VLT_PGn_SLOTs_KEYIDX 0 k) == m.keyIdx &&
      (if m.ty = 0 then s.fg (F.VLT_PGn_SLOTs_USE 0 k) == 3 else [1, 2].contains (s.fg (F.VLT_PGn_SLOTs_USE 0 k))))
  else none

/-- A slot is a gathering key. -/
def State.gatherUse (s : State) (k : Nat) : Bool := s.fg (F.VLT_PGn_SLOTs_USE 0 k) == 2

/-- The sender's extended address, for the nonce. -/
def State.rxExt (s : State) (m : Mhr) (n : Option Nat) : Option Nat :=
  if m.srcMode = 3 then some m.src else n.map s.nbrExt

/-- A neighbour's link key has moved on from a slot (R150). -/
def State.oldKey (s : State) (n k : Nat) : Bool :=
  !s.gatherUse k && s.mb (N.LKV n) && s.mg (N.LKEY n) != k && s.hrt.oldKeys.contains (n, k)

/-- The last counter and slot recorded are those of the frame. -/
def State.lastIs (s : State) (n k ctr : Nat) : Bool :=
  if s.gatherUse k then s.mb (N.GKV n) && ctr == s.mg (N.GCTR n)
  else s.mb (N.LKV n) && s.mg (N.LKEY n) == k && ctr == s.mg (N.LCTR n)

/-- The duplicate classification (Table 4-7). DESIGN CHOICE (log 88): the table names LKEY and LCTR alone; for a frame under a gathering key its
conditions, and 'LCTR takes the counter' under DUP_MODE 1, are read of GKV and GCTR, the records R150 gives such a frame. -/
def State.isDup (s : State) (m : Mhr) (n : Nat) (key : Option Nat) : Bool :=
  let seqHit := !m.seqSup && s.mb (N.SEQV n) && s.mg (N.SEQ n) == m.seq
  match key with
  | none => seqHit
  | some k =>
    if m.seqSup then s.lastIs n k m.ctr
    else if s.hrt.cfg.dupMode then seqHit && decide ((if s.gatherUse k then s.mg (N.GCTR n) else s.mg (N.LCTR n)) ≤ m.ctr)
    else seqHit && s.lastIs n k m.ctr

/-- A frame is a replay by the records of its neighbour (R150): its counter is not above the last one under its slot and the frame is no duplicate, or
the neighbour has moved on from the slot (log 85, DEDUCED: the rule's first case would let a counter under such a slot pass). -/
def State.isReplay (s : State) (m : Mhr) (n k : Nat) : Bool :=
  s.oldKey n k ||
  (!s.isDup m n (some k) &&
    (if s.gatherUse k then s.mb (N.GKV n) && decide (m.ctr ≤ s.mg (N.GCTR n))
     else s.mb (N.LKV n) && s.mg (N.LKEY n) == k && decide (m.ctr ≤ s.mg (N.LCTR n))))

/-- A frame passes the replay check and is no duplicate candidate (R241): its counter is above the neighbour's last one, link or gathering as its slot
is, or no such record is valid. -/
def State.isFresh (s : State) (m : Mhr) (n k : Nat) : Bool :=
  !s.oldKey n k &&
  (if s.gatherUse k then !s.mb (N.GKV n) || decide (s.mg (N.GCTR n) < m.ctr)
   else !s.mb (N.LKV n) || decide (s.mg (N.LCTR n) < m.ctr))

/-- The slot and key of a frame: as taken at its first block (R226), the auxiliary header, else those of this moment. -/
def State.frameKey (s : State) (t : Tl) (x : RxFrame) (m : Mhr) : Option (Nat × List Byte) :=
  if x.stage = .aux then x.key else (s.rxKey t m).map (fun k => (k, s.key0 k))

/-- The outcome of step 6: the frame in clear without MIC, with its slot; or a failure, counted as AUTH_FAIL or as a replay. -/
inductive SecOut where
  | ok (o : List Byte) (key : Option Nat)
  | authFail
  | replay
  deriving DecidableEq, Repr

/-- Step 6 of Table 4-5; level 4 is not accepted (R227). -/
def State.rxSecure (s : State) (t : Tl) (x : RxFrame) (m : Mhr) (o : List Byte) : SecOut :=
  let low := decide (m.level < nth s.hrt.cfg.minLevel (secClass m.ty) 0)
  if m.level = 0 then (if low || m.sec then .authFail else .ok o none)
  else if m.level = 4 then .authFail
  else match s.frameKey t x m, s.rxExt m x.nbr with
  | some (k, key), some e =>
    let p := payOff m o
    let mic := micLen m.level
    if low || m.ctrSup || decide (o.length < p + mic) then .authFail
    else if m.ty ≠ 0 ∧ x.nbr.any (fun n => s.isReplay m n k) then .replay
    else
      let body := (o.drop p).take (o.length - p - mic)
      let r := frameOpen key (nonce e m.ctr m.level) (o.take p) body (o.drop (o.length - mic)) m.level
      if r.2 then .ok (o.take p ++ r.1) (some k) else .authFail
  | _, _ => .authFail

/-- A neighbour's link key moves to a slot: it has moved on from the one before (R150). -/
def State.keyMoved (s : State) (n k : Nat) : State :=
  let old := s.mg (N.LKEY n)
  if s.gatherUse k || !s.mb (N.LKV n) || old == k then s
  else s.mHrt (fun h => { h with oldKeys := (n, old) :: h.oldKeys.filter (fun p => p != (n, old)) })

/-- The records of a new frame (R150). -/
def State.rxRecords (s : State) (n : Nat) (m : Mhr) (key : Option Nat) : State :=
  let s := match key with
    | some k => s.keyMoved n k
    | none => s
  s.nbrWrite n (fun s =>
    let s := match key with
      | some k =>
        if s.gatherUse k then (s.mp (N.GCTR n) m.ctr).mp (N.GKV n) 1
        else ((s.mp (N.LKEY n) k).mp (N.LCTR n) m.ctr).mp (N.LKV n) 1
      | none => s
    if m.seqSup then s else (s.mp (N.SEQ n) m.seq).mp (N.SEQV n) 1)

/-- The one record a duplicate changes: its counter under DUP_MODE 1 (Table 4-7). -/
def State.dupRecord (s : State) (n : Nat) (m : Mhr) (key : Option Nat) : State := match key with
  | some k => if s.hrt.cfg.dupMode && !m.seqSup then
      s.nbrWrite n (fun s => s.mp (if s.gatherUse k then N.GCTR n else N.LCTR n) m.ctr) else s
  | none => s

/-! ## Time (R103, R104) -/

/-- SFD_expected − SFD_measured in µs, rounded to the nearest (R103): a frame is expected at TsTxOffset of its slot, one that follows an acknowledgement
with pending 1 at its own time (R123, R124). -/
def State.sfdErr (s : State) (t : Tl) (x : RxFrame) : Int := match x.expect with
  | some e => roundDiv (e - x.tick) 40
  | none =>
    let m := (s.tc t).mode (s.rxMode t x.phy)
    let d := m.shrDen
    roundDiv ((((s.tc t).tmpl.txOff * d + m.shrNum) * 40 : Nat) - (x.tick * d : Nat)) (40 * d : Nat)

/-- The time correction for a frame: saturated to ±2,047 µs (R103). -/
def State.rxCorr (s : State) (t : Tl) (x : RxFrame) : Int := clampI (-2047) 2047 (s.sfdErr t x)

/-- The observation that each frame of a neighbour gives of its clock (R104, R117), on a synchronised timeline (log 46, UNVERIFIED); a measured offset
does not saturate. -/
def State.rxObserve (s : State) (t : Tl) (x : RxFrame) (n : Nat) : State :=
  let c := s.sfdErr t x
  if s.sync t then s.pairDo (.observe n (if s.mb (N.TS n) then c else -c) false) else s

/-! ## Acknowledging (R103, R106, R124, R153-R156) -/

/-- An open poll: a frame that comes first-come while open polls are accepted. -/
def State.openPollFrame (s : State) (t : Tl) (x : RxFrame) : Bool := t == .a && x.out.isSome && !x.rsv && s.advOpenPoll .a

/-- A poll's marks in its child's entry (R155). -/
def State.pollSeen (s : State) (t : Tl) (x : RxFrame) (n : Nat) : State := match s.childOf n with
  | none => s
  | some c => s.childWrite c (fun s => ((s.mp (C.LASTPOLL c) s.sec).msat (C.POLLS c)).mp (C.OPENP c) (b2n (s.openPollFrame t x)))

/-- The lane of a gathering cell a frame came on. -/
def State.laneOf (s : State) (x : RxFrame) : Option Nat := match (s.tlx .a).cur with
  | some a => if a.cell.any (fun e => cAct e == actGatherRx) && x.rsv then a.lanes.findIdx? (fun c => c == x.ch) else none
  | none => none

/-- The short address an entry names a sender by. -/
def State.shortOf (s : State) (m : Mhr) (n : Option Nat) : Nat := if m.srcMode = 2 then m.src else (n.map (fun n => s.mg (N.SHORT n))).getD 0xFFFE

/-- A frame that requests an acknowledgement is answered: with an entry of the gathered one, or with its own. -/
def State.ackPrepare (s : State) (t : Tl) (x : RxFrame) (m : Mhr) (key : Option Nat) : State :=
  if m.ar = false ∨ (m.dstMode = 2 ∧ m.dst = 0xFFFF) ∨ 1 < m.ty ∧ m.ty ≠ 3 ∨ m.ty = 0 then s
  else
    let s := match x.nbr with
      | some n => s.pollSeen t x n
      | none => s
    let pend := x.nbr.any s.pendBit
    match t, s.laneOf x with
    | .a, some lane =>
      if (s.tlx .a).gclosed then s
      else s.mTl .a (fun y => { y with gath := y.gath ++ [⟨lane, s.shortOf m x.nbr, m.seq, pend, s.rxCorr .a x, x.nbr⟩] })
    | _, _ =>
      let r := match key with
        | some k => s.takeCounter k
        | none => (CtrOut.ok 0, s)
      match r.1 with
      | .wait => r.2.fsat F.LCE_CTR_STALL_ACK
      | .exhausted => r.2
      | .ok c =>
        let s := r.2
        let d : AckDue := ⟨x.ch, s.rxMode t x.phy, s.ackFrame m (key.getD 0) c pend (s.rxCorr t x), x.nbr, pend, s.openPollFrame t x, x.out.isSome, s.rxCorr t x⟩
        s.mRad t (fun r => { r with ackDue := r.ackDue ++ [d] })

/-! ## Classification and posting (R64, R388) -/

/-- A DATA rule matches. -/
def State.ruleHit (s : State) (m : Mhr) (n : Option Nat) (first : Nat) (r : RxRule) : Bool :=
  Nat.land first r.mask == Nat.land r.value r.mask &&
  (match r.kind with
    | 0 => true
    | 1 => n.any (fun n => s.mb (N.TS n))
    | 2 => n.any (fun n => (s.childOf n).isSome)
    | _ => let a := s.shortOf m n; decide (r.lo ≤ a) && decide (a ≤ r.hi))

/-- A class's place in RXCLASS (Table 2-6): DATA_0-DATA_7, 8 CMD, 9 EB_COPY, 10 PILOT, 11 STRANGER; none: unrouted. -/
def State.rxClass (s : State) (m : Mhr) (n : Option Nat) (o : List Byte) : Option Nat :=
  let first := oct o (payOff m o)
  if m.ty = 0 then some 9
  else if n.isNone then some 11
  else if m.ty = 3 then some 8
  else if first = s.hrt.cfg.upd.pilotDisp then some 10
  else s.hrt.cfg.rules.findIdx? (s.ruleHit m n first)

/-- The queue of a class, where it is enabled. -/
def State.classQueue (s : State) (c : Option Nat) : Option Nat := match c with
  | none => none
  | some c =>
    let q := nth s.hrt.cfg.rxq c 0xFF
    if q < 32 ∧ s.fb (F.HRT_Qn_CFG_EN q) then some q else none

/-- The metadata of a received frame (Table 2-12). -/
def State.rxMeta (s : State) (t : Tl) (x : RxFrame) (ctr exposed : Nat) : State :=
  let b := bufAddr x.buf
  let d := asnData t x.asn
  let s := (((s.wipe (b + 0x20) (b + 0x40)).sw b d.1).sw (b + 4) d.2).sw (b + 8) (w32 x.tick)
  let s := s.sw (b + 0xC) (w32 (unsigned 8 x.rssi * 0x1000000 + x.lqi * 0x10000 + x.ch * 256 + x.phy))
  let s := (s.sw (b + 0x10) (w32 ctr)).sw (b + 0x14) (w32 (x.units * 0x1000000))
  (s.sw (b + 0x18) (w32 x.ember)).sw (b + 0x1C) (w32 exposed)

/-- A receive descriptor's two words (Tables 2-9, 2-10), and what Hearth holds of it. `sec`: the frame was secured. -/
def State.rxDesc (s : State) (t : Tl) (x : RxFrame) (q i st len : Nat) (sec early verdict : Bool) : State :=
  let s := s.newDx q i { DescSt.init with buf := some x.buf }
  let w0 := st * 0x40000000 + x.buf * 0x1000000 + b2n sec * 0x8000 + b2n early * 0x4000 + b2n verdict * 0x2000 + t.bit * 0x1000 + len
  let w1 := b2n x.nbr.isSome * 0x80000000 + x.nbr.getD 0 * 0x200000 + x.ch * 0x2000 + x.lqi
  (s.sw (descAddr q i) (w32 w0)).sw (descAddr q i + 4) (w32 w1)

/-- A frame's buffer returns to FREE. -/
def State.rxFree (s : State) (x : RxFrame) : State := if x.buf < 64 then s.setHolder x.buf ownNone else s

/-! ## Pilot frames for other nodes (R383; the octets of Table 12-9 of two or more are taken least significant first, log 48, DEDUCED) -/

/-- The payload is a Pilot frame that is not for this node. -/
def State.pilotOther (s : State) (m : Mhr) (n : Option Nat) (o : List Byte) : Bool :=
  let p := o.drop (payOff m o)
  s.rxClass m n o == some 10 && decide (12 ≤ p.length) &&
    (if oct p 1 / 64 % 2 = 1 then octs p 2 2 != s.hrt.cfg.short else octs p 4 2 != s.hrt.cfg.short)

/-- The neighbour of a registered short address, on either timeline. -/
def State.nextHop (s : State) (sa : Nat) : Option Nat := match s.lookShort sa .a with
  | some n => some n
  | none => s.lookShort sa .b

/-- The next hop of a Pilot frame and its octets with the index or the hop count advanced; none where it is dropped. -/
def State.pilotNext (s : State) (p : List Byte) : Option (Nat × List Byte) :=
  if oct p 1 / 64 % 2 = 1 then
    if 16 ≤ oct p 11 % 32 then none
    else (s.tsNow .a).map (fun n => (n, p.set 11 (BitVec.ofNat 8 (oct p 11 + 1))))
  else
    let i := oct p 10 / 16
    if oct p 10 % 16 ≤ i then none
    else (s.nextHop (octs p (12 + 2 * i) 2)).map (fun n => (n, p.set 10 (BitVec.ofNat 8 (oct p 10 + 16))))

/-- The data frame that carries a forwarded payload to a neighbour, secured as the received one was; its counter comes with its attempt. -/
def State.pilotFrame (s : State) (m : Mhr) (aux : List Byte) (n seq : Nat) (p : List Byte) : List Byte :=
  let sh := s.mb (N.SHV n)
  let me := s.hrt.cfg.short != 0xFFFE
  let two := !sh && !me
  fcf 1 m.sec false true (!two) false false (if sh then 2 else 3) (if me then 2 else 3) ++ leBytes 1 seq ++ leBytes 2 s.hrt.cfg.pan ++
    (if sh then leBytes 2 (s.mg (N.SHORT n)) else leBytes 8 (s.nbrExt n)) ++
    (if me then leBytes 2 s.hrt.cfg.short else leBytes 8 s.ownExt) ++ aux ++ p

/-- A Pilot frame for another node is forwarded without being posted, or dropped and counted. -/
def State.pilotForward (s : State) (t : Tl) (x : RxFrame) (m : Mhr) (o : List Byte) : State :=
  let s := s.rxFree x
  let slot := [0, 1, 2, 3].find? (fun i => !s.hrt.fwd.contains i)
  match s.pilotNext (o.drop (payOff m o)), slot, s.freeBufs with
  | some (n, p), some i, b :: rest =>
    if rest.length < s.fg F.HRT_BUF_FREE_RX_RESERVE then s.cnt 0x09C
    else
      let aux := if m.sec then (o.take m.auxEnd).drop m.addrEnd else []
      let q := s.hrt.seqNo
      let f := s.pilotFrame m aux n q p
      let s := s.mHrt (fun h => { h with seqNo := (h.seqNo + 1) % 256, fwd := h.fwd ++ [i] })
      let s := (s.setHolder b ownHearth).putBytes (bufAddr b + 64) f
      let s := s.sw (descAddr fwdQ i) (w32 (0x40000000 + b * 0x1000000 + b2n m.sec * 0x8000 + f.length))
      s.sw (descAddr fwdQ i + 4) (w32 (n * 0x200000 + (s.rxKey t m).getD 0 * 0x40000 + m.level * 0x8000 + 3 * 0x800))
  | _, _, _ => s.cnt 0x09C

/-- Post a frame under R64. -/
def State.rxPost (s : State) (t : Tl) (x : RxFrame) (m : Mhr) (o : List Byte) : State :=
  if s.pilotOther m x.nbr o then s.pilotForward t x m o
  else match s.classQueue (s.rxClass m x.nbr o) with
  | none => (s.cnt 0x09C).rxFree x
  | some q =>
    if s.rxRoom q = false then ((s.fsat (F.HRT_Qn_STAT_CNT q)).cnt (0x108 + 0x10 * q)).rxFree x
    else
      let i := s.fg (F.HRT_Qn_PROD_IDX q) % 64
      let s := (s.putBytes (bufAddr x.buf + 64) o).rxMeta t x m.ctr 0
      let s := (s.rxDesc t x q i 3 o.length m.sec false true).rxAdvance q
      let s := (s.cnt (0x100 + 0x10 * q)).cntR 0x040 t
      if s.fg (F.HRT_Qn_CFG_OWNER q) = ownHost then s.hostNote 1 (s.rxNote q i 0) else s

/-! ## Early delivery (R241-R244) -/

/-- The auxiliary header has been received: the frame takes its key (R226), and R241 is judged. -/
def State.rxAux (s : State) (t : Tl) (via : Option Nat) (o : List Byte) : State := match s.rxAt t via with
  | none => s
  | some x =>
    if x.stage.no = 0 then s
    else
      let m := parseMhr o
      let r := s.rxSteps t x m 4
      match r.1 with
      | none => r.2
      | some x =>
        let s := r.2
        let len := x.len - s.fcsLen t - micLen m.level
        let key := (s.rxKey t m).map (fun k => (k, s.key0 k))
        let fresh := match x.nbr, key with
          | some n, some (k, _) => s.isFresh m n k
          | none, some _ => true
          | _, none => false
        let secured := m.level != 0 && m.level != 4 && !m.ctrSup
        s.rxSet t { x with stage := .aux, octets := o, key := key, earlyOk := secured && decide (1024 < len) && fresh && (m.ty == 1 || m.ty == 3) }

/-- The octets of a host's RX_PART notifications: each further 256 octets. -/
def State.hostParts (s : State) (q i b done : Nat) : Nat → State
  | 0 => s
  | k + 1 => (s.hostNote 2 (leBytes 1 q ++ leBytes 1 i ++ leBytes 2 done ++ s.bytes (b + 64 + done) 256)).hostParts q i b (done + 256) k

/-- Plaintext of the frame's first octets is in its buffer: the descriptor is posted, the rest of its frame area zero (R243), or its count of exposed
octets goes on. -/
def State.rxEarly (s : State) (t : Tl) (via : Option Nat) (o : List Byte) : State := match s.rxAt t via with
  | none => s
  | some x =>
    let m := parseMhr o
    let p := payOff m o
    match x.key, s.rxExt m x.nbr with
    | some (_, key), some e =>
      if x.earlyOk = false ∨ o.length < 256 ∨ x.len < o.length then s
      else
        let clear := o.take p ++ (frameOpen key (nonce e m.ctr m.level) (o.take p) (o.drop p) [] m.level).1
        let b := bufAddr x.buf
        match x.early with
        | some (q, i) =>
          let done := s.mg ⟨b + 0x1C, 15, 0⟩
          let s := (s.putBytes (b + 64) clear).mp ⟨b + 0x1C, 15, 0⟩ (o.length / 64 * 64)
          if s.fg (F.HRT_Qn_CFG_OWNER q) = ownHost then s.hostParts q i b (done / 256 * 256) (o.length / 256 - done / 256) else s
        | none => match s.classQueue (s.rxClass m x.nbr clear) with
          | none => s
          | some q =>
            if s.fb (F.HRT_Qn_CFG_EARLY q) = false ∨ s.rxRoom q = false ∨ s.pilotOther m x.nbr clear then s
            else
              let i := s.fg (F.HRT_Qn_PROD_IDX q) % 64
              let s := ((s.wipe (b + 64) (b + 64 + 2048)).putBytes (b + 64) clear).rxMeta t x m.ctr (o.length / 64 * 64)
              let s := (s.rxDesc t x q i 2 (x.len - s.fcsLen t - micLen m.level) m.sec true false).rxAdvance q
              let s := s.rxSet t { x with early := some (q, i) }
              if s.fg (F.HRT_Qn_CFG_OWNER q) = ownHost then s.hostParts q i b 0 (o.length / 256) else s
    | _, _ => s

/-- An early-delivered frame's verdict is OK. -/
def State.earlyOk (s : State) (t : Tl) (x : RxFrame) (q i : Nat) (m : Mhr) (o : List Byte) : State :=
  let b := bufAddr x.buf
  let done := s.mg ⟨b + 0x1C, 15, 0⟩ / 256 * 256
  let exposed := s.mg ⟨b + 0x1C, 15, 0⟩
  let s := (s.putBytes (b + 64) o).rxMeta t x m.ctr exposed
  let s := ((s.rxDesc t x q i 3 o.length m.sec true true).fset (F.HRT_Qn_STAT_VCHG q)).cnt (0x100 + 0x10 * q)
  let s := s.cntR 0x040 t
  if s.fg (F.HRT_Qn_CFG_OWNER q) = ownHost then s.hostNote 1 (s.rxNote q i done) else s

/-- A frame fails at its end. -/
def State.rxFailed (s : State) (x : RxFrame) : State := match x.early with
  | some (q, i) => s.earlyFail q i ccAuth
  | none => s.rxFree x

/-! ## Acknowledgements received (R97, R104, R108, R230) -/

/-- What an acknowledgement says of the frame that waits for it: whether it acknowledges the frame, its time correction, and its frame-pending bit. -/
structure AckRead where
  acked : Bool
  corr : Option Int
  pend : Bool
  deriving DecidableEq, Repr

/-- The entry of a gathered acknowledgement for this node's frame (R108). -/
def State.gatherFind (s : State) (seq : Nat) : Nat → List Byte → AckRead
  | 0, _ => ⟨false, none, false⟩
  | n + 1, e =>
    if e.length < 6 then ⟨false, none, false⟩
    else if octs e 0 2 = s.hrt.cfg.short ∧ oct e 2 = seq then ⟨true, some (signed 12 (octs e 4 2)), oct e 3 % 2 == 1⟩
    else s.gatherFind seq n (e.drop 6)

/-- An acknowledgement's content (R103, R107, R108). With the NACK bit it acknowledges nothing, and its correction counts all the same; one without a
Time Correction IE carries no correction. -/
def State.ackRead (s : State) (m : Mhr) (o : List Byte) (a : TxAct) : AckRead :=
  let ies := hdrIes o 64 m.auxEnd
  if m.dstMode = 2 ∧ m.dst = 0xFFFF then
    match ies.find? (fun e => e.1 == 0 && e.2.take 3 == s.ouiBytes && oct e.2 3 == 1), a.seq with
    | some e, some q => s.gatherFind q 8 (e.2.drop 5)
    | _, _ => ⟨false, none, false⟩
  else match ies.find? (fun e => e.1 == 0x1E) with
    | some e => ⟨octs e.2 0 2 / 32768 != 1, some (signed 12 (octs e.2 0 2)), m.pend⟩
    | none => ⟨true, none, m.pend⟩

/-- The end of a received frame of `n` octets with its FCS, in 25 ns ticks after the start of the slot in which its SFD came. -/
def State.frameLast (s : State) (t : Tl) (x : RxFrame) (n : Nat) : Int :=
  let m := (s.tc t).mode (s.rxMode t x.phy)
  x.tick + 40 * (airtime m n : Nat) - roundDiv (40 * m.shrNum : Nat) m.shrDen

/-- This node has been acknowledged by a neighbour (R123, R124): with pending 1 a data window follows on the frame's channel, and unless the frame was
an open poll the node polls that neighbour again where no data come; with pending 0 it has nothing to poll for. -/
def State.ackPend (s : State) (t : Tl) (a : TxAct) (x : RxFrame) (n : Nat) (pend : Bool) : State :=
  let opn := a.kind == .poll false
  let s := if pend then s.mRad t (fun r => { r with dataDue := some ⟨s.fg (t.f F.RFA_STAT_CH), a.mode, opn, x.asn, s.frameLast t x n⟩ }) else s
  s.mTl t (fun x => { x with
    openMiss := if opn || x.pollNext == a.nbr then 0 else x.openMiss
    pollNext := if pend && !opn then a.nbr else if x.pollNext == a.nbr then none else x.pollNext })

/-- A verified acknowledgement ends the attempt it answers. -/
def State.ackTake (s : State) (t : Tl) (m : Mhr) (o : List Byte) (x : RxFrame) (gap : Nat) : State := match (s.rad t).act with
  | none => s
  | some a =>
    let r := s.ackRead m o a
    let s := match a.nbr, r.corr with
      | some n, some c => s.pairDo (.observe n c (c.natAbs == 2047))
      | _, _ => s
    if r.acked = false then s.radioTo t rRxSc
    else
      let c := r.corr.getD 0
      let s := match a.nbr with
        | some n => (s.journal .txOutcome t (some n) c x.rssi 0).pairDo (.heard n)
        | none => s
      let s := match a.kind, a.nbr with
        | .poll false, some n => s.pairDo (.resyncOk t n)
        | _, _ => s.tkOf t a true
      let s := (s.ackPend t a x (o.length + s.fcsLen t) r.pend).txOk t a c gap
      match (s.rad t).dataDue with
      | some d => (s.radioTo t rReady).radioTune t d.ch d.mode
      | none => s

/-! ## Frame end -/

/-- A frame of a neighbour has passed step 6: its clock is observed, its mark LOST_SYNC clears, and an open timekeeping exchange with it succeeds
(R104, R117, R121, R122). -/
def State.nbrFrame (s : State) (t : Tl) (x : RxFrame) (n : Nat) : State :=
  let s := (s.pairDo (.heard n)).rxObserve t x n
  if (s.tlx t).cur.any (fun (a : Arm) => a.tk == some n) then s.tkEnd t true else s

/-- A journal record of a received frame (R79), of a source in the neighbour table or not. -/
def State.journalRx (s : State) (ev : JrnEv) (t : Tl) (x : RxFrame) (m : Mhr) : State :=
  s.journalRec ⟨ev, t, x.asn, x.nbr, (m.srcMode, m.src), s.rxCorr t x, x.rssi, x.lqi⟩

/-- A beacon that has passed step 6 (R110, R135, R146, R151). DESIGN CHOICE (log 87): where the image routes EB_COPY to no queue, no copy is made and
nothing is counted as unrouted: Table 2-6 has the class only if the image requests it. -/
def State.rxBeacon (s : State) (t : Tl) (x : RxFrame) (m : Mhr) (o : List Byte) (key : Option Nat) : State :=
  let late := key.isSome && s.sync t && (beaconSync (o.drop (payOff m o))).any (fun y => y.1 != x.asn)
  if late then (s.cnt 0x060).rxFree x
  else
    let s := match x.nbr with
      | some n =>
        let s := (s.nbrRssi n x.rssi).journalRx .beacon t x m
        (s.pairDo (.beacon t n o x.rssi x.ember)).nbrFrame t x n
      | none =>
        let s := s.journalRx .beacon t x m
        if m.srcMode = 3 then s.pairDo (.stranger t m.src key.isSome o x.rssi x.ember) else s
    if nth s.hrt.cfg.rxq 9 0xFF = 0xFF then s.rxFree x else s.rxPost t x m o

/-- A data or command frame of a neighbour has passed step 6, a duplicate or not (log 43, DEDUCED: a duplicate is a valid frame of its sender). -/
def State.rxFrom (s : State) (t : Tl) (x : RxFrame) (n : Nat) : State :=
  let s := (s.nbrRssi n x.rssi).nbrFrame t x n
  if (s.tlx t).pollNext = some n then s.mTl t (fun y => { y with pollNext := none }) else s

/-- A data or command frame that has passed step 6: duplicate check (which an early-delivered frame is never caught by, R241), records, acknowledgement
and posting. -/
def State.rxData (s : State) (t : Tl) (x : RxFrame) (m : Mhr) (o : List Byte) (key : Option Nat) : State :=
  let dup := x.early.isNone && x.nbr.any (fun n => s.isDup m n key)
  let s := match x.nbr with
    | some n => s.rxFrom t x n
    | none => s
  if dup then
    let s := match x.nbr with
      | some n => s.dupRecord n m key
      | none => s
    ((s.cnt 0x058).ackPrepare t x m key).rxFree x
  else
    let req := m.ty == 3 && oct o (payOff m o) == 4
    let s := match x.nbr with
      | some n =>
        let s := (s.rxRecords n m key).journalRx .accepted t x m
        if req then s.pairDo (.dataReq n) else s
      | none => s.journalRx .accepted t x m
    let s := s.ackPrepare t x m key
    match x.early with
    | some (q, i) => s.earlyOk t x q i m o
    | none => if req && x.nbr.isSome then s.rxFree x else s.rxPost t x m o

/-- An acknowledgement that has passed step 6: its RSSI counts (R137), and one to a secured frame must carry that frame's level (R230). -/
def State.rxAck (s : State) (t : Tl) (x : RxFrame) (m : Mhr) (o : List Byte) (key : Option Nat) (gap : Nat) : State :=
  let lvl := ((s.rad t).act.map (fun a => a.level)).getD 0
  let s := s.rxFree x
  let s := match x.nbr with
    | some n =>
      let s := s.nbrRssi n x.rssi
      if key.isSome then s.rxRecords n { m with seqSup := true } key else s
    | none => s
  if lvl = 0 ∨ m.level = lvl then s.ackTake t m o x gap else s

/-- Steps 5 to 8 of Table 4-5. -/
def State.rxFinish (s : State) (t : Tl) (x : RxFrame) (o : List Byte) (fcsOk : Bool) (gap : Nat) : State :=
  let m := parseMhr o
  let s := (s.outCounter t x !fcsOk).chanOutcome t x.ch !fcsOk
  if fcsOk = false then s.rxFailed x
  else match s.rxSecure t x m o with
  | .authFail => (s.cnt 0x05C).rxFailed x
  | .replay => (s.cnt 0x060).rxFailed x
  | .ok c key =>
    if m.ty = 0 then s.rxBeacon t x m c key
    else if m.ty = 2 then s.rxAck t x m o key gap
    else s.rxData t x m c key

/-- The end of a received frame: `o`, its PSDU without the FCS. -/
def State.frameEnd (s : State) (t : Tl) (via : Option Nat) (o : List Byte) (fcsOk : Bool) (gap : Nat) : State := match s.rxAt t via with
  | none => s
  | some x =>
    if x.stage.no = 0 then s
    else
      let r := s.rxSteps t x (parseMhr o) 4
      match r.1 with
      | none => r.2
      | some x =>
        let s := r.2.mRad t (fun r => { r with rx := r.rx.filter (fun y => y.out != via) })
        let s := (if via.isSome then (s.muteEnd t x.grp).groupFree t x.grp else s).windowDone t x
        let s := s.rxFinish t x o fcsOk gap
        if via.isSome ∨ s.radioState t ≠ rRxFrame then s
        else if (s.rad t).act.isSome then s.radioTo t rRxSc
        else if (s.rad t).ackDue.isEmpty then s.radioReturn t gap
        else s.radioTo t rReady

/-! ## Windows (R101, R123, R207-R209) -/

/-- The receiver listens on a channel through its single-channel path. -/
def State.listenOn (s : State) (t : Tl) (ch mode : Nat) : State :=
  if s.vcoOk t then (((s.mRad t (fun r => { r with winOpen := true })).leaveFbl t).radioTo t rRxSc).radioTune t ch mode else s

/-- The receiver starts listening: for the data that follow an acknowledgement with pending 1 (R123, R124); on a channel the channelizer does not cover;
or with the cell's reserved units. -/
def State.winOpen (s : State) (t : Tl) : State :=
  if s.hrt.fatal || (s.rad t).act.isSome || [rClkFail, rTest, rCal, rTx].contains (s.radioState t) then s
  else match (s.rad t).dataDue, (s.tlx t).cur with
  | some d, _ => s.listenOn t d.ch d.mode
  | none, none => s
  | none, some a =>
    if !a.done || a.skip || a.cal || !(a.listen || a.cell.any (armReceives a)) then s
    else if s.radioState t = rFbl ∧ ((s.outOf t a.ch).isSome ∨ a.lanes.isEmpty = false) then
      (s.mRad t (fun r => { r with winOpen := true })).outsShow t
    else s.listenOn t a.ch ((a.cell.map cPhy).getD (s.tc t).band.beaconMode)

/-- No window is open any more: reserved units become FREE, but for those locked to a frame (R208). -/
def State.windowsEnd (s : State) (t : Tl) : State :=
  let s := s.mRad t (fun r => { r with winOpen := false, dataDue := none })
  (s.forEach ((s.groups t).filter (fun g => s.groupRsv t g && decide (s.uSt t g < 3))) (fun s g => s.groupFree t g)).outsShow t

/-- Listening ends with no SFD detected, whether or not the radio could listen; the slot's exchange is missed, or the data window of an
acknowledgement closes. -/
def State.winClose (s : State) (t : Tl) (gap : Nat) : State :=
  let r := s.rad t
  let s := s.windowsEnd t
  if r.winOpen = false ∧ r.dataDue.isNone then s
  else
    let locked := (s.rad t).rx.any (fun x => x.rsv || x.out.isNone)
    let s := if locked || r.dataDue.isSome || !r.winOpen then s else s.tkEnd t false
    if (s.radioState t = rRxSc ∨ s.radioState t = rReady) ∧ (s.rad t).act.isNone then s.radioReturn t gap else s

end Sys2Proof.Machine
end

