-- ==== Sys2Proof/Machine/Snapshot.lean ====
section
/-! DEFINITION. Snapshots (R45-R49, R76; Tables 2-13 to 2-15): requests, the copy that a boundary freezes, its release and expiry. The frozen
copy lies in the snapshot window's memory, which only the holder reaches, while STATE is READY. -/

namespace Sys2Proof.Machine

/-- The snapshot window. -/
abbrev snapBase : Nat := 0x30000000

/-- GO of a request by `who` with the TL and SECT just written (R46). -/
def State.snapGo (s : State) (who : Nat) : State :=
  let t := Tl.ofBit (s.fg F.HRT_SNAP_REQ_TL)
  let st := s.fg F.HRT_SNAP_STAT_STATE
  if s.fg F.HRT_SNAP_REQ_SECT = 0 then s.snapRefuse 2
  else if t = .b ∧ s.hasB = false then s.snapRefuse 3
  else if st = 1 ∨ st = 2 then s.snapRefuse 1
  else if s.runs t = false then s.snapRefuse 4
  else (((s.fp F.HRT_SNAP_STAT_STATE 1).fp F.HRT_SNAP_STAT_HOLDER who).fp F.HRT_SNAP_STAT_SECT (s.fg F.HRT_SNAP_REQ_SECT)).mHrt
    (fun h => { h with snapFrozen := false, snapTl := t })

/-- The counters section's words, by offset, where they are not zero (Table 2-15). -/
def State.cntWords (s : State) : List (Nat × Nat) :=
  s.hrt.counters.map (fun p => (p.1, p.2.toNat)) ++
  (List.range 32).map (fun q => (0x10C + 0x10 * q, (ringFrom (s.fg (F.HRT_Qn_RECL_IDX q)) (s.fg (F.HRT_Qn_PROD_IDX q))).length)) ++
  (List.range s.hrt.cfg.ledger.length).flatMap (fun i => [(0x900 + 8 * i, s.ledgerUsed i / 1000), (0x904 + 8 * i, (s.sb i).limit)])

/-- The header (Table 2-14). -/
def State.snapHeader (s : State) (t : Tl) (ver : Nat) : List Byte :=
  let d := asnData t (s.asn t)
  let o := s.asn t.other
  let cells := ((List.range 4096).filter (fun i => cV (s.cell i))).length
  let body := leBytes 4 ver ++ leBytes 4 d.1.toNat ++ leBytes 4 d.2.toNat ++ leBytes 4 (s.fg F.HRT_SNAP_STAT_SECT) ++
    leBytes 8 s.rtc.ember ++ leBytes 4 (s.rtc.wcMs % 0x100000000) ++ leBytes 4 (s.rtc.wcMs / 0x100000000 + 0x10000 * s.rtc.wcEpoch) ++
    leBytes 4 (if s.runs t.other then o % 0x100000000 else 0) ++
    leBytes 4 (if s.runs t.other then 0x80000000 + o / 0x100000000 else 0) ++
    leBytes 4 (Sparse.get (fun _ => 0) s.hrt.counters 0x070).toNat ++ leBytes 4 (s.fg F.HRT_CHILD_USE_CNT * 0x10000 + s.fg F.HRT_NBR_USE_ENT) ++ leBytes 4 cells ++
    leBytes 8 0
  body ++ leBytes 4 (crc32 body)

/-- Copy `n` octets of link RAM into the window. -/
def State.snapCopy (s : State) (dst src n : Nat) : State := s.putBytes dst (s.bytes src n)

/-- At a boundary of the requested timeline the sections are frozen (R47); entries that a commit has still to write are copied as they will be (R114). -/
def State.snapFreeze (s : State) (t : Tl) : State :=
  if s.fg F.HRT_SNAP_STAT_STATE ≠ 1 ∨ s.hrt.snapFrozen ∨ s.hrt.snapTl ≠ t then s
  else
    let sect := s.fg F.HRT_SNAP_STAT_SECT
    let ver := ((s.rd R.HRT_SNAP_VER) + 1).toNat
    let d := asnData t (s.asn t)
    let s0 := s
    let s := (s.wipe snapBase (snapBase + 0x20000)).putBytes snapBase (s0.snapHeader t ver)
    let s := if sect % 2 = 1 then s0.cntWords.foldl (fun s p => s.st (snapBase + p.1) 4 p.2) s else s
    let s := if sect / 2 % 2 = 1 then s.snapCopy (snapBase + 0x4000) (nbrAddr 0) 0xC000 else s
    let s := if sect / 4 % 2 = 1 then s.snapCopy (snapBase + 0x10000) (childAddr 0) 0x4000 else s
    let s := if sect / 8 % 2 = 1 then s.snapCopy (snapBase + 0x14000) (cellAddr 0) 0x8000 else s
    let s := if sect / 8 % 2 = 1 then s.forEach s0.hrt.rewrite (fun s p => s.st (snapBase + 0x14000 + 8 * p.1) 8 p.2) else s
    ((s.wr R.HRT_SNAP_ASN_LO d.1).wr R.HRT_SNAP_ASN_HI d.2).mHrt (fun h => { h with snapFrozen := true })

/-- The copy is complete: READY, and the version rises (R47, R48). -/
def State.snapReady (s : State) : State :=
  if s.fg F.HRT_SNAP_STAT_STATE = 1 ∧ s.hrt.snapFrozen then
    ((s.fp F.HRT_SNAP_STAT_STATE 2).wr R.HRT_SNAP_VER (s.rd R.HRT_SNAP_VER + 1)).mHrt (fun h => { h with snapFrozen := false })
  else s

/-- The snapshot unit is IDLE and has no holder. -/
def State.snapClose (s : State) : State :=
  ((s.fp F.HRT_SNAP_STAT_STATE 0).fp F.HRT_SNAP_STAT_HOLDER ownNone).mHrt (fun h => { h with snapFrozen := false })

/-- A write of HRT_SNAP_REL returns STATE to IDLE (R49): the holder's, whatever STATE is (log 49, DESIGN CHOICE: the rule does not say what
another initiator's write does). -/
def State.snapRelease (s : State) (who : Nat) : State :=
  if s.fg F.HRT_SNAP_STAT_HOLDER = who then s.snapClose else s

/-- One second after READY without a release: EXPIRED (R49). HOLDER keeps the identity that can still release (log 49, DESIGN CHOICE). -/
def State.snapExpire (s : State) : State := if s.fg F.HRT_SNAP_STAT_STATE = 2 then s.fp F.HRT_SNAP_STAT_STATE 3 else s

end Sys2Proof.Machine
end

