-- ==== Sys2Proof/Machine/HearthStart.lean ====
section
/-! DEFINITION. Hearth's start: the choice of a configuration copy and what its sections set (R54-R56, R132, R142, R378, R388;
Table 2-3). -/

namespace Sys2Proof.Machine

/-! ## What the configuration shows in registers and tables -/

/-- Templates, guard, admission and reserve (Tables 3-10, 4-9). -/
def State.cfgRegs (s : State) : State :=
  let c := s.hrt.cfg
  let tpl (t : Tl) : Word := match c.tl t with
    | some x => w32 (x.tmpl.txOff * 0x10000 + x.tmpl.len / 100)
    | none => 0
  let g (t : Tl) : Nat := ((c.tl t).map (fun x => x.tmpl.guardMax)).getD 0
  let s := ((s.wr R.HRT_TPL_A (tpl .a)).wr R.HRT_TPL_B (tpl .b)).wr R.HRT_GUARD (w32 (g .b * 0x10000 + g .a))
  let s := (s.fp F.HRT_ADM_ADM_MODE c.admMode).fp F.HRT_ADM_CHILD_AUTO (b2n c.childAuto)
  let s := (s.fp F.HRT_ADM_ROOT (b2n c.root)).fp F.HRT_ADM_DUP_MODE (b2n c.dupMode)
  let s := (s.fp F.HRT_ADM_ADM_RATE c.admRate).fp F.HRT_ADM_NBR_AGE c.nbrAge
  let s := (s.fp F.HRT_ADM_RSSI_ADM_RSSI_A (unsigned 8 c.rssiA)).fp F.HRT_ADM_RSSI_ADM_RSSI_B (unsigned 8 c.rssiB)
  let s := (s.fp F.HRT_BUF_FREE_RX_RESERVE c.rxReserve).fp F.HRT_ID_CFG (c.version % 0x10000)
  let s := (s.fp F.HRT_STAT_CFG_COPY c.copy).wr R.LUM_SAFE c.lampSafe
  let u := c.upd
  let s := (s.wr R.UPD_POLICY0 (w32 (u.motionWin * 0x10000 + u.vkeepMin))).wr R.UPD_POLICY1 (w32 (b2n u.downgrade * 0x80000000 + u.tExport * 0x10000 + u.tImport))
  let s := (s.wr R.UPD_PROB_TIME (w32 u.probTime)).wr R.UPD_MBOX (w32 u.mbox)
  s.forEach [Tl.a, Tl.b] (fun s t => (s.radioConfig t).tsShow t (s.tsNow t))

/-- Hearth takes the pin the image names for RFA_HPSEL (R479): its own, secure, locked, FUNC 0b01, pulled down; a task slot of the pin ends. -/
def State.hpselTake (s : State) : State :=
  let n := s.hrt.cfg.hpsel
  if n = 13 ∨ n = 40 then
    (s.wr (R.PAD_CFGn n) 0x80101210).slotsOff n
  else s

/-- The slotframe lengths of the image. -/
def State.cfgFrames (s : State) : State :=
  s.forEach [Tl.a, Tl.b] (fun s t => s.forEach (List.range 8) (fun s k =>
    let l := ((s.hrt.cfg.tl t).map (fun x => nth x.sfs k 0)).getD 0
    match t with
    | .a => s.fp (F.HRT_SF_As_LEN k) l
    | .b => s.fp (F.HRT_SF_Bs_LEN k) l))

/-- The cell-table entries of the image, as the table holds them; a later record of an index counts. -/
def HCfg.entries (c : HCfg) : List (Nat × Nat) :=
  ([Tl.a, Tl.b].flatMap (fun t => ((c.tl t).map (fun x => x.cells)).getD [])).foldl (fun l p => alSet l p.1 (cellStore p.2)) []

/-- The slotframes and the cell table of the image at Hearth's start: version 2 (R114). -/
def State.cfgCells (s : State) : State :=
  let s := (s.wipe (cellAddr 0) (cellAddr 4096)).cfgFrames
  let s := s.forEach s.hrt.cfg.entries (fun s p => s.st (cellAddr p.1) 8 p.2)
  ((s.wr R.HRT_SCH_VER 2).rmaxShow .a).rmaxShow .b

/-- The same at a configuration commit: the entries that change are rewritten after the boundary, as those of a schedule commit are (R114; log 81,
DESIGN CHOICE: the rule speaks of commits of the schedule set). -/
def State.cfgCellsCommit (s : State) : State :=
  let s := s.cfgFrames
  let l := s.hrt.cfg.entries
  let s := s.rewriteBegin ((List.range 4096).filterMap (fun i =>
    let v := (alGet l i).getD 0
    if s.cell i = v then none else some (i, v)))
  (s.rmaxShow .a).rmaxShow .b

/-- Queue settings of the image (R56): EN, OWNER, SEC, TL and IMM; IRQ and EARLY stay as they are. -/
def State.cfgQueues (s : State) : State :=
  s.forEach (List.range 32) (fun s q =>
    let v := w32 (nth s.hrt.cfg.queues q 0)
    let s := (s.fp (F.HRT_Qn_CFG_EN q) (wField v 31 31)).fp (F.HRT_Qn_CFG_OWNER q) (wField v 26 24)
    ((s.fp (F.HRT_Qn_CFG_SEC q) (wField v 20 20)).fp (F.HRT_Qn_CFG_TL q) (wField v 16 16)).fp (F.HRT_Qn_CFG_IMM q) (wField v 4 4))

/-- One ADDRESSES record (R388): a PINNED, BLOCKED or preferred entry, with its short address. -/
def State.cfgAddr (s : State) (a : AddrRec) : State :=
  let t := Tl.ofBit a.tl
  let adm := if a.kind = 1 then admBlocked else admPinned
  let r : Option (Nat × State) := match s.lookExt a.ext t with
    | some n => some (n, s)
    | none => s.nbrCreate t a.ext adm
  match r with
  | none => s.neighFull t
  | some (n, s) =>
    let s := s.nbrWrite n (fun s => (s.mp (N.ADM n) adm).mp (N.PREF n) (b2n (a.kind == 2)))
    let s := if adm = admBlocked then s.nbrDrop n else s
    if a.short = 0xFFFF then s else (s.nbrShort n a.short).2

/-- The FLUE presets: channels of HEARTH with SEC 1 (R388). -/
def State.cfgFlue (s : State) : State :=
  s.forEach s.hrt.cfg.flue (fun s p =>
    if s.fg (F.FLU_CHc_CFG_OWNER p.ch) ≠ ownHearth ∧ s.fg (F.FLU_CHc_CFG_OWNER p.ch) ≠ ownNone then s
    else
      let s := ((s.fp (F.FLU_CHc_CFG_EVENT p.ch) p.event).fp (F.FLU_CHc_CFG_SEC p.ch) 1).fp (F.FLU_CHc_CFG_OWNER p.ch) ownHearth
      let s := ((s.fp (F.FLU_CHc_CFG_WAKE p.ch) (b2n p.wake)).fp (F.FLU_CHc_CFG_LOCK p.ch) (b2n p.lock)).fp (F.FLU_CHc_CFG_EN p.ch) 1
      s.wr (R.FLU_CHc_TSK p.ch) (w32 ((List.range 4).foldl (fun v i => v + nth p.tasks i 0 * 256 ^ i) 0)))

/-- The page 0 keys of an image whose blobs all open: (slot, mode, header, key). -/
def State.cfgKeys (s : State) (c : HCfg) : Option (List (Nat × (Nat × (List Byte × List Byte)))) :=
  allSome (((c.keys.mapIdx (fun i k => (i, k))).filter (fun p => p.2.target < 8)).map (fun p =>
    (s.openRoot (s.bytes (cfgBlob c p.1) 64)).map (fun r => (p.2.target, p.2.mode, r.1, r.2))))

/-- Load the page 0 keys; a key of another KCV restarts its slot's counter (R238) where `rekey`. -/
def State.cfgKeysLoad (s : State) (l : List (Nat × (Nat × (List Byte × List Byte)))) (rekey : Bool) : State :=
  s.forEach l (fun s p =>
    let old := s.slotKcv p.1
    let s := s.keyUnwrapped 0 p.1 p.2.2.1 p.2.2.2
    let s := s.setKey 0 p.1 { s.key 0 p.1 with mode := p.2.1 }
    if rekey && s.slotKcv p.1 != old then s.rsvRekey p.1 else s)

/-! ## The start (Table 2-3) -/

/-- The copies that pass step 3, the better first (R54). -/
def State.cfgChoices (s : State) : List HCfg := match s.cfgPasses 0, s.cfgPasses 1 with
  | some a, some b => if a.seq < b.seq then [b, a] else [a, b]
  | some a, none => [a]
  | none, some b => [b]
  | none, none => []

/-- The copy in use, with its keys: the first whose blobs all open (R388). -/
def State.cfgChosen (s : State) : Option (HCfg × List (Nat × (Nat × (List Byte × List Byte)))) :=
  s.cfgChoices.findSome? (fun c => (s.cfgKeys c).map (fun k => (c, k)))

/-- What a start of Hearth begins with: counters, statistics and the radios' marks of this start (R77, R176, R185, R220). A radio in test mode stays
there (R192). DESIGN CHOICE (log 88): the hours of R179 and R185 since a radio's last RADIO_CAL_FAIL and PA_SENSOR record are forgotten, so that the
first such record after a start is written; the manual does not say. -/
def State.hearthFresh (s : State) : State :=
  let r := s.draws 2
  let h0 := HearthSt.init
  let s := (r.2.wipe scratchBase (scratchBase + 0x1000)).mHrt (fun h => { h0 with salt := ofLe (r.1.flatMap (fun w => leBytes 4 w.toNat)), ckpt := 0, die := h.die })
  let s := s.forEach s.radios (fun s t =>
    let z (a : Nat) (s : State) : State := s.wr (a + t.radio) 0
    let s := z R.RFA_FBL_DETCNT (z R.RFA_FBL_TOCNT (z R.RFA_FBL_NOUNIT (z R.RFA_FBL_SHORT (z R.RFA_FBL_ACKHELD s))))
    let s := (s.fp (t.f F.RFA_FBL_GAIN_STEPS) 0).fclr (t.f F.RFA_STAT_PADIS)
    let s := s.calAllStale t
    if s.radioState t = rTest then s else s.radioTo t (if s.radioState t = rClkFail then rClkFail else rOff))
  let s := ((s.wr R.HRT_SNAP_VER 0).snapClose).wr R.HRT_REC_STAT 0
  ((s.fp F.HRT_STAT_SYNC_A 0).fp F.HRT_STAT_SYNC_B 0).fp F.HRT_BUF_FREE_FREE s.freeBufs.length

/-- No copy passes (R55). -/
def State.hearthNone (s : State) : State :=
  let s := s.forEach (List.range 32) (fun s q => s.fclr (F.HRT_Qn_CFG_EN q))
  ((s.fp F.HRT_STAT_STATE hNoConfig).fset F.HRT_EVT_NOCFG).ash3 0x0010 0 0 0

/-- A root's timelines need no time source: they run from ASN 0 (log 47, DEDUCED). -/
def State.rootStart (s : State) : State :=
  if s.hrt.cfg.root then s.forEach [Tl.a, Tl.b] (fun s t => if s.tlThere t then (s.setAsn t 0).synced t else s) else s

/-- Step 4 and step 5 with the copy in use. `keep`: a HEARTH_FATAL restart keeps the queue settings (R56) and
reapplies no preset (R273). -/
def State.hearthLoad (s : State) (c : HCfg) (keys : List (Nat × (Nat × (List Byte × List Byte)))) (keep : Bool) : State :=
  let s := s.mHrt (fun h => { h with cfg := c })
  let s := ((s.cfgRegs).cfgCells).cfgKeysLoad keys false
  let s := if keep then s else s.cfgQueues
  let s := s.forEach c.addrs (fun s a => s.cfgAddr a)
  let s := if keep then s else (s.cfgFlue).hpselTake
  let s := (s.ledgerStart).rsvStart
  let s := s.fp F.HRT_STAT_STATE hJoining
  let s := s.forEach [Tl.a, Tl.b] (fun s t => (s.tsShow t none).exclShow t)
  s.profFollow.rootStart

/-- Hearth runs its start sequence. -/
def State.hearthStart (s : State) : State :=
  let st := s.fg F.HRT_STAT_STATE
  if s.rst.released = false ∨ (st ≠ hOff ∧ st ≠ hLoading ∧ st ≠ hRestarting) then s
  else
    let again := st == hRestarting
    let s := (s.fp F.HRT_STAT_STATE hLoading).hearthFresh
    let s := match s.cfgChosen with
      | some (c, k) => s.hearthLoad c k again
      | none => s.hearthNone
    let s := s.vinDebounce
    if again then s.fset F.HRT_EVT_FATAL else s

/-- With the TRNG failed the start waits at step 2 (R254), with a step running in bank 0 at step 3 (R342; log 58): STATE LOADING; after
HEARTH_FATAL it stays RESTARTING. VIN's debounce counts from the
release all the same (R127). -/
def State.hearthWait (s : State) : State :=
  let st := s.fg F.HRT_STAT_STATE
  if s.rst.released && (st == hOff || st == hRestarting) then (if st = hOff then s.fp F.HRT_STAT_STATE hLoading else s).vinDebounce else s

/-! ## A configuration commit (R378) -/

/-- Hearth takes the new copy as the copy in use at the named boundary; a timeline that it adds runs no slots yet and takes its profile from
VIN_OK (R129). A copy whose page 0 blob fails UNWRAP fails its check (R388). -/
def State.cfgCommitApply (s : State) (copy : Nat) : State := match (s.cfgPasses copy).bind (fun c => (s.cfgKeys c).map (fun k => (c, k))) with
  | none => s
  | some (c, k) =>
    let s := s.mHrt (fun h => { h with cfg := { c with queues := h.cfg.queues } })
    let s := ((s.cfgRegs).cfgCellsCommit.ledgerResize).cfgKeysLoad k true
    (((s.forEach c.addrs (fun s a => s.cfgAddr a)).cfgFlue).hpselTake).profFollow

end Sys2Proof.Machine
end

