-- ==== Sys2Proof/Machine/Lockstep.lean ====
section
/-! DEFINITION. Lockstep faults, recovery, and the fatal fault with its restart of the Hearth domain (R51, R81-R86; Tables 2-1, 2-16). -/

namespace Sys2Proof.Machine

/-- The Hearth domain's registers: HRT, RFA, RFB, LCE. -/
def hearthReg (a : Nat) : Bool := [0x40030, 0x40040, 0x40050, 0x40060].contains (a / 0x1000)

/-- HRT_Qn_CFG of any queue. -/
def queueCfgReg (a : Nat) : Bool := decide (0x40040200 ≤ a) && decide (a < 0x40040600) && a % 0x20 == 0

/-- The Hearth domain at its reset values, with link RAM, the scratch RAM and page 0 wiped (R85, R135). `keep`, a HEARTH_FATAL restart: the queue
settings stay (R56), and so do the enables of HRT_EVT, through which the restart asserts line 4 (R85; log 28, DEDUCED). -/
def State.hearthReset (s : State) (keep : Bool) : State :=
  let s := s.pageWipe 0
  let s := s.regsReset (fun a => hearthReg a && !(keep && (queueCfgReg a || a == R.HRT_EVT_EN)))
  let s := (s.wipe 0x30040000 0x30080000).wipe scratchBase (scratchBase + 0x1000)
  let s := s.wipe snapBase (snapBase + 0x20000)
  let s := s.mHrt (fun h => { HearthSt.init with die := h.die })
  let s := s.mVlt (fun v => { v with lce := none })
  s.mCs (fun l => l.filter (fun c => c != .nbr && c != .lce))

/-- A fatal fault: the sequencer arms nothing further (R85). -/
def State.fatalFault (s : State) : State := s.mHrt (fun h => { h with fatal := true })

/-- A lockstep mismatch: recovery starts, or a second one within a second is fatal (R81, R84). -/
def State.mismatch (s : State) : State :=
  let st := s.fg F.HRT_STAT_STATE
  if [hOff, hLoading, hRestarting, hNoConfig].contains st then
    (if st = hOff ∨ st = hRestarting then s else s.fatalFault)
  else
    let soon := match s.hrt.mismatchAt with
      | some e => decide (s.rtc.ember ≤ e + 32768)
      | none => false
    let t := s.hrt.lastTl
    let d := asnData t (s.asn t)
    let s := (s.wr R.HRT_REC_ASN_LO d.1).wr R.HRT_REC_ASN_HI d.2
    let s := s.mHrt (fun h => { h with mismatchAt := some s.rtc.ember })
    if s.recovering || soon then s.fatalFault
    else (s.mHrt (fun h => { h with saved := st })).fp F.HRT_STAT_STATE hRecovering

/-- A disagreement of the sequencer's three copies (R51). -/
def State.seqVote (s : State) (threeWay : Bool) : State :=
  if threeWay then s.mismatch else (s.cnt 0x074).rsat R.HRT_SEQ_VOTE

/-- Work that waited for the resumption; a resynchronisation with a source that accepts open polls begins with one (R119). -/
def State.pairResume (s : State) (e : PairEv) : State :=
  let s := s.pairRun e
  match e with
  | .guardFail t => if (s.tlx t).resync.isSome && s.tsOpen t then s.pollStart t else s
  | _ => s

/-- The pair resumes: the work that waited is done, the journal restarts (R82, R83). DESIGN CHOICE (log 87): so it is too where no boundary fell in
the recovery; R83 speaks of one that did. -/
def State.resume (s : State) (us : Nat) : State :=
  let todo := s.hrt.deferred
  let job := s.hrt.nbrJob
  let s := s.mHrt (fun h => { h with deferred := [], nbrJob := none })
  let s := s.fp F.HRT_STAT_STATE s.hrt.saved
  let s := s.forEach todo (fun s e => s.pairResume e)
  let s := match job with
    | some v => s.nbrRun v
    | none => s
  let s := (s.fsat F.HRT_REC_STAT_CNT).fp F.HRT_REC_STAT_DUR (min us 65535)
  let s := (s.cnt 0x070).fset F.HRT_EVT_REC
  let lo := s.rd R.HRT_REC_ASN_LO
  let hi := s.rd R.HRT_REC_ASN_HI
  (s.ash3 0x0012 lo hi (w32 us)).checkpoint

/-- The recovery ends: `crcOk`, the latest checkpoint copy passes its CRC (R81, R84). -/
def State.recover (s : State) (crcOk : Bool) (us : Nat) : State :=
  if s.recovering = false ∨ s.hrt.fatal then s
  else if crcOk then s.resume us else s.fatalFault

/-- The frame on air and any acknowledgement have completed: the Hearth domain is reset and Hearth restarts (R85, R86). -/
def State.hearthFatal (s : State) : State :=
  if s.hrt.fatal = false ∨ s.hrt.radios.any (fun r => r.act.any (fun a => a.phase == .onAir)) then s
  else
    let lo := s.rd R.HRT_REC_ASN_LO
    let hi := s.rd R.HRT_REC_ASN_HI
    -- the restart flushes what waits (Table 13-2); a fault reset's flush is urgent (R343)
    let s := (s.ash3 0x0013 lo hi 0).ashFlushStart true none
    let s := (s.fsat F.RST_HRT_CNT).fset F.RST_HRT_B0
    let s := (s.flcCancel reqHearth).hearthReset true
    s.fp F.HRT_STAT_STATE hRestarting

end Sys2Proof.Machine
end

