-- ==== Sys2Proof/Machine/Periph.lean ====
section
/-! DEFINITION. The metrology engine (R437-R440), the ADC (R441, R442), the timers (R444) and the serial engines (R445, R446). -/

namespace Sys2Proof.Machine

/-! ## Metrology -/

/-- The 64-bit register pair from an address, low word first. -/
def State.rd64 (s : State) (a : Nat) : Nat := (s.rd a).toNat + 0x100000000 * (s.rd (a + 4)).toNat

/-- Set the pair. -/
def State.wr64 (s : State) (a v : Nat) : State := (s.wr a (w32 v)).wr (a + 4) (w32 (v / 0x100000000))

/-- An accumulator takes energy in nWh: whole mWh are counted, signed modulo 2^64, the rest is carried. Answers the mWh counted. -/
def metAdd (frac e : Int) : Int × Int := ((frac + e) / 1000000, (frac + e) % 1000000)

/-- A publication (R438). -/
def State.metPublish (s : State) (m : MetVals) : State :=
  if s.fb F.MET_CFG_EN = false then s
  else
    let two := s.fb F.MET_CFG_I2_EN
    let s := (s.wr R.MET_VRMS (w32 m.vrms)).wr R.MET_IRMS1 (w32 m.irms1)
    let s := s.wr R.MET_IRMS2 (if two then w32 m.irms2 else 0)
    let s := (s.wr R.MET_P1 (w32 (unsigned 32 m.p1))).wr R.MET_P2 (if two then w32 (unsigned 32 m.p2) else 0)
    let s := (s.fp F.MET_STAT_FREQ m.freq).fp F.MET_STAT_LINE (b2n m.line)
    let a := metAdd s.per.frac.1 m.e1
    let b := metAdd s.per.frac.2 (if two then m.e2 else 0)
    let s := s.wr64 R.MET_E1_LO (unsigned 64 ((s.rd64 R.MET_E1_LO : Int) + a.1))
    let s := s.wr64 R.MET_E2_LO (unsigned 64 ((s.rd64 R.MET_E2_LO : Int) + b.1))
    let q := (s.rd R.MET_QUANT).toNat
    let g := s.per.metQ + a.1.toNat
    let n := if q = 0 then 0 else g / q
    let s := s.mPer (fun p => { p with frac := (a.2, b.2), metQ := if q = 0 then 0 else g % q })
    let s := if n = 0 then s else (s.fset F.MET_EVT_ENERGY).forEach (List.range n) (fun s _ => s.emit 0x89 0)
    if m.full then s.fset F.MET_EVT_OVF else s

/-- A rising zero crossing of the voltage (R438). -/
def State.metZero (s : State) : State := if s.fb F.MET_CFG_EN then (s.fset F.MET_EVT_ZC).emit 0x88 0 else s

/-- SNAP (R439). -/
def State.metSnap (s : State) : State :=
  let s := s.wr64 R.MET_SNAP_E1_LO (s.rd64 R.MET_E1_LO)
  let s := s.wr64 R.MET_SNAP_E2_LO (s.rd64 R.MET_E2_LO)
  (s.wr R.MET_SNAP_EMB s.emberLo).rinc R.MET_SNAP_CNT

/-- CLR_E (R439). -/
def State.metClear (s : State) : State :=
  ((s.wr64 R.MET_E1_LO 0).wr64 R.MET_E2_LO 0).mPer (fun p => { p with frac := (0, 0) })

/-- A write of MET_CTL: a snapshot takes the values from before a clear of the same write. -/
def State.metCtl (s : State) (v : Word) : State :=
  let s := if wBit v 0 then s.metSnap else s
  if wBit v 1 then s.metClear else s

/-- A staged gain is 0.5 to 2.0 in Q2.22 (R440). -/
def metGainOk (v : Word) : Bool := decide (0x200000 ≤ wField v 23 0) && decide (wField v 23 0 ≤ 0x800000)

/-- GO on the calibration set. -/
def State.metGo (s : State) : State :=
  let v := s.rd R.MET_CAL_STG_V
  s.stgArm .metCal (s.stgCheck .metCal (metGainOk v && wField v 31 24 == 0 && metGainOk (s.rd R.MET_CAL_STG_I1) && metGainOk (s.rd R.MET_CAL_STG_I2)))

/-- The calibration set becomes active. -/
def State.metApply (s : State) : State :=
  ((s.wr R.MET_CAL_ACT_V (s.rd R.MET_CAL_STG_V)).wr R.MET_CAL_ACT_I1 (s.rd R.MET_CAL_STG_I1)).wr R.MET_CAL_ACT_I2 (s.rd R.MET_CAL_STG_I2)

/-! ## ADC -/

/-- The zone bit of a channel. -/
def adcZone (k : Nat) : Fld := ⟨R.ADC_STAT, k, k⟩

/-- A result of a channel and its zone (R442). -/
def State.adcResult (s : State) (k res : Nat) : State :=
  let s := s.fp (F.ADC_RESk_RES k) res
  let hi := s.fg (F.ADC_LIMk_HI k)
  let lo := s.fg (F.ADC_LIMk_LO k)
  let old := s.fg (adcZone k)
  let z := if hi < lo then old else if hi < res then 1 else if res < lo then 0 else old
  let first := !s.per.adcSeen.contains k
  let s := (s.fp (adcZone k) z).mPer (fun p => { p with adcSeen := if first then k :: p.adcSeen else p.adcSeen })
  if z = old ∨ first = true then s else (s.fset F.ADC_EVT_LIMIT).emitChained 0x71 0x28

/-- Results of the running sequence, in ascending order of the channels: each raises DMA request 9; the last one ends the sequence (R441). -/
def State.adcDone (s : State) (l : List Nat) : State :=
  if s.fb F.ADC_STAT_BUSY = false then s
  else
    let s := s.forEach (s.per.adcLeft.zip l) (fun s p => (s.adcResult p.1 (p.2 % 4096)).mPer (fun x => { x with adcReq := x.adcReq + 1 }))
    let s := s.mPer (fun p => { p with adcLeft := p.adcLeft.drop l.length })
    if s.per.adcLeft ≠ [] then s
    else
      let s := s.fclr F.ADC_STAT_BUSY
      ((s.fset F.ADC_EVT_DONE).emitChained 0x70 0x28).setHop 0x28 none

/-- SAMPLE, by software (`hop` none) or by the flue task: ignored during a sequence (R441). -/
def State.adcSample (s : State) (hop : Option Nat) : State :=
  if s.fb F.ADC_STAT_BUSY ∨ s.fb F.ADC_CFG_EN = false then s
  else
    let seq := (List.range 8).filter (fun k => (s.fg F.ADC_CFG_SEQ / 2 ^ k) % 2 == 1)
    let s := ((s.fset F.ADC_STAT_BUSY).mPer (fun p => { p with adcLeft := seq })).setHop 0x28 hop
    if seq.isEmpty then s.adcDone [] else s

/-- A write of ADC_CFG: clearing EN ends a sequence, and each channel's next result is its first after EN. -/
def State.adcCfg (s : State) (v : Word) : State :=
  let s := s.regStore R.ADC_CFG v
  if wBit v 31 then s
  else ((s.fclr F.ADC_STAT_BUSY).mPer (fun p => { p with adcLeft := [], adcSeen := [] })).setHop 0x28 none

/-! ## Timers -/

/-- The timer counts edges on TMRt_IO1 (SRC 0b10): its count is known, where that of a clock is what the clock makes it. -/
def State.tmrEdges (s : State) (t : Nat) : Bool := s.fg (F.TMR_CFGt_SRC t) == 2

/-- The count is at `n`, at most TOP; one of edges is where it is. -/
def State.tmrAt (s : State) (t n : Nat) : State :=
  if s.tmrEdges t then s else s.wr (R.TMR_CNTt t) (w32 (min n (s.rd (R.TMR_TOPt t)).toNat))

/-- A timer runs. -/
def State.tmrRuns (s : State) (t : Nat) : Bool := s.fb (F.TMR_STATt_RUNNING t)

/-- START: a stopped, enabled timer starts from 0; ignored while it runs (R444). -/
def State.tmrStart (s : State) (t : Nat) (hop : Option Nat) : State :=
  if s.tmrRuns t ∨ s.fb (F.TMR_CFGt_EN t) = false then s
  else (((s.mPer (fun p => { p with tmrPre := p.tmrPre.set t 0 })).wr (R.TMR_CNTt t) 0).fset (F.TMR_STATt_RUNNING t)).setHop (0x18 + t) hop

/-- STOP halts the timer at its count. -/
def State.tmrStop (s : State) (t count : Nat) : State :=
  if s.tmrRuns t then ((s.tmrAt t count).fclr (F.TMR_STATt_RUNNING t)).setHop (0x18 + t) none else s

/-- CAPTURE copies the count. -/
def State.tmrCapture (s : State) (t count : Nat) : State :=
  let s := if s.tmrRuns t then s.tmrAt t count else s
  s.wr (R.TMR_CAPt t) (s.rd (R.TMR_CNTt t))

/-- What a compare does to TMRt_IO0: 0 none, 1 set, 2 clear, 3 toggle. -/
def pinAction (a : Nat) (l : Bool) : Bool := if a = 1 then true else if a = 2 then false else if a = 3 then !l else l

/-- A timer's compare value. -/
def State.tmrCmp (s : State) (t k : Nat) : Word := s.rd (if k = 0 then R.TMR_CMP0t t else R.TMR_CMP1t t)

/-- The count is at CMP0 or CMP1: the event, and what the compare does to TMRt_IO0 (R444). -/
def State.tmrReach (s : State) (t k : Nat) : State :=
  let act := s.fg (if k = 0 then F.TMR_CFGt_CMP0 t else F.TMR_CFGt_CMP1 t)
  let s := (s.wr (R.TMR_CNTt t) (s.tmrCmp t k)).fset (if k = 0 then F.TMR_EVTt_CMP0 t else F.TMR_EVTt_CMP1 t)
  let s := s.mPer (fun p => { p with tmrOut := modAt p.tmrOut t (pinAction act) })
  s.emitChained (0x60 + 3 * t + (if k = 0 then 0 else 1)) (0x18 + t)

/-- A clocked timer's count reaches CMP0 or CMP1 (R444). -/
def State.tmrCompare (s : State) (t k : Nat) : State :=
  let c := s.tmrCmp t k
  if s.tmrRuns t = false ∨ s.tmrEdges t ∨ (s.rd (R.TMR_TOPt t)).toNat < c.toNat ∨ c.toNat < (s.rd (R.TMR_CNTt t)).toNat then s
  else s.tmrReach t k

/-- The count is at TOP: a periodic timer restarts at 0, a one-shot stops (R444). -/
def State.tmrTop (s : State) (t : Nat) : State :=
  let s := (s.fset (F.TMR_EVTt_OVF t)).emitChained (0x62 + 3 * t) (0x18 + t)
  if s.fb (F.TMR_CFGt_PERIODIC t) then s.wr (R.TMR_CNTt t) 0
  else ((s.wr (R.TMR_CNTt t) (s.rd (R.TMR_TOPt t))).fclr (F.TMR_STATt_RUNNING t)).setHop (0x18 + t) none

/-- A clocked timer's count reaches TOP. -/
def State.tmrOverflow (s : State) (t : Nat) : State := if s.tmrRuns t = false ∨ s.tmrEdges t then s else s.tmrTop t

/-- The count of a timer that counts edges rises by one, with the compares and the overflow it reaches (R444). -/
def State.tmrUp (s : State) (t : Nat) : State :=
  let n := (s.rd (R.TMR_CNTt t)).toNat + 1
  let s := s.wr (R.TMR_CNTt t) (w32 n)
  let s := s.forEach [0, 1] (fun s k => if (s.tmrCmp t k).toNat = n then s.tmrReach t k else s)
  if (s.rd (R.TMR_TOPt t)).toNat ≤ n then s.tmrTop t else s

/-- An edge on TMRt_IO1, of either direction (log 92), counts under SRC 0b10: one of every PRESCALE + 1 raises the count. -/
def State.tmrClock (s : State) (t : Nat) : State :=
  if s.tmrRuns t = false ∨ s.tmrEdges t = false then s
  else
    let p := nth s.per.tmrPre t 0 + 1
    let full := decide (s.fg (F.TMR_CFGt_PRESCALE t) < p)
    let s := s.mPer (fun x => { x with tmrPre := x.tmrPre.set t (if full then 0 else p) })
    if full then s.tmrUp t else s

/-- An edge on TMRt_IO1: it captures where CFG selects it, after it has counted (R444; log 92). -/
def State.tmrEdge (s : State) (t count : Nat) (rising : Bool) : State :=
  let s := s.tmrClock t
  let e := s.fg (F.TMR_CFGt_EDGE t)
  if s.fb (F.TMR_CFGt_EN t) && (if rising then e % 2 == 1 else decide (2 ≤ e)) then s.tmrCapture t count else s

/-! ## Serial engines -/

/-- A serial engine's FIFOs. -/
def State.se (s : State) (n : Nat) : SeSt := nth s.per.se n ⟨[], [], 0, 0⟩

/-- SEn_STAT shows the FIFO levels. -/
def State.seShow (s : State) (n : Nat) : State :=
  (s.fp (F.SEn_STAT_TX n) (s.se n).tx.length).fp (F.SEn_STAT_RX n) (s.se n).rx.length

/-- Change a serial engine's FIFOs. -/
def State.mSe (s : State) (n : Nat) (f : SeSt → SeSt) : State :=
  (s.mPer (fun p => { p with se := modAt p.se n f })).seShow n

/-- An octet received: into the RX FIFO, or lost with OVERRUN where it is full (R445, R451). -/
def State.seRx (s : State) (n : Nat) (o : Byte) (parity framing : Bool) : State :=
  if s.fb (F.SEn_CFG_EN n) = false then s
  else
    let s := if parity then s.fset (F.SEn_EVT_PARITY n) else s
    let s := if framing then s.fset (F.SEn_EVT_FRAMING n) else s
    if 16 ≤ (s.se n).rx.length then s.fset (F.SEn_EVT_OVERRUN n)
    else
      let s := s.mSe n (fun x => { x with rx := x.rx ++ [o] })
      if s.fg (F.SEn_THR_RX n) ≤ (s.se n).rx.length then (s.fset (F.SEn_EVT_RX n)).emit (0x98 + n) 0 else s

/-- An octet written to SEn_TXD: ignored with WERR where the FIFO is full. -/
def State.seTx (s : State) (n : Nat) (o : Byte) : State :=
  if 16 ≤ (s.se n).tx.length then s.fset (F.SEn_EVT_WERR n) else s.mSe n (fun x => { x with tx := x.tx ++ [o] })

/-- SEn_RXD as the next read gives it. -/
def State.seRxd (s : State) (n : Nat) : Word := match (s.se n).rx with
  | [] => 0
  | o :: _ => w32 (0x80000000 + o.toNat)

/-- The read removes the octet. -/
def State.seRxPop (s : State) (n : Nat) : State := s.mSe n (fun x => { x with rx := x.rx.drop 1 })

/-- What a transfer that starts has to move (R446): SPI clocks LEN octets; I²C sends WR octets from the TX FIFO and then receives RD; a gated UART
sends what its FIFO holds. -/
def State.seJob (s : State) (n : Nat) : Nat × Nat :=
  let m := s.fg (F.SEn_CFG_MODE n)
  if m = 1 then (s.fg (F.SEn_XFER_LEN n), 0) else if m = 2 then (s.fg (F.SEn_XFER_WR n), s.fg (F.SEn_XFER_RD n)) else ((s.se n).tx.length, 0)

/-- START, by software (`hop` none) or by the flue task (R446): an SPI or I²C transfer, or the release of a gated UART FIFO. -/
def State.seStart (s : State) (n : Nat) (hop : Option Nat) : State :=
  let m := s.fg (F.SEn_CFG_MODE n)
  if s.fb (F.SEn_STAT_BUSY n) ∨ s.fb (F.SEn_CFG_EN n) = false ∨ (m = 0 ∧ s.fb (F.SEn_CFG_TXGATE n) = false) then s
  else ((s.mSe n (fun x => { x with left := (s.seJob n).1, want := (s.seJob n).2 })).fset (F.SEn_STAT_BUSY n)).setHop (0x80 + n) hop

/-- A transfer's end: BUSY clears and SEn_EV_TXDONE is produced. -/
def State.seFinish (s : State) (n : Nat) : State :=
  (((s.fclr (F.SEn_STAT_BUSY n)).fset (F.SEn_EVT_TXDONE n)).emitChained (0x9C + n) (0x80 + n)).setHop (0x80 + n) none

/-- Octets that a transfer still to send `left` and then to receive `want` moves, of `sent` and `got` (R446): SPI clocks one in for each one out; I²C
receives once all is sent. -/
def seMoved (mode left want sent : Nat) (got : List Byte) : Nat × List Byte :=
  if mode = 1 then (min got.length left, got.take left)
  else
    let k := min sent left
    (k, if mode = 2 ∧ k = left then got.take want else [])

/-- A transfer has moved octets, and it ends once it has moved all of them, or stops on NACK or lost arbitration (R446). -/
def State.seMove (s : State) (n sent : Nat) (got : List Byte) (e : SeEnd) : State :=
  let m := s.fg (F.SEn_CFG_MODE n)
  let x := s.se n
  let k := seMoved m x.left x.want sent got
  let left := x.left - k.1
  let want := if m = 2 then x.want - k.2.length else 0
  let s := s.mSe n (fun x => { x with tx := x.tx.drop k.1, left := left, want := want })
  let s := s.forEach k.2 (fun s o => s.seRx n o false false)
  match e with
  | .nack => (s.fset (F.SEn_EVT_NACK n)).seFinish n
  | .arb => (s.fset (F.SEn_EVT_ARB n)).seFinish n
  | .ok => if left = 0 ∧ want = 0 then s.seFinish n else s

/-- A transfer moves octets: `sent` have left the TX FIFO, `got` were received (R446). An ungated UART sends as it is written, and its send ends
once its FIFO is empty. NACK and lost arbitration are I²C's. -/
def State.seEnd (s : State) (n sent : Nat) (got : List Byte) (e : SeEnd) : State :=
  let m := s.fg (F.SEn_CFG_MODE n)
  let e := if m = 2 then e else .ok
  if s.fb (F.SEn_STAT_BUSY n) then s.seMove n sent got e
  else if m = 0 ∧ s.fb (F.SEn_CFG_EN n) ∧ s.fb (F.SEn_CFG_TXGATE n) = false ∧ (s.se n).tx ≠ [] then
    let s := s.mSe n (fun x => { x with tx := x.tx.drop sent })
    if (s.se n).tx = [] then s.seFinish n else s
  else s

/-- ABORT ends the transfer. -/
def State.seAbort (s : State) (n : Nat) : State := if s.fb (F.SEn_STAT_BUSY n) then s.seFinish n else s

/-- FLUSH empties both FIFOs. -/
def State.seFlush (s : State) (n : Nat) : State := s.mSe n (fun x => { x with tx := [], rx := [] })

/-- A peripheral request of a DMA channel's REQ field is raised: 2n + 1 and 2n + 2 for serial engine n, 9 for the ADC (R441, R445). DEDUCED (log 92): the
receive request stands while the RX FIFO holds an octet and its level has reached the RX threshold, the transmit request of an enabled engine while
the level of a TX FIFO with room is at or below the TX threshold. -/
def State.dmaReq (s : State) (r : Nat) : Bool :=
  if r = 9 then decide (0 < s.per.adcReq)
  else if r = 0 ∨ 9 < r then false
  else
    let n := (r - 1) / 2
    let x := s.se n
    if r % 2 = 1 then !x.rx.isEmpty && decide (s.fg (F.SEn_THR_RX n) ≤ x.rx.length)
    else s.fb (F.SEn_CFG_EN n) && decide (x.tx.length ≤ s.fg (F.SEn_THR_TX n)) && decide (x.tx.length < 16)

/-- A transfer serves a request: one of the ADC's results is served, a serial engine's request follows its FIFO. -/
def State.dmaServe (s : State) (r : Nat) : State := if r = 9 then s.mPer (fun p => { p with adcReq := p.adcReq - 1 }) else s

/-- A write of SEn_CTL. -/
def State.seCtl (s : State) (n : Nat) (v : Word) : State :=
  let s := if wBit v 2 then s.seFlush n else s
  let s := if wBit v 1 then s.seAbort n else s
  if wBit v 0 then s.seStart n none else s

/-- A write of SEn_CFG: MODE 0b11 is ignored with WERR (R451). -/
def State.seCfg (s : State) (n : Nat) (v : Word) : State :=
  if wField v 29 28 = 3 then s.fset (F.SEn_EVT_WERR n) else s.regStore (R.SEn_CFG n) v

/-- A write of SEn_RATE: the achieved rate is within 1 % of it, and the manual does not say where (a free value). -/
def State.seRate (s : State) (n : Nat) (v : Word) : State :=
  let r := s.draw
  let d := v.toNat / 100
  (r.2.wr (R.SEn_RATE n) v).wr (R.SEn_RATE_ACT n) (w32 (v.toNat - d + r.1.toNat % (2 * d + 1)))

end Sys2Proof.Machine
end

