-- ==== Sys2Proof/Machine/Guard.lean ====
section
/-! DEFINITION. The owner model over registers (R14, R22-R26, R87, R191, R222, R262, R267, R270, R323, R353, R425): the syndrome an
access of an identity meets at a register, and the claim rules of R24 that every ownership field follows. -/

namespace Sys2Proof.Machine

/-- CORE_A, CORE_B or PILOT. -/
def isCore (own : Nat) : Bool := own == ownA || own == ownB || own == ownPilot

/-- The syndrome of a shared-secure block (Table 1-6). -/
def sharedSyn (own : Nat) (sec : Bool) : Nat :=
  if isCore own || own == ownSvc || own == ownDebug then (if sec then 0 else synSecure) else synOwner

/-- The syndrome of a resource with an owner and a SEC attribute. -/
def ownedSyn (own : Nat) (sec : Bool) (owner : Nat) (secOnly : Bool) : Nat :=
  if own = ownNone ∨ owner ≠ own then synOwner else if secOnly && !sec then synSecure else 0

/-- The syndrome of a write that needs a secure access of CORE_A, CORE_B or PILOT. -/
def coreSyn (own : Nat) (sec : Bool) : Nat := if isCore own then (if sec then 0 else synSecure) else synOwner

/-- The 4 KB pages of the shared-secure blocks (Table 1-6, Table 0-4). -/
def sharedPages : List Nat :=
  [0x40000, 0x40001, 0x40002, 0x40003, 0x40004, 0x40005, 0x40007, 0x40009, 0x40010, 0x40011, 0x40028, 0x400B0, 0x400D0]

/-- The 4 KB pages of the assignable blocks. -/
def assignPages : List Nat := [0x40080, 0x40081, 0x40090, 0x40091, 0x40092, 0x40093, 0x40098, 0x4009A, 0x400C0]

/-- What the closed debug port reaches (R262). -/
def debugReach (a : Nat) : Bool :=
  a == R.LCS_DBG || a == R.LCS_CMD || a == R.LCS_CMD_RES ||
    (decide (R.LCS_CHALn 0 ≤ a) && decide (a < R.LCS_CHALn 0 + 16)) || (decide (R.LCS_TOKENn 0 ≤ a) && decide (a < R.LCS_TOKENn 0 + 192))

/-- The core whose register this is, where a register map gives a register to one core: the watchdogs (R323), PWR_CORE_A and PWR_CORE_B (R302),
INT_CLAIM and INT_DONE (R30). -/
def coreReg (a : Nat) : Option CoreId :=
  if (decide (R.RST_WDT_A_CFG ≤ a) && decide (a < R.RST_WDT_A_CFG + 12)) || a == R.PWR_CORE_A || a == R.INT_CLAIM_A || a == R.INT_DONE_A then some .a
  else if (decide (R.RST_WDT_B_CFG ≤ a) && decide (a < R.RST_WDT_B_CFG + 12)) || a == R.PWR_CORE_B || a == R.INT_CLAIM_B || a == R.INT_DONE_B then some .b
  else none

/-- The core an identity runs on: the Pilot service runs on core A (R381). -/
def coreOfOwner (own : Nat) : Option CoreId :=
  if own = ownA ∨ own = ownPilot then some .a else if own = ownB then some .b else none

/-- The further limits of the register maps inside the shared-secure blocks. INT_CLAIM_x is read, and INT_DONE_x written, by its own core only
(log 23, DESIGN CHOICE: R30 says what a claim of each core does and not who else may read it). -/
def limitSyn (own a : Nat) (wr : Bool) : Nat := match coreReg a with
  | some c =>
    if a = R.INT_CLAIM_A ∨ a = R.INT_CLAIM_B then (if coreOfOwner own = some c then 0 else synOwner)
    else if wr = false ∨ coreOfOwner own = some c then 0
    else if own = ownDebug ∧ a / 0x1000 = 0x40001 then 0
    else synOwner
  | none =>
    -- a slot's registers accept its own identity only (R353)
    if R.FLC_CMDs 0 ≤ a ∧ a < R.FLC_CMDs 7 then
      let k := (a - R.FLC_CMDs 0) / 0x20
      (if k = own ∨ k = 0 ∨ k = 5 then 0 else synOwner)
    -- only CORE_A, CORE_B, PILOT and SVC hold the update engine's set (R355)
    else if a / 0x1000 = 0x40011 ∧ wr = true ∧ own = ownDebug ∧ R.UPD_CMD ≤ a ∧ a ≤ R.UPD_HAND then synOwner
    else 0

/-- The syndrome at a flue channel's registers (R270). -/
def State.flueSyn (s : State) (own : Nat) (sec : Bool) (c : Nat) : Nat :=
  ownedSyn own sec (s.fg (F.FLU_CHc_CFG_OWNER c)) (s.fb (F.FLU_CHc_CFG_SEC c))

/-- The consumer block of a task as an address that stands for it, and the syndrome the channel owner meets in writing it (R272,
Table 8-4); a code not listed is refused (R280). -/
def State.taskSyn (s : State) (own : Nat) (sec : Bool) (k : Nat) : Nat :=
  let blk (a : Nat) (o : Fld) : Nat := ownedSyn own sec (s.fg ⟨a, 2, 0⟩) (s.fb o)
  if 0x01 ≤ k ∧ k ≤ 0x10 then ownedSyn own sec (s.fg (F.DMA_CHn_CFG_OWNER (k - 1))) (s.fb (F.DMA_CHn_CFG_SEC (k - 1)))
  else if 0x18 ≤ k ∧ k ≤ 0x23 then blk R.TMR_OWN F.TMR_OWN_SEC
  else if k = 0x28 then blk R.ADC_OWN F.ADC_OWN_SEC
  else if 0x30 ≤ k ∧ k ≤ 0x47 then
    let n := s.fg (F.PAD_TSKk_IO ((k - 0x30) % 8))
    ownedSyn own sec (s.fg (F.PAD_CFGn_OWNER n)) (s.fb (F.PAD_CFGn_SEC n))
  else if 0x50 ≤ k ∧ k ≤ 0x53 then blk R.LUM_OWN F.LUM_OWN_SEC
  else if k = 0x58 then blk R.MET_OWN F.MET_OWN_SEC
  else if k = 0x60 ∨ k = 0x61 ∨ k = 0x68 then sharedSyn own sec
  else if k = 0x70 ∨ k = 0x71 then (if own = ownHearth ∨ own = ownHost then 0 else coreSyn own sec)
  else if 0x80 ≤ k ∧ k ≤ 0x83 then blk (R.SEn_OWN (k - 0x80)) (F.SEn_OWN_SEC (k - 0x80))
  else synOwner

/-- The task codes of Table 8-4. -/
def taskListed (k : Nat) : Bool :=
  (decide (0x01 ≤ k) && decide (k ≤ 0x10)) || (decide (0x18 ≤ k) && decide (k ≤ 0x23)) || k == 0x28 || (decide (0x30 ≤ k) && decide (k ≤ 0x47)) ||
    (decide (0x50 ≤ k) && decide (k ≤ 0x53)) || k == 0x58 || k == 0x60 || k == 0x61 || k == 0x68 || k == 0x70 || k == 0x71 ||
    (decide (0x80 ≤ k) && decide (k ≤ 0x83))

/-- HRT (R87): every initiator reads, except where a row says otherwise; writes need a secure access of CORE_A, CORE_B or PILOT, or an
access from HOST; queue registers accept their owner's writes only. -/
def State.hrtSyn (s : State) (own : Nat) (sec : Bool) (a : Nat) (wr : Bool) : Nat :=
  if wr = false then 0
  -- HRT_Qn_DONE is read only, and its row names no owner: the general rule holds
  else if R.HRT_Qn_CFG 0 ≤ a ∧ a < R.HRT_Qn_CFG 32 ∧ a % 0x20 ≠ 8 then
    let q := (a - R.HRT_Qn_CFG 0) / 0x20
    ownedSyn own sec (s.fg (F.HRT_Qn_CFG_OWNER q)) (s.fb (F.HRT_Qn_CFG_SEC q))
  else if own = ownHost then 0
  else coreSyn own sec

/-- The syndrome an access of an identity meets at an address of the peripheral region, 0 where it is permitted. Ownership registers and the
per-pin and per-channel registers of PAD judge further in their own operations. DMA_DONE_STAT and DMA_ERR_STAT belong to no channel: they
are judged as shared-secure (log 23, DESIGN CHOICE: Table 1-6 gives them no kind). -/
def State.regSyn (s : State) (own : Nat) (sec : Bool) (a : Nat) (wr : Bool) : Nat :=
  let p := a / 0x1000
  if own = ownDebug ∧ sec = false ∧ debugReach a = false then synOwner
  -- every initiator can read an ownership register (R24, R224); what the closed debug port cannot reach is judged before (R262)
  else if wr = false ∧ a % 0x1000 = 0xFFC ∧ (assignPages.contains p = true ∨ p = 0x40026 ∨ p = 0x40027) then 0
  -- what the host port reaches (R414)
  else if own = ownHost ∧ p ≠ 0x40040 then synOwner
  else if own = ownDebug ∧ debugReach a = true then 0
  else if sharedPages.contains p then
    (if sharedSyn own sec = 0 then limitSyn own a wr else sharedSyn own sec)
  else if assignPages.contains p then
    (if a % 0x1000 = 0xFFC then 0 else ownedSyn own sec (s.fg ⟨p * 0x1000 + 0xFFC, 2, 0⟩) (s.fb ⟨p * 0x1000 + 0xFFC, 4, 4⟩))
  else if p = 0x400C1 then
    (if wr = true ∧ a ≠ R.SVC_EVT ∧ a ≠ R.SVC_EVT_EN then synOwner else if own = ownSvc then 0 else coreSyn own sec)
  else if p = 0x40030 then (if wr then (if own = ownDebug then synOwner else sharedSyn own sec) else 0)
  else if p = 0x40050 ∨ p = 0x40060 then (if wr then coreSyn own sec else 0)
  else if p = 0x40040 then s.hrtSyn own sec a wr
  else if 0x40020 ≤ p ∧ p ≤ 0x40027 then
    let n := p - 0x40020
    (if a % 0x1000 = 0xFFC then 0 else
      let o := s.pageOwner n
      if o = ownHearth then synOwner
      else if wr then ownedSyn own sec o true
      else ownedSyn own sec o (s.fb ⟨R.VLT_PGn_OWN n, 4, 4⟩))
  else if p = 0x40008 then
    (if R.FLU_CHc_CFG 0 ≤ a ∧ a < R.FLU_CHc_CFG 48 then
      let c := (a - R.FLU_CHc_CFG 0) / 0x10
      (if wr = true ∧ a % 0x10 = 0 ∧ s.fg (F.FLU_CHc_CFG_OWNER c) = ownNone then coreSyn own sec else s.flueSyn own sec c)
    else if R.FLU_TKt_STAT 0 < a ∧ a ≤ R.FLU_TKt_STAT 0xFF then
      let k := (a - R.FLU_TKt_STAT 0) / 4
      (if taskListed k then s.taskSyn own sec k else 0)
    else if wr then (if a = R.FLU_SUM ∨ a = R.FLU_SUM_EN then sharedSyn own sec else 0)
    else 0)
  else if p = 0x400A0 then
    (if R.DMA_CHn_CFG 0 ≤ a ∧ a < R.DMA_CHn_CFG 16 then
      let c := (a - R.DMA_CHn_CFG 0) / 0x20
      let o := s.fg (F.DMA_CHn_CFG_OWNER c)
      (if wr = true ∧ a % 0x20 = 0 ∧ o = ownNone then coreSyn own sec else ownedSyn own sec o (s.fb (F.DMA_CHn_CFG_SEC c)))
    else sharedSyn own sec)
  -- a task slot is its pin's owner's, to read as to write (Table 17-8); the write judges in its own operation
  else if p = 0x40006 ∧ wr = false ∧ R.PAD_TSKk 0 ≤ a ∧ a < R.PAD_TSKk 8 then
    (let n := s.fg (F.PAD_TSKk_IO ((a - R.PAD_TSKk 0) / 4))
    ownedSyn own sec (s.fg (F.PAD_CFGn_OWNER n)) (s.fb (F.PAD_CFGn_SEC n)))
  else 0

/-- What a write of an ownership field does (R24): taken as a whole, ignored as a whole, or forbidden with a syndrome. -/
inductive OwnVerdict where
  | take
  | ignore
  | forbid (syn : Nat)
  deriving DecidableEq, Repr

/-- The claim rules of R24 for a resource held by `owner` with LOCK `lock`: `new` is the OWNER the write names. While LOCK is 1 a write by the
owner is ignored whatever its security: it is not faulted. DEDUCED (log 96): LOCK freezes an unowned resource too, so that a claim of it is ignored. -/
def ownVerdict (own : Nat) (sec : Bool) (owner : Nat) (lock : Bool) (new : Nat) : OwnVerdict :=
  if owner = ownNone then
    (if new ≠ own then .ignore else if isCore own && sec then (if lock then .ignore else .take) else .forbid (if isCore own then synSecure else synOwner))
  else if owner = own then (if lock then .ignore else if sec then .take else .forbid synSecure)
  else .forbid synOwner

/-- Apply a verdict: `f` where the write is taken; a forbidden one follows R26. -/
def State.judge (s : State) (who : Initiator) (a : Nat) (v : OwnVerdict) (f : State → State) : State := match v with
  | .take => f s
  | .ignore => s
  | .forbid syn => s.forbid who a true syn

/-- A write of a block's _OWN register (R24). -/
def State.blockOwnWrite (s : State) (who : Initiator) (a : Nat) (v : Word) : State :=
  let o : Fld := ⟨a, 2, 0⟩
  s.judge who a (ownVerdict (s.owner who) (s.secure who) (s.fg o) (s.fb ⟨a, 31, 31⟩) (wField v 2 0)) (fun s =>
    let s := (s.fp o (wField v 2 0)).fp ⟨a, 4, 4⟩ (wField v 4 4)
    if wBit v 31 then s.fset ⟨a, 31, 31⟩ else s)

/-- A write of VLT_PGn_OWN (R224): pages 6 and 7 as R24, with any OWNER but HEARTH and DEBUG, and a change of OWNER clearing the page; HOST
holds a page only through its port. -/
def State.pageOwnWrite (s : State) (who : Initiator) (n : Nat) (v : Word) : State :=
  let a := R.VLT_PGn_OWN n
  if n < 6 then s
  else
    let new := wField v 2 0
    let old := s.pageOwner n
    s.judge who a (ownVerdict (s.owner who) (s.secure who) old (s.fb ⟨a, 31, 31⟩) new) (fun s =>
      if new = ownHearth ∨ new = ownDebug ∨ new = ownHost then s
      else
        let s := if new = old then s else s.pageWipe n
        let s := (s.fp ⟨a, 2, 0⟩ new).fp ⟨a, 4, 4⟩ (wField v 4 4)
        if wBit v 31 then s.fset ⟨a, 31, 31⟩ else s)

end Sys2Proof.Machine
end

