-- ==== Sys2Proof/Machine/Own.lean ====
section
/-! DEFINITION. What an identity owns: the move of the ownership swap (R369, Table 12-7), the release of a core's resources (R366), and the
wipe and hold of a core's partition. -/

namespace Sys2Proof.Machine

/-- The ownership registers of the assignable blocks (Table 1-6). -/
def ownRegs : List Nat :=
  [R.LUM_OWN, R.MET_OWN, R.SEn_OWN 0, R.SEn_OWN 1, R.SEn_OWN 2, R.SEn_OWN 3, R.TMR_OWN, R.ADC_OWN, R.HST_OWN]

/-- OWNER of an ownership register. -/
def ownOf (a : Nat) : Fld := ⟨a, 2, 0⟩

/-- The command sets. -/
def CsId.all : List CsId := [.nbr, .vlt, .pk 0, .pk 1, .lce, .knd, .upd, .ashRd, .ashClr]

/-- A field that holds an identity passes from one to another. -/
def State.moveField (s : State) (old new : Nat) (f : Fld) : State := if s.fg f = old then s.fp f new else s

/-- The interrupt target bit of a core in an INT_CFGn. -/
def tgtOf (c : CoreId) (n : Nat) : Fld := match c with
  | .a => F.INT_CFGn_TGT_A n
  | .b => F.INT_CFGn_TGT_B n

/-- A pin passes from one identity to another, and loses its task slots (R487). -/
def State.pinMove (s : State) (old new p : Nat) : State :=
  if s.fg (F.PAD_CFGn_OWNER p) = old then (s.slotsOff p).fp (F.PAD_CFGn_OWNER p) new else s

/-- Every item of Table 12-7 that the old core's identity holds moves to the new core's. A DMA channel that is ACTIVE does not move. -/
def State.ownMove (s : State) (old new : CoreId) : State :=
  let o := old.owner
  let n := new.owner
  let s := s.forEach (List.range 32) (fun s q => s.moveField o n (F.HRT_Qn_CFG_OWNER q))
  let s := s.mHrt (fun h => { h with bufHolder := h.bufHolder.map (fun x => if x = o then n else x) })
  let s := s.forEach (List.range 48) (fun s c => s.moveField o n (F.FLU_CHc_CFG_OWNER c))
  let s := s.forEach ownRegs (fun s a => s.moveField o n (ownOf a))
  let s := s.forEach (List.range 16) (fun s c => if s.fg (F.DMA_CHn_STAT_STATE c) = 1 then s else s.moveField o n (F.DMA_CHn_CFG_OWNER c))
  let s := s.forEach (List.range 64) (fun s p => s.pinMove o n p)
  let s := s.forEach (List.range 96) (fun s i => if s.fb (tgtOf old i) then (s.fclr (tgtOf old i)).fset (tgtOf new i) else s)
  let s := s.forEach SetId.all (fun s x => s.moveField o n x.writer)
  let s := s.forEach CsId.all (fun s x => s.moveField o n x.writer)
  s.moveField o n F.HRT_SNAP_STAT_HOLDER

/-- What makes the swap wait (R370): an ACTIVE DMA channel of the old core, or a BUSY command set it holds. -/
def State.ownBusy (s : State) (old : CoreId) : Bool :=
  (List.range 16).any (fun c => s.fg (F.DMA_CHn_STAT_STATE c) == 1 && s.fg (F.DMA_CHn_CFG_OWNER c) == old.owner) ||
  CsId.all.any (fun x => s.fg x.writer == old.owner && s.csBusy x)

/-- A DMA channel stops with an error code (R33). -/
def State.dmaError (s : State) (c code : Nat) : State :=
  let s := (((s.fp (F.DMA_CHn_STAT_STATE c) 3).fp (F.DMA_CHn_STAT_ERR c) code).rset R.DMA_ERR_STAT c).setHop (0x01 + c) none
  s.mDma (fun l => modAt l c (fun x => { x with stopReq := false, waiting := false }))

/-- The ACTIVE DMA channels of an identity stop with ERR ABORTED (R366, R373). -/
def State.dmaAbortOf (s : State) (id : Nat) : State :=
  s.forEach (List.range 16) (fun s c =>
    if s.fg (F.DMA_CHn_CFG_OWNER c) = id ∧ s.fg (F.DMA_CHn_STAT_STATE c) = 1 then s.dmaError c 6 else s)

/-- Pages 6 and 7 that an identity owns are cleared and become unowned. -/
def State.pagesRelease (s : State) (id : Nat) : State :=
  s.forEach [6, 7] (fun s n => if s.pageOwner n = id then (s.pageWipe n).fp (F.VLT_PGn_OWN_OWNER n) ownNone else s)

/-- The release of R366: DMA channels stop and become unowned, and so do blocks, flue channels, IO pins and pages 6 and 7. -/
def State.release (s : State) (id : Nat) : State :=
  let s := s.dmaAbortOf id
  let s := s.forEach (List.range 16) (fun s c => s.moveField id ownNone (F.DMA_CHn_CFG_OWNER c))
  let s := s.forEach ownRegs (fun s a => s.moveField id ownNone (ownOf a))
  let s := s.forEach (List.range 48) (fun s c => s.moveField id ownNone (F.FLU_CHc_CFG_OWNER c))
  let s := s.forEach (List.range 64) (fun s p => s.pinMove id ownNone p)
  s.pagesRelease id

/-- The base of a core's private partition (Table 1-3, R348). -/
def partBase : CoreId → Nat
  | .a => 0x20000000
  | .b => 0x20080000

/-- The four private banks of a core, as bits of PWR_RET. -/
def partBanks : CoreId → Nat
  | .a => 0x00F
  | .b => 0x0F0

/-- A core's partition is wiped (R363, R366). -/
def State.partWipe (s : State) (c : CoreId) : State := s.wipe (partBase c) (partBase c + 0x80000)

/-- A core is held in reset. -/
def State.coreHold (s : State) (c : CoreId) : State :=
  s.setCore c { s.core c with started := false, held := true, gated := false, joined := none, pilot := false, parked := false }

/-- A core starts at an address. -/
def State.coreStart (s : State) (c : CoreId) (entry : Nat) (pilot : Bool) : State :=
  s.setCore c ⟨true, false, false, none, false, pilot, false, entry⟩

/-- A watchdog at rest or enabled with its 2 s (R324). -/
def State.wdtSet (s : State) (c : CoreId) (en lock : Bool) : State :=
  (s.wr (wdtCfg c) (w32 (b2n en * 0x80000000 + b2n lock * 0x40000000 + 0x10000))).wr (wdtCfg c + 8) 0x10000

end Sys2Proof.Machine
end

