-- ==== Sys2Proof/Machine/Flags.lean ====
section
/-! DEFINITION. The interrupt lines as levels computed from the event flags that drive them (R28, Table 1-8), the claim, end of service and
target rules of the interrupt controller (R29, R30). -/

namespace Sys2Proof.Machine

/-- Some enabled event bit of a register is 1. -/
def State.evtOn (s : State) (evt en : Nat) (mask : Word) : Bool := (s.rd evt &&& s.rd en &&& mask) != 0

/-- A result that its holder has not yet read. -/
def State.csWaits (s : State) (c : CsId) : Bool := decide (2 ≤ s.fg c.state) && s.fg c.writer != ownNone

/-- A transmit queue (q below 16) has a completion its owner has not reclaimed, a receive queue a posted frame or a changed verdict (R63).
DEDUCED (log 25): `holds an EARLY descriptor whose VERDICT has changed` is read as the VCHG flag, so VCHG keeps the line asserted until it is
cleared, also when the descriptor has been reclaimed. -/
def State.queueLine (s : State) (q : Nat) : Bool :=
  s.fb (F.HRT_Qn_CFG_IRQ q) && (if q < 16 then s.rd (R.HRT_Qn_DONE q) != s.rd (R.HRT_Qn_RECL q)
    else s.rd (R.HRT_Qn_PROD q) != s.rd (R.HRT_Qn_RECL q) || s.fb (F.HRT_Qn_STAT_VCHG q))

/-- The queues of line 0 or 1 that drive it: all of them, or those of one identity. -/
def State.queuesLine (s : State) (line : Nat) (who : Option Nat) : Bool :=
  (List.range 16).any (fun i =>
    let q := 16 * line + i
    s.queueLine q && (match who with
      | some o => s.fg (F.HRT_Qn_CFG_OWNER q) == o
      | none => true))

/-- Pins of a group whose IRQ is 1. -/
def State.irqMask (s : State) (g : Nat) : Word :=
  w32 ((List.range 32).foldl (fun m i => if s.fb (F.PAD_CFGn_IRQ (32 * g + i)) then m + 2 ^ i else m) 0)

/-- The level of a line below 26 (R28). -/
def State.lineLow (s : State) (n : Nat) : Bool :=
  if n < 2 then s.queuesLine n none
  else if n = 2 then decide (2 ≤ s.fg F.HRT_SNAP_STAT_STATE)
  else if n = 3 then decide (2 ≤ s.fg SetId.schedule.state)
  else if n = 4 then s.evtOn R.HRT_EVT R.HRT_EVT_EN 0x003
  else if n = 5 then s.evtOn R.HRT_EVT R.HRT_EVT_EN 0x11C
  else if n = 6 then s.evtOn R.HRT_EVT R.HRT_EVT_EN 0x060
  else if n = 7 then s.evtOn R.HRT_EVT R.HRT_EVT_EN 0x080
  else if n = 8 then s.evtOn R.RFA_EVT R.RFA_EVT_EN 0x37
  else if n = 9 then s.evtOn R.RFA_EVT R.RFA_EVT_EN 0x48
  else if n = 10 then s.evtOn R.RFB_EVT R.RFB_EVT_EN 0x37
  else if n = 11 then s.evtOn R.RFB_EVT R.RFB_EVT_EN 0x08
  else if n = 12 then (List.range 16).any (fun i => s.fb (F.HRT_Qn_STAT_VCHG (16 + i)))
  else if n = 13 then s.csWaits .vlt
  else if n = 14 then s.csWaits (.pk 0) || s.csWaits (.pk 1)
  else if n = 15 then s.fb F.VLT_TRNG_STAT_READY
  else if n = 16 then s.rd R.VLT_ALARM != 0
  else if n = 17 then s.rd R.FLC_DONE != 0
  else if n = 18 then s.evtOn R.FLC_EVT R.FLC_EVT_EN 0x7F
  else if n = 19 then s.evtOn R.UPD_EVT R.UPD_EVT_EN 0xFF
  else if n = 20 then s.evtOn R.ASH_EVT R.ASH_EVT_EN 0x1F
  else if n = 21 then s.evtOn R.PWR_EVT R.PWR_EVT_EN 0x1F
  else if n = 22 then s.evtOn R.SUP_EVT R.SUP_EVT_EN 0xFF
  else if n = 23 then s.evtOn R.CLK_EVT R.CLK_EVT_EN 0x1F
  else if n = 24 then s.fb F.RTC_ALARM_HI_EN && decide ((s.rd R.RTC_ALARM_LO).toNat + 0x100000000 * s.fg F.RTC_ALARM_HI_CMP ≤ s.rtc.ember)
  else decide (2 ≤ s.fg SetId.wall.state) || s.fb F.RTC_STAT_STEP

/-- The level of a line from 74 up; line 95 is asserted while either doorbell bit is 1 (R30). -/
def State.lineHigh (s : State) (n : Nat) : Bool :=
  if n = 74 then s.evtOn R.FLU_SUM R.FLU_SUM_EN 0x7
  else if n = 75 then s.evtOn R.LUM_EVT R.LUM_EVT_EN 0x17
  else if n = 76 then s.evtOn R.LUM_EVT R.LUM_EVT_EN 0xE0
  else if n = 77 then s.evtOn R.MET_EVT R.MET_EVT_EN 0x7
  else if n < 82 then s.evtOn (R.SEn_EVT (n - 78)) (R.SEn_EVT_EN (n - 78)) 0xFF
  else if n < 86 then s.evtOn (R.TMR_EVTt (n - 82)) (R.TMR_EVT_ENt (n - 82)) 0x7
  else if n = 86 then s.evtOn R.ADC_EVT R.ADC_EVT_EN 0x3
  else if n = 87 then s.rd R.DMA_DONE_STAT != 0
  else if n = 88 then s.rd R.DMA_ERR_STAT != 0
  else if n = 89 then s.evtOn R.HST_EVT R.HST_EVT_EN 0xF
  else if n = 90 then s.evtOn R.SVC_EVT R.SVC_EVT_EN 0xF
  else if n = 91 then (s.rd R.PAD_EDGE0 &&& s.irqMask 0) != 0
  else if n = 92 then (s.rd R.PAD_EDGE1 &&& s.irqMask 1) != 0 || s.rd R.PAD_WAKE_EDGE != 0
  else if n = 93 then s.rd R.INT_VIOL != 0
  else if n = 94 then decide (2 ≤ s.fg F.LCS_CMD_RES_STATE)
  else n == 95 && s.rd R.INT_DOORBELL != 0

/-- The level of a line (R28). -/
def State.lineLevel (s : State) (n : Nat) : Bool :=
  if n < 26 then s.lineLow n
  else if n < 74 then s.rbit (if n < 58 then 0x40008004 else 0x40008008) ((n - 26) % 32)
  else s.lineHigh n

/-- INT_PENDk: lines 32k to 32k + 31. -/
def State.intPend (s : State) (k : Nat) : Word :=
  w32 ((List.range 32).foldl (fun v i => if s.lineLevel (32 * k + i) then v + 2 ^ i else v) 0)

/-- The identity of a core in the owner model. -/
def State.coreOwner (s : State) (c : CoreId) : Nat := if (s.core c).pilot then ownPilot else c.owner

/-- The threshold of a core. -/
def State.thresh (s : State) : CoreId → Nat
  | .a => s.fg F.INT_THRESH_A_PRIO
  | .b => s.fg F.INT_THRESH_B_PRIO

/-- A line is pending at a core: lines 0 and 1 for the queues the core owns, line 95 for its own doorbell bit (R30, Table 1-8). -/
def State.linePending (s : State) (c : CoreId) (n : Nat) : Bool :=
  if n < 2 then s.queuesLine n (some (s.coreOwner c))
  else if n = 95 then s.rbit R.INT_DOORBELL c.bit
  else s.lineLevel n

/-- A line can interrupt a core: pending, enabled for it, above its threshold and not hidden by a claim (R30). -/
def State.lineFor (s : State) (c : CoreId) (n : Nat) : Bool :=
  let p := s.fg (F.INT_CFGn_PRIO n)
  let tgt := n == 95 || s.fb (tgtOf c n)
  let hidden := if n = 95 then s.int.claimed.contains (95, c) else s.int.claimed.any (fun x => x.1 == n)
  p != 0 && decide (s.thresh c < p) && tgt && !hidden && s.linePending c n

/-- The line a claim of a core gives: the highest priority, the lowest number among equals (R30). -/
def State.claimLine (s : State) (c : CoreId) : Option Nat :=
  (List.range 96).foldl (fun (b : Option Nat) n =>
    if s.lineFor c n then (match b with
      | some m => if s.fg (F.INT_CFGn_PRIO m) < s.fg (F.INT_CFGn_PRIO n) then some n else b
      | none => some n) else b) none

/-- A core has an interrupt to take. -/
def State.coreIrq (s : State) (c : CoreId) : Bool := (List.range 96).any (fun n => s.lineFor c n)

/-- A claim read: the line, hidden until its core writes it to INT_DONE; line 95 clears the core's doorbell bit (R30). -/
def State.intClaim (s : State) (c : CoreId) : Word × State := match s.claimLine c with
  | none => (0x7F, s)
  | some n =>
    let s := s.mInt (fun x => { x with claimed := (n, c) :: x.claimed })
    (w32 n, if n = 95 then s.rclr R.INT_DOORBELL c.bit else s)

/-- A write of INT_DONE of a core: end of service of a line it claimed. -/
def State.intDone (s : State) (c : CoreId) (n : Nat) : State :=
  s.mInt (fun x => { x with claimed := x.claimed.filter (fun p => p != (n, c)) })

/-- The identity owns a transmit queue (`tx`) or a receive queue. -/
def State.ownsQueue (s : State) (own : Nat) (tx : Bool) : Bool :=
  (List.range 16).any (fun q => s.fg (F.HRT_Qn_CFG_OWNER (if tx then q else 16 + q)) == own)

/-- The owner of the one block, pin or channel that is a line's source; `none` where the source is shared-secure, or has no one owner
(R29, R274; log 25). -/
def State.lineOwner (s : State) (n : Nat) : Option Nat :=
  if 26 ≤ n ∧ n < 74 then
    let o := s.fg (F.FLU_CHc_CFG_OWNER (n - 26))
    (if o = ownHearth then none else some o)
  else if n = 75 ∨ n = 76 then some (s.fg F.LUM_OWN_OWNER)
  else if n = 77 then some (s.fg F.MET_OWN_OWNER)
  else if 78 ≤ n ∧ n < 82 then some (s.fg (F.SEn_OWN_OWNER (n - 78)))
  else if 82 ≤ n ∧ n < 86 then some (s.fg F.TMR_OWN_OWNER)
  else if n = 86 then some (s.fg F.ADC_OWN_OWNER)
  else if n = 89 then some (s.fg F.HST_OWN_OWNER)
  else none

/-- An identity owns the source of a line, or the source is open to its secure writes (R29). The queues are the source of lines 0, 1 and 12; the
other lines of HRT, RFA and RFB count as open to the cores, as their event registers are (log 25, DESIGN CHOICE). -/
def State.ownsSource (s : State) (own n : Nat) : Bool :=
  if n = 0 then s.ownsQueue own true
  else if n = 1 ∨ n = 12 then s.ownsQueue own false
  else match s.lineOwner n with
    | none => true
    | some o => o == own

/-- An identity may change a target bit of a line to `on` (R29). -/
def State.mayTarget (s : State) (own : Nat) (n : Nat) (c : CoreId) (on : Bool) : Bool :=
  if own = ownDebug then true
  else if coreOfOwner own ≠ some c then false
  else if on = false then true
  else s.ownsSource own n

/-- A write of INT_CFGn: PRIO, and each target bit where the writer may change it (R29). -/
def State.intCfg (s : State) (own n : Nat) (v : Word) : State :=
  let s := s.fp (F.INT_CFGn_PRIO n) (wField v 2 0)
  let s := if s.mayTarget own n .a (wBit v 4) then s.fp (F.INT_CFGn_TGT_A n) (wField v 4 4) else s
  if s.mayTarget own n .b (wBit v 5) then s.fp (F.INT_CFGn_TGT_B n) (wField v 5 5) else s

/-- A write of INT_DOORBELL raises line 95 at the cores its bits name (R30). -/
def State.doorbell (s : State) (v : Word) : State := s.wr R.INT_DOORBELL (s.rd R.INT_DOORBELL ||| (v &&& 3))

end Sys2Proof.Machine
end

