-- ==== Sys2Proof/Machine/Pads.lean ====
section
/-! DEFINITION. The general ports (R447, R476-R487): pin configuration and ownership, output and edge registers, pad holds and their
release, task slots, and the wake pins. -/

namespace Sys2Proof.Machine

/-- The FUNC codes Table 15-3 lists for a pin. -/
def funcOk (n f : Nat) : Bool :=
  if f = 0 then true
  else if f = 1 then (decide (n ≤ 24)) || (decide (32 ≤ n) && decide (n ≤ 40)) || (decide (56 ≤ n) && decide (n ≤ 63))
  else if f = 2 then decide (n ≤ 11)
  else false

/-- An owner field of a pin. -/
def State.pinOwner (s : State) (n : Nat) : Nat := s.fg (F.PAD_CFGn_OWNER n)

/-- The syndrome an identity meets at a pin: none where it owns the pin, with a secure access where SEC is 1 (R477). -/
def State.pinSyn (s : State) (own : Nat) (sec : Bool) (n : Nat) : Nat := ownedSyn own sec (s.pinOwner n) (s.fb (F.PAD_CFGn_SEC n))

/-- An identity reaches a pin in the group registers (R477, R485). -/
def State.pinMine (s : State) (own : Nat) (sec : Bool) (n : Nat) : Bool := s.pinSyn own sec n == 0

/-- The bits of the pins `32 g` to `32 g + 31` that an identity reaches. -/
def State.pinMask (s : State) (own : Nat) (sec : Bool) (g : Nat) : Word :=
  w32 ((List.range 32).foldl (fun v i => if s.pinMine own sec (32 * g + i) then v + 2 ^ i else v) 0)

/-- The settings of PAD_CFGn besides OWNER, SEC and LOCK. -/
abbrev padCfgMask : Word := 0x00073F32

/-- A pin takes a configuration write: its settings, and OWNER, SEC and LOCK where `own3`. -/
def State.padTake (s : State) (n : Nat) (v : Word) (own3 : Bool) : State :=
  let a := R.PAD_CFGn n
  let s := if own3 && s.pinOwner n != wField v 26 24 then s.slotsOff n else s
  let w := (s.rd a &&& ~~~ padCfgMask) ||| (v &&& padCfgMask)
  let s := s.wr a w
  if own3 then
    let s := (s.fp (F.PAD_CFGn_OWNER n) (wField v 26 24)).fp (F.PAD_CFGn_SEC n) (wField v 20 20)
    if wBit v 31 then s.fset (F.PAD_CFGn_LOCK n) else s
  else s

/-- A write of PAD_CFGn (R477-R481). IO14 and IO15 while debug is closed are claimed as if unowned; a pin of HEARTH is never claimed; a refused
FUNC or PULL ignores the whole write. Where the claim rules allow the write but LOCK freezes OWNER and SEC, the settings are written. -/
def State.padCfgWrite (s : State) (who : Initiator) (n : Nat) (v : Word) : State :=
  let a := R.PAD_CFGn n
  let own := s.owner who
  let sec := s.secure who
  let o := s.pinOwner n
  let new := wField v 26 24
  let dbg := (n == 14 || n == 15) && o == ownDebug && isCore own && sec
  let bad := funcOk n (wField v 5 4) == false || wField v 10 9 == 3
  if o = ownHearth then s.fset F.PAD_EVT_WERR
  else if dbg = true ∧ s.fb F.LCS_DBG_OPEN = true then (if new = own then s.fset F.PAD_EVT_WERR else s.forbid who a true synOwner)
  else
    let o := if dbg then ownNone else o
    if o = own ∧ own ≠ ownNone then
      let locked := s.fb (F.PAD_CFGn_LOCK n)
      if s.fb (F.PAD_CFGn_SEC n) && !sec then s.forbid who a true synSecure
      else if bad then s.fset F.PAD_EVT_WERR
      else s.padTake n v (sec && !locked)
    else
      s.judge who a (ownVerdict own sec o (s.fb (F.PAD_CFGn_LOCK n)) new) (fun s => if bad then s.fset F.PAD_EVT_WERR else s.padTake n v true)

/-- A write of a task slot: its writer owns the pin it names, and the pin an enabled slot named before (R477, R487). -/
def State.padTskWrite (s : State) (who : Initiator) (k : Nat) (v : Word) : State :=
  let a := R.PAD_TSKk k
  let own := s.owner who
  let sec := s.secure who
  let x := s.pinSyn own sec (wField v 5 0)
  let y := if s.fb (F.PAD_TSKk_EN k) then s.pinSyn own sec (s.fg (F.PAD_TSKk_IO k)) else 0
  if x ≠ 0 then s.forbid who a true x else if y ≠ 0 then s.forbid who a true y else s.regStore a v

/-- The OUT register of a group. -/
def padOut (g : Nat) : Nat := if g = 0 then R.PAD_OUT0 else R.PAD_OUT1

/-- A write of a group register of outputs (R485): `f` combines the old levels with the written bits of the pins the writer owns. -/
def State.padOutWrite (s : State) (who : Initiator) (g : Nat) (v : Word) (f : Word → Word → Word → Word) : State :=
  let m := s.pinMask (s.owner who) (s.secure who) g
  s.wr (padOut g) (f (s.rd (padOut g)) m v)

/-- PAD_OUTn takes the written levels. -/
def outStore (old m v : Word) : Word := (old &&& ~~~ m) ||| (v &&& m)
/-- PAD_OUTSETn sets. -/
def outSet (old m v : Word) : Word := old ||| (v &&& m)
/-- PAD_OUTCLRn clears. -/
def outClr (old m v : Word) : Word := old &&& ~~~ (v &&& m)
/-- PAD_OUTTGLn toggles. -/
def outTgl (old m v : Word) : Word := old ^^^ (v &&& m)

/-- The edge flags of a group are cleared for the pins the writer owns (R485, R486). -/
def State.padEdgeClear (s : State) (who : Initiator) (g : Nat) (v : Word) : State :=
  let a := if g = 0 then R.PAD_EDGE0 else R.PAD_EDGE1
  s.wr a (s.rd a &&& ~~~ (v &&& s.pinMask (s.owner who) (s.secure who) g))

/-- A task slot acts on its pin: 0 set, 1 clear, 2 toggle (R485, R487). -/
def State.padTask (s : State) (k act : Nat) : State :=
  if s.fb (F.PAD_TSKk_EN k) = false then s
  else
    let n := s.fg (F.PAD_TSKk_IO k)
    let m := w32 (2 ^ (n % 32))
    let a := padOut (n / 32)
    let old := s.rd a
    s.wr a (if act = 0 then old ||| m else if act = 1 then old &&& ~~~ m else old ^^^ m)

/-! ## Levels and holds -/

/-- The hold bit of a pin's group. -/
def padGroup (n : Nat) : Fld := if n < 32 then F.PAD_HOLD_BANK_A else F.PAD_HOLD_BANK_B

/-- The configuration a pin follows, for its input and pull: the latched one while its group is held (R297, R483). -/
def State.pinCfg (s : State) (n : Nat) : Word := if s.fb (padGroup n) then (alGet s.pwr.hold.cfg n).getD 0 else s.rd (R.PAD_CFGn n)

/-- A pin's input is on: IE, and not FUNC 1 on IO56-IO63 (R447). -/
def inputOn (n : Nat) (c : Word) : Bool := wBit c 8 && !(decide (56 ≤ n) && wField c 5 4 == 1)

/-- The timer whose TMRt_IO0 a pin carries under its FUNC (Table 15-3). -/
def pinTimer (n f : Nat) : Option Nat :=
  if f = 1 ∧ 16 ≤ n ∧ n < 24 ∧ n % 2 = 0 then some ((n - 16) / 2)
  else if f = 2 ∧ n < 8 ∧ n % 2 = 0 then some (n / 2)
  else none

/-- The serial engine and signal, S0 to S3, that a pin carries under its FUNC (Tables 15-2, 15-3). -/
def pinSe (n f : Nat) : Option (Nat × Nat) :=
  if f = 1 ∧ n < 8 then some (n / 4, n % 4) else if f = 1 ∧ 32 ≤ n ∧ n < 40 then some ((n - 24) / 4, n % 4) else none

/-- What a serial engine drives on a signal (Table 15-2): CS_N of SPI is low throughout a transfer (R446) and high outside one (log 91); I²C's open-drain
lines are released at rest. The level of a line that carries bits is not modelled: it is a free value, as is what an open-drain line does in a
transfer (log 91). The engine's inputs drive nothing. -/
def State.seDrive (s : State) (m k : Nat) (w : Word) : Option Bool :=
  let mode := s.fg (F.SEn_CFG_MODE m)
  let busy := s.fb (F.SEn_STAT_BUSY m)
  if mode = 2 then (if 2 ≤ k ∨ busy = false ∨ wBit w 0 then none else some false)
  else if mode = 1 ∧ k = 3 then some (!busy)
  else if k = 1 ∨ (mode = 0 ∧ k = 3) then none
  else some (wBit w 1)

/-- Octets of the host port's receive buffer that are free: it holds 4,096, and what it holds is the frame that is coming in (R413). -/
def State.hostFree (s : State) : Nat := 4096 - s.hst.port.rx.length

/-- What the host port drives on a pin (R412, R413): INT_N, low while a frame is pending in SPI mode; RTS_N with FLOW 1, high while fewer than 2,200
octets are free. The bits of MISO and TXD, and whether MISO drives, are free values (log 91). -/
def State.hstDrive (s : State) (n f : Nat) (w : Word) : Option Bool :=
  if n = 12 ∧ f = 1 then some (!(s.fg F.HST_STAT_MODE != 1 && !s.hst.port.out.isEmpty))
  else if n = 8 ∧ f = 2 then (if s.fb F.HST_CFG_FLOW then some (decide (s.hostFree < 2200)) else none)
  else if n = 11 ∧ f = 1 then (if wBit w 0 then some (wBit w 1) else none)
  else if n = 11 ∧ f = 2 then some (wBit w 1)
  else none

/-- A pin of the host port. -/
def pinHst (n f : Nat) : Bool := (f == 1 || f == 2) && decide (8 ≤ n) && decide (n ≤ 12)

/-- RFA_HPSEL: high while the HP path transmits a frame or a test signal, and until its ramp has ended (R182, R192). -/
def State.hpsel (s : State) : Bool :=
  let r := s.rad .a
  r.act.any (fun a => a.phase == .onAir && a.hp) || r.ramp == some true ||
  (s.radioState .a == rTest && s.fb F.RFA_TEST_PATH && s.fg F.RFA_TEST_MODE != 2)

/-- The output of a block with an ownership field, on a pin of an owner: it drives only while the pin's owner owns the block (R447). -/
def fnDrive (own blk : Nat) (x : Option Bool) : Option Bool := if own = blk ∧ own ≠ ownNone then x else none

/-- What a pin's registers and function drive: the general port under FUNC 0, open drain with a 1 being high-impedance, else the function's output (R447,
R479, R481). A pin of HOST carries its host port function whatever HST_OWN holds (R480). -/
def State.pinOut (s : State) (n : Nat) : Option Bool :=
  let c := s.rd (R.PAD_CFGn n)
  let f := wField c 5 4
  let own := wField c 26 24
  let o := wBit (s.rd (padOut (n / 32))) (n % 32)
  let w := Config.pinWave n s.free
  if f = 0 then (if wBit c 1 && (!wBit c 11 || !o) then some o else none)
  else if n = 13 ∨ n = 40 then fnDrive own ownHearth (some s.hpsel)
  else if n = 15 then fnDrive own ownDebug (if wBit w 0 then some (wBit w 1) else none)
  else if pinHst n f then (if own = ownHost then s.hstDrive n f w else fnDrive own (s.fg F.HST_OWN_OWNER) (s.hstDrive n f w))
  else match pinTimer n f, pinSe n f with
    | some t, _ => fnDrive own (s.fg F.TMR_OWN_OWNER) (some (nth s.per.tmrOut t false))
    | none, some (m, k) => fnDrive own (s.fg (F.SEn_OWN_OWNER m)) (s.seDrive m k w)
    | none, none => none

/-- What the part drives on a pin: nothing where it is high-impedance (R464); while its group is held, the level and output enable latched at entry
(R297, R482). -/
def State.pinDrive (s : State) (n : Nat) : Option Bool :=
  if s.fb (ioLow (n / 32)) then none
  else if s.fb (padGroup n) then nth s.pwr.hold.drive n none
  else s.pinOut n

/-- The level at a pin: what the part drives, else what the board drives, else its pull. -/
def State.pinLevel (s : State) (n : Nat) : Bool := match s.pinDrive n with
  | some b => b
  | none => (alGet s.sup.pins n).getD (wField (s.pinCfg n) 10 9 == 2)

/-- HST_CTS_N, heard on IO9 under FUNC 2 by a pin of HOST or of the owner of HST, is high while FLOW is 1: the UART host port stops sending (R413). -/
def State.hostStopped (s : State) : Bool :=
  let c := s.rd (R.PAD_CFGn 9)
  let own := wField c 26 24
  s.fb F.HST_CFG_FLOW && s.fg F.HST_STAT_MODE == 1 && wField c 5 4 == 2 && (own == ownHost || own == s.fg F.HST_OWN_OWNER) && s.pinLevel 9

/-- PFW_N: low while the power-fail warning stands, released otherwise (R456). -/
def State.pfwN (s : State) : Option Bool := if s.fb F.SUP_STAT_PFW then some false else none

/-- PAD_INn: the level of each pin of a group whose input is on. FUNC 1 on IO56-IO63 turns the input off (R447). -/
def State.padIn (s : State) (g : Nat) : Word :=
  w32 ((List.range 32).foldl (fun v i =>
    let n := 32 * g + i
    if inputOn n (s.pinCfg n) && s.pinLevel n then v + 2 ^ i else v) 0)

/-- The pin on which a timer's TMRt_IO1 is heard: of the two that can carry it, the lower-numbered one whose FUNC selects it (R447, Table 15-3). -/
def State.tmrIn (s : State) (t : Nat) : Option Nat :=
  let on (n f : Nat) : Bool := wField (s.pinCfg n) 5 4 == f && inputOn n (s.pinCfg n)
  if on (2 * t + 1) 2 then some (2 * t + 1) else if on (17 + 2 * t) 1 then some (17 + 2 * t) else none

/-- An edge on a pin: one of the timer where TMRt_IO1 is heard there (R447). -/
def State.tmrPinEdge (s : State) (io : TmrIo) (count : Nat) (rising : Bool) : State :=
  if s.tmrIn io.t = some (if io.high then 17 + 2 * io.t.val else 2 * io.t.val + 1) then s.tmrEdge io.t count rising else s

/-- What a pin's latch takes at an entry: what it drives, or still holds where its group is held already. -/
def State.pinLatch (s : State) (n : Nat) : Option Bool := if s.fb (padGroup n) then nth s.pwr.hold.drive n none else s.pinOut n

/-- The pads are latched at an entry (R297). -/
def State.padLatch (s : State) : State :=
  let cfg := (List.range 64).map (fun n => (n, s.pinCfg n))
  let d := if s.fb F.PWR_CFG_DIM_HOLD then s.dimSink else 0
  let h : PadHold := ⟨(List.range 64).map s.pinLatch, cfg, s.relayOn 0, s.relayOn 1, d⟩
  (s.mPwr (fun p => { p with hold := h })).wr R.PAD_HOLD 7

/-- A group is released to its registers (R298): bit 0 bank A, 1 bank B, 2 lamp. -/
def State.padRelease (s : State) (bit : Nat) : State := s.rclr R.PAD_HOLD bit

/-- A write of one bit of PAD_RELEASE (R491): a secure access of CORE_A, CORE_B or PILOT, which for LAMP owns LUM or finds it unowned. -/
def State.padReleaseWrite (s : State) (who : Initiator) (bit : Nat) : State :=
  let own := s.owner who
  let lum := s.fg F.LUM_OWN_OWNER
  if isCore own && s.secure who && (bit != 2 || lum == own || lum == ownNone) then s.padRelease bit
  else s.fset F.PAD_EVT_WERR

/-! ## Edges -/

/-- A level change the board makes on a pin (R486). The detectors run in RUN, DOZE and BANKED, by EDGE of the pin's register: a hold latches the input
enable, and no EDGE (R297, R483). -/
def State.padEdge (s : State) (n : Nat) (rising : Bool) : State :=
  let s := s.mSup (fun x => { x with pins := alSet x.pins n rising })
  let c := s.pinCfg n
  let e := wField (s.rd (R.PAD_CFGn n)) 17 16
  if inputOn n c && (if rising then e % 2 == 1 else decide (2 ≤ e)) && !s.fb (ioLow (n / 32)) && (decide (s.pwr.state = .run) || decide (s.pwr.state = .banked)) then
    (s.rset (if n < 32 then R.PAD_EDGE0 else R.PAD_EDGE1) (n % 32)).emit (0x01 + n) 0
  else s

/-- A falling edge on SVC_RX (Table 9-5). -/
def State.svcRxFall (s : State) : State := s.wakeEvent 6

/-- A wake pin's trigger, after its debounce (R486, R461): 1 low level, 2 rising, 3 falling. WAKE3 is the NTC input while NTC_EN is 1. -/
def State.wakePin (s : State) (n trig : Nat) : State :=
  if wField (s.rd R.PWR_WAKE_PIN) (4 * n + 1) (4 * n) ≠ trig ∨ trig = 0 ∨ (n = 3 ∧ s.fb F.SUP_CHG_ACT_NTC_EN) then s
  else
    let s := s.wakeEvent (2 + n)
    if s.pwr.state = .cinder ∨ s.pwr.state = .failed then s
    else (s.rset R.PAD_WAKE_EDGE n).emit (0x41 + n) 0

end Sys2Proof.Machine
end

