-- ==== Sys2Proof/Machine/Flue.lean ====
section
/-! DEFINITION. The start of a DMA channel (R31-R33) and the flue: delivery, checks, merges, hop counts, holds through BANKED, and the writes of
its channels (R268-R280). -/

namespace Sys2Proof.Machine

/-! ## DMA channels: start, stop and the next descriptor -/

/-- A channel's working state. -/
def State.dch (s : State) (c : Nat) : DmaCh := nth s.dma c ⟨0, 0, 0, 0, false, false⟩

/-- The channel is ACTIVE. -/
def State.dmaActive (s : State) (c : Nat) : Bool := s.fg (F.DMA_CHn_STAT_STATE c) == 1

/-- The error code of R33 for a syndrome of Table 1-7: an address that is no place at all makes the descriptor wrong. -/
def dmaCode (syn : Nat) : Nat :=
  if syn = synOwner then 1 else if syn = synSecure then 2 else if syn = synEcc then 3 else if syn = synBusy then 4 else 5

/-- The channel takes up the descriptor at `a` (R32): four aligned words in SRAM that its owner can read. -/
def State.dmaLoad (s : State) (c a : Nat) : State :=
  let a := a / 16 * 16
  let s := s.wr (R.DMA_CHn_CUR c) (w32 a)
  let sram := match regionOf a with
    | .sram _ => true
    | _ => false
  if sram = false then s.dmaError c 5
  else if s.memSynOf (.dma c) a false ≠ 0 then
    (s.forbid (.dma c) a false (s.memSynOf (.dma c) a false)).dmaError c (dmaCode (s.memSynOf (.dma c) a false))
  else if (List.range 4).any (fun i => s.eccBad.contains (a + 4 * i)) then s.dmaError c 3
  else
    let ctl := s.lw (a + 8)
    let s := s.mDma (fun l => modAt l c (fun x => { x with
      src := (s.lw a).toNat, dst := (s.lw (a + 4)).toNat, ctl := ctl, next := (s.lw (a + 12)).toNat, waiting := false }))
    let s := s.fp (F.DMA_CHn_STAT_REM c) (wField ctl 15 0)
    if wField ctl 29 28 = 3 ∨ wField ctl 15 0 = 0 then s.dmaError c 5 else s

/-- START by software (`hop` none) or by the flue task: ignored while ACTIVE, and while EN is 0 (R32). -/
def State.dmaStart (s : State) (c : Nat) (hop : Option Nat) : State :=
  if s.dmaActive c || !s.fb (F.DMA_CHn_CFG_EN c) then s
  else
    let s := ((s.fp (F.DMA_CHn_STAT_STATE c) 1).fp (F.DMA_CHn_STAT_ERR c) 0).setHop (0x01 + c) hop
    let s := s.mDma (fun l => modAt l c (fun x => { x with stopReq := false, waiting := false }))
    s.dmaLoad c (s.rd (R.DMA_CHn_DESC c)).toNat

/-- STOP ends the channel at the end of its current descriptor; a channel that waits between descriptors ends at once. -/
def State.dmaStop (s : State) (c : Nat) : State :=
  if s.dmaActive c = false then s
  else if (s.dch c).waiting then
    (((s.fp (F.DMA_CHn_STAT_STATE c) 2).emitChained (0x78 + c) (0x01 + c)).setHop (0x01 + c) none).mDma (fun l => modAt l c (fun x => { x with waiting := false }))
  else s.mDma (fun l => modAt l c (fun x => { x with stopReq := true }))

/-- ABORT stops it with ERR ABORTED (R33). -/
def State.dmaAbort (s : State) (c : Nat) : State := if s.dmaActive c then s.dmaError c 6 else s

/-- The current descriptor has ended (R32, R33): the channel is DONE, or goes on to the next descriptor unless a damper request is pending. -/
def State.dmaDescEnd (s : State) (c : Nat) : State :=
  let x := s.dch c
  let s := if wBit x.ctl 30 then s.rset R.DMA_DONE_STAT c else s
  if wBit x.ctl 31 || x.stopReq then ((s.fp (F.DMA_CHn_STAT_STATE c) 2).emitChained (0x78 + c) (0x01 + c)).setHop (0x01 + c) none
  else if s.pwr.entry.isSome then s.mDma (fun l => modAt l c (fun x => { x with waiting := true }))
  else s.dmaLoad c x.next

/-- Channels that waited for a damper request go on once it has ended. -/
def State.dmaGoOn (s : State) : State :=
  s.forEach (List.range 16) (fun s c => if s.dmaActive c && (s.dch c).waiting then s.dmaLoad c (s.dch c).next else s)

/-! ## Tasks -/

/-- A wake from BANKED, requested by the flue (Table 9-5). -/
def State.flueWake (s : State) : State := s.wakeEvent 7

/-- HRT_TK_STAMP_A or _B (Table 8-2). A timeline that runs no slots has no slot start: the offset is a free value then. -/
def State.stamp (s : State) (t : Tl) (tick : Nat) : State :=
  let r := if s.runs t then (w32 tick, s) else s.draw
  let d := asnData t (s.asn t)
  (((r.2.wr R.FLU_STAMP_ASN_LO d.1).wr R.FLU_STAMP_ASN_HI d.2).wr R.FLU_STAMP_OFF r.1).wr R.FLU_STAMP_EMB r.2.emberLo

/-- A task's block cannot accept it (Table 8-4). -/
def State.taskBusy (s : State) (k : Nat) : Bool :=
  if 0x01 ≤ k ∧ k ≤ 0x10 then s.dmaActive (k - 1) || !s.fb (F.DMA_CHn_CFG_FLUE_START (k - 1))
  else if 0x18 ≤ k ∧ k ≤ 0x1B then s.tmrRuns (k - 0x18)
  else if k = 0x28 then s.fb F.ADC_STAT_BUSY
  else if k = 0x50 then s.daliBusy
  else if k = 0x51 ∨ k = 0x52 then s.rlyRefused (k - 0x51)
  else if k = 0x60 then s.fb F.ASH_STAT_FLUSHING
  else if 0x80 ≤ k ∧ k ≤ 0x83 then s.fb (F.SEn_STAT_BUSY (k - 0x80))
  else false

/-- A task's domain is off in BANKED (Table 8-4, Table 1-2): APP, PER and FLASH. -/
def taskOff (k : Nat) : Bool := !(k == 0x61 || k == 0x68 || k == 0x70 || k == 0x71)

/-- A task input is triggered with a hop count by the channel `ch`. -/
def State.taskRun (s : State) (k hop ch : Nat) (e : FlueEnv) : State :=
  let n (i : Nat) : Nat := nth e.counts i 0
  if 0x01 ≤ k ∧ k ≤ 0x10 then s.dmaStart (k - 1) (some hop)
  else if 0x18 ≤ k ∧ k ≤ 0x1B then s.tmrStart (k - 0x18) (some hop)
  else if 0x1C ≤ k ∧ k ≤ 0x1F then s.tmrStop (k - 0x1C) (n (k - 0x1C))
  else if 0x20 ≤ k ∧ k ≤ 0x23 then s.tmrCapture (k - 0x20) (n (k - 0x20))
  else if k = 0x28 then s.adcSample (some hop)
  else if 0x30 ≤ k ∧ k ≤ 0x47 then s.padTask ((k - 0x30) % 8) ((k - 0x30) / 8)
  else if k = 0x50 then s.daliSend (some hop)
  else if k = 0x51 ∨ k = 0x52 then s.rlyStart (k - 0x51)
  else if k = 0x53 then s.dimApply
  else if k = 0x58 then s.metSnap
  else if k = 0x60 then s.ashFlushStart false (some hop)
  else if k = 0x61 then s.ash3 0x0009 (w32 ch) 0 0
  else if k = 0x68 then s.flueWake
  else if k = 0x70 then s.stamp .a e.tickA
  else if k = 0x71 then s.stamp .b e.tickB
  else s.seStart (k - 0x80) (some hop)

/-- An event reaches a busy task: MISSED counts, and FLU_SUM.MISS is set (R275). -/
def State.taskMiss (s : State) (k : Nat) : State := (s.fsat (F.FLU_TKt_STAT_MISSED k)).fset F.FLU_SUM_MISS

/-! ## Delivery -/

/-- An event on its way to a task: the channel, hop count and task code, and whether the task's domain is off, or it waits already for a held
event, so that the event can only be missed (R278). -/
structure Trig where
  ch : Nat
  hop : Nat
  task : Nat
  miss : Bool
  deriving DecidableEq, Repr

/-- The tasks of a channel, in the order TASK0 to TASK3. -/
def State.chTasks (s : State) (c : Nat) : List Nat :=
  ((List.range 4).map (fun i => wField (s.rd (R.FLU_CHc_TSK c)) (8 * i + 7) (8 * i))).filter (fun k => k ≠ 0)

/-- Events are held on WAKE channels, and tasks of unpowered domains are out of reach: in BANKED and from commitment to it (R278). -/
def State.flueBanked (s : State) : Bool := decide (s.pwr.state = .banked) || s.pwr.entry.any (fun e => e.committed && !e.cinder)

/-- The SEQ domain, with the flue, has no power (Table 1-2). -/
def State.flueOff (s : State) : Bool := decide (s.pwr.state = .cinder) || decide (s.pwr.state = .failed)

/-- An event with hop count 8 is dropped (R277). -/
def State.flueLoop (s : State) (c : Nat) : State :=
  let s := ((s.rset (if c < 32 then R.FLU_LOOP0 else R.FLU_LOOP1) (c % 32)).fset F.FLU_SUM_LOOP).fsat (F.FLU_CHc_STAT_DROPPED c)
  if (alGet s.flue.loopAt c).any (fun t => s.since t < 60) then s
  else
    let s := s.mFlue (fun f => { f with loopAt := alSet f.loopAt c s.rtc.ember })
    -- Hearth's domain is off in BANKED: it enters the record when it is repowered (R392)
    if s.pwr.state = .banked then s.mAsh (fun a => { a with late := a.late ++ [⟨0x000A, 0xFF, true, w32 c, 0, 0⟩] })
    else s.ash3 0x000A (w32 c) 0 0

/-- The channel owner can write the task's block now (R272); a code that is not listed is never triggered (R280). -/
def State.taskPermitted (s : State) (c k : Nat) : Bool :=
  taskListed k && s.taskSyn (s.fg (F.FLU_CHc_CFG_OWNER c)) (s.fb (F.FLU_CHc_CFG_SEC c)) k == 0

/-- A channel delivers an event: its watch flag, count and hop count; the tasks it may trigger now, those it can only miss, and a hold where WAKE
starts the BANKED exit (R272, R274, R278, R280). During an attempt that is not committed every domain still has its power: the tasks are triggered
at once, and a WAKE channel's event asks for the wake that follows entry (R278, R288). -/
def State.flueCh (s : State) (c hop : Nat) : List Trig × State :=
  let s := (s.rset (if c < 32 then R.FLU_WATCH0 else R.FLU_WATCH1) (c % 32)).rinc (R.FLU_CHc_CNT c)
  let s := s.fp (F.FLU_CHc_STAT_HOP c) hop
  let ok := s.taskPermitted c
  let denied := ((s.chTasks c).filter (fun k => !ok k)).length
  let s := s.fadd (F.FLU_CHc_STAT_DENIED c) denied
  let l := (s.chTasks c).filter ok
  let wake := s.fb (F.FLU_CHc_CFG_WAKE c)
  if s.flueBanked = false then (l.map (fun k => ⟨c, hop, k, false⟩), if wake && s.pwr.entry.isSome then s.flueWake else s)
  else
    let now := (l.filter (fun k => !taskOff k)).map (fun k => (⟨c, hop, k, false⟩ : Trig))
    let off := l.filter taskOff
    if wake = false then (now ++ off.map (fun k => ⟨c, hop, k, true⟩), s)
    else
      let s := s.flueWake
      match s.flue.held.find? (fun h => h.ch == c) with
      | some h => (now ++ h.tasks.map (fun k => ⟨c, hop, k, true⟩), s)
      | none => (now, s.mFlue (fun f => { f with held := f.held ++ [⟨c, hop, off⟩] }))

/-- The channels that carry an event, in order, each with the event's hop count (R268). -/
def State.flueHits (s : State) (l : List FlueEv) : List (Nat × Nat) :=
  (List.range 48).flatMap (fun c =>
    if s.fb (F.FLU_CHc_CFG_EN c) then (l.filter (fun e => e.code == s.fg (F.FLU_CHc_CFG_EVENT c))).map (fun e => (c, e.hop)) else [])

/-- One task input in one flue cycle: triggers from several channels merge, with the highest hop count (R275, R276). -/
def State.flueTask (s : State) (l : List Trig) (e : FlueEnv) (k : Nat) : State :=
  let mine := l.filter (fun t => t.task == k)
  let hop := mine.foldl (fun h t => max h t.hop) 0
  let s := if 2 ≤ (mine.map (fun t => t.ch)).eraseDups.length then (s.fset (F.FLU_TKt_STAT_MERGE k)).fset F.FLU_SUM_MERGE else s
  if mine.any Trig.miss || s.taskBusy k then s.taskMiss k else s.taskRun k hop ((lowest (mine.map (fun t => t.ch))).getD 0) e

/-- All triggers of one flue cycle, in the order of the task codes. -/
def State.flueFire (s : State) (l : List Trig) (e : FlueEnv) : State :=
  s.forEach ((List.range 0x84).filter (fun k => l.any (fun t => t.task == k))) (fun s k => s.flueTask l e k)

/-- One flue cycle: the first `n` events that wait are delivered together. Without power the flue loses them. -/
def State.flueCycle (s : State) (n : Nat) (e : FlueEnv) : State :=
  if s.flueOff then s.mFlue (fun f => { f with events := [] })
  else
    let evs := s.flue.events.take n
    let s := s.mFlue (fun f => { f with events := f.events.drop n })
    let hits := s.flueHits evs
    let r := hits.foldl (fun (r : List Trig × State) h =>
      if 8 ≤ h.2 then (r.1, r.2.flueLoop h.1)
      else let q := r.2.flueCh h.1 h.2; (r.1 ++ q.1, q.2)) (([] : List Trig), s)
    r.2.flueFire r.1 e

/-- Held events trigger their waiting tasks once the domains are released (R278), each checked against the owner model as it stands in that cycle
(R272). -/
def State.flueRelease (s : State) (e : FlueEnv) : State :=
  if s.flueBanked || s.flueOff then s
  else
    let l := s.flue.held.flatMap (fun h => h.tasks.map (fun k => (⟨h.ch, h.hop, k, false⟩ : Trig)))
    let s := s.mFlue (fun f => { f with held := [] })
    let t := s.forEach (l.filter (fun t => !s.taskPermitted t.ch t.task)) (fun s t => s.fadd (F.FLU_CHc_STAT_DENIED t.ch) 1)
    t.flueFire (l.filter (fun t => s.taskPermitted t.ch t.task)) e

/-! ## Registers -/

/-- An address that stands for the block that produces an event. -/
def eventReg (e : Nat) : Nat :=
  if e ≤ 0x49 then R.RTC_STAT
  else if e ≤ 0x52 then R.HRT_STAT
  else if e ≤ 0x59 then R.SUP_STAT
  else if e ≤ 0x6B then R.TMR_OWN - 0xFFC
  else if e ≤ 0x71 then R.ADC_CFG
  else if e ≤ 0x87 then R.DMA_CHn_STAT (e - 0x78)
  else if e ≤ 0x89 then R.MET_CFG
  else if e ≤ 0x92 then R.LUM_STAT
  else if e ≤ 0x9F then R.SEn_CFG ((e - 0x98) % 4)
  else R.ASH_STAT

/-- EVENT may name a producer the channel owner can read (R271, R279). An edge's producer is its pin, which has an owner of its own (Table 1-6,
R477); WAKE0 to WAKE3 have none. -/
def State.eventOk (s : State) (own : Nat) (sec : Bool) (e : Nat) : Bool :=
  eventListed e && (if e ≤ 0x40 then s.pinMine own sec (e - 1) else if e ≤ 0x44 then true else s.regSyn own sec (eventReg e) false == 0)

/-- WERR of a channel. -/
def State.flueWerr (s : State) (c : Nat) (bad : Bool) : State := if bad then s.fset (F.FLU_CHc_STAT_WERR c) else s

/-- A write of FLU_CHc_CFG by the channel's owner or, on an unowned channel, a claim (R270, R271): each field that the write changes is taken
or ignored by itself, EVENT, SEC and WAKE with WERR where R271 says so (log 66); OWNER, and a SEC that LOCK freezes, without. -/
def State.flueCfgWrite (s : State) (own c : Nat) (v : Word) : State :=
  let free := s.fg (F.FLU_CHc_CFG_OWNER c) == ownNone
  if free && (wField v 26 24 != own || s.fb (F.FLU_CHc_CFG_LOCK c)) then s
  else
    let s := if free then s.fp (F.FLU_CHc_CFG_OWNER c) own else s
    let en := s.fb (F.FLU_CHc_CFG_EN c)
    let lock := s.fb (F.FLU_CHc_CFG_LOCK c)
    let newOwn := wField v 26 24
    let s := if newOwn = own then s
      else if lock || en || newOwn != ownNone then s
      else s.fp (F.FLU_CHc_CFG_OWNER c) ownNone
    let sec := wField v 20 20
    let s := if sec = s.fg (F.FLU_CHc_CFG_SEC c) then s else if en then s.flueWerr c true else if lock then s else s.fp (F.FLU_CHc_CFG_SEC c) sec
    let wake := wField v 30 30
    let s := if wake = s.fg (F.FLU_CHc_CFG_WAKE c) then s else if en then s.flueWerr c true else s.fp (F.FLU_CHc_CFG_WAKE c) wake
    let ev := wField v 7 0
    let s := if ev = s.fg (F.FLU_CHc_CFG_EVENT c) then s
      else if en || !s.eventOk own (s.fb (F.FLU_CHc_CFG_SEC c)) ev then s.flueWerr c true
      else s.fp (F.FLU_CHc_CFG_EVENT c) ev
    let s := if wBit v 29 then s.fset (F.FLU_CHc_CFG_LOCK c) else s
    if s.fg (F.FLU_CHc_CFG_OWNER c) = ownNone then s else s.fp (F.FLU_CHc_CFG_EN c) (wField v 31 31)

/-- A write of FLU_CHc_TSK: ignored with WERR while EN is 1 (R271). -/
def State.flueTskWrite (s : State) (c : Nat) (v : Word) : State :=
  if s.fb (F.FLU_CHc_CFG_EN c) then s.flueWerr c true else s.wr (R.FLU_CHc_TSK c) v

/-- The channels of a half (0: 0-31, 1: 32-47) whose registers an access can reach (R274). -/
def State.flueMask (s : State) (own : Nat) (sec : Bool) (g : Nat) : Word :=
  w32 ((List.range (if g = 0 then 32 else 16)).foldl (fun m i => if s.flueSyn own sec (32 * g + i) = 0 then m + 2 ^ i else m) 0)

/-- FLU_SUM.LOOP is the OR of the LOOP flags. -/
def State.flueSumShow (s : State) : State := s.fp F.FLU_SUM_LOOP (b2n (s.rd R.FLU_LOOP0 != 0 || s.rd R.FLU_LOOP1 != 0))

/-- A write-1-to-clear of watch or loop flags: only the bits of channels the writer can reach. -/
def State.flueFlagClear (s : State) (own : Nat) (sec : Bool) (a : Nat) (v : Word) : State :=
  let g := if a = R.FLU_WATCH0 ∨ a = R.FLU_LOOP0 then 0 else 1
  (s.wr a (s.rd a &&& ~~~ (v &&& s.flueMask own sec g))).flueSumShow

/-- A reset, or a wake from CINDER, puts the flue's registers back (R273). -/
def State.flueReset (s : State) : State :=
  (s.regsReset (fun a => a / 0x1000 == 0x40008)).mFlue (fun _ => ⟨[], [], [], []⟩)

/-- A secure write of DMA_CHn_CFG (R31): a claim names the writer itself; the owner configures, and releases while the channel is not ACTIVE.
DESIGN CHOICE (log 23): a write to a free channel that names another identity is ignored without a fault, as R24 has it of a block;
the manual says nothing of it for a channel. DESIGN CHOICE (log 87): a write of the owner that names another identity, or 0b111 while the channel
is ACTIVE, keeps OWNER and takes the write's other fields; the manual is silent on both. -/
def State.dmaCfgWrite (s : State) (own : Nat) (sec : Bool) (c : Nat) (v : Word) : State :=
  let free := s.fg (F.DMA_CHn_CFG_OWNER c) == ownNone
  let new := wField v 26 24
  if free && new != own then s
  else
    let newOwn := if new = own then own else if new = ownNone ∧ s.dmaActive c = false then ownNone else own
    let s := ((s.fp (F.DMA_CHn_CFG_EN c) (wField v 31 31)).fp (F.DMA_CHn_CFG_PRIO c) (wField v 29 28)).fp (F.DMA_CHn_CFG_OWNER c) newOwn
    let s := s.fp (F.DMA_CHn_CFG_FLUE_START c) (wField v 16 16)
    if sec then s.fp (F.DMA_CHn_CFG_SEC c) (wField v 20 20) else s

/-- A write of DMA_CHn_CTL. -/
def State.dmaCtl (s : State) (c : Nat) (v : Word) : State :=
  let s := if wBit v 2 then s.dmaAbort c else s
  let s := if wBit v 1 then s.dmaStop c else s
  if wBit v 0 then s.dmaStart c none else s

end Sys2Proof.Machine
end

