-- ==== Sys2Proof/Machine/UpdCore.lean ====
section
/-! DEFINITION. The update engine (R354-R379): its states and refusals, the target, erase, write and verification of a stream, the
shadow start, the handover, the swap, probation, rollback and commit, the owner lock and the configuration set. Flash commands are queued
with a tag that says what waits for them; updFlashEnd takes their ends. -/

namespace Sys2Proof.Machine

/-! ## States, results and refusals -/

/-- States of Table 12-1. -/
abbrev uIdle : Nat := 0
/-- ERASING. -/
abbrev uErasing : Nat := 1
/-- RECEIVING. -/
abbrev uReceiving : Nat := 2
/-- VERIFYING. -/
abbrev uVerifying : Nat := 3
/-- VERIFIED. -/
abbrev uVerified : Nat := 4
/-- LOADING. -/
abbrev uLoading : Nat := 5
/-- SHADOW. -/
abbrev uShadow : Nat := 6
/-- EXPORT. -/
abbrev uExport : Nat := 7
/-- IMPORT. -/
abbrev uImport : Nat := 8
/-- SWAP. -/
abbrev uSwap : Nat := 9
/-- PROBATION. -/
abbrev uProbation : Nat := 10
/-- ROLLBACK. -/
abbrev uRollback : Nat := 11
/-- COMMIT. -/
abbrev uCommit : Nat := 12

/-- The engine's state. -/
def State.uState (s : State) : Nat := s.fg F.UPD_STAT_STATE

/-- Enter a state; IDLE, VERIFIED and SHADOW end the hold of WRITER (R355). -/
def State.uGo (s : State) (n : Nat) : State :=
  let s := s.fp F.UPD_STAT_STATE n
  if n = uIdle ∨ n = uVerified ∨ n = uShadow then s.mUpd (fun x => { x with keep := false }) else s

/-- An operation ends with a code of UPD_RES. -/
def State.uEnd (s : State) (code : Nat) : State := (s.csEnd .upd code).fset F.UPD_EVT_DONE

/-- Seconds since the last motion report (UPD_MOTION_AGO), saturating. -/
def State.motionAgo (s : State) : Nat := match s.upd.motionAt with
  | some t => min (s.since t) 0xFFFFFFFF
  | none => 0xFFFFFFFF

/-- MOVING (Table 12-3). -/
def State.uMoving (s : State) : Bool :=
  s.hrt.cfg.upd.motionWin != 0 && s.upd.motionAt.isSome && decide (s.motionAgo < 60 * s.hrt.cfg.upd.motionWin)

/-- LOW_SUPPLY (Table 12-3). -/
def State.uLow (s : State) : Bool :=
  (!s.vinOk && decide (s.sup.vkeep < s.hrt.cfg.upd.vkeepMin)) || s.fb F.SUP_STAT_PFW

/-- The refusal state of Table 12-3 that holds, lowest code first; 0 where none does (R356). -/
def State.uRefusal (s : State) : Nat :=
  if s.uMoving then 1 else if s.uLow then 2 else if s.fb F.UPD_STAT_OWNER_LOCK then 3 else 0

/-- An operation of the engine is in progress, for the damper (R386). -/
def State.uInProgress (s : State) : Bool :=
  s.flc.queue.any (fun c => c.req == reqUpd) || s.flc.running.any (fun r => r.cmd.req == reqUpd) ||
  s.flc.suspended.any (fun r => r.cmd.req == reqUpd) || !s.upd.held.isEmpty || s.uState == uVerifying ||
  (decide (uLoading ≤ s.uState) && decide (s.uState ≤ uSwap)) || s.uState == uRollback || s.uState == uCommit

/-- A request for a reset whose cause is deferred (R306). -/
def State.resetAsk (s : State) (cause : Nat) (cold : Bool) : State :=
  s.mRst (fun x => { x with deferred := x.deferred ++ [⟨cause, cold⟩] })

/-! ## Flash tags -/

/-- Tags of the engine's flash commands: an erase of BEGIN. -/
abbrev tErase : Nat := 1
/-- A page of WRITE. -/
abbrev tWrite : Nat := 2
/-- A page END adds to a configuration copy. -/
abbrev tEnd : Nat := 3
/-- The check value of the configuration set. -/
abbrev tArm : Nat := 4
/-- An update-state record. -/
abbrev tLock : Nat := 5
/-- A selector record, or the erase before it. -/
abbrev tSelect : Nat := 6
/-- An erase nothing waits for. -/
abbrev tFree : Nat := 7

/-- The engine holds a piece of its work until no flash step runs where it reads (R342). -/
def State.uHold (s : State) (w : UpdWait) : State := s.mUpd (fun x => { x with held := x.held ++ [w] })

/-- Queue one of the engine's commands. -/
def State.uFlash (s : State) (op : FlashOp) (tag : Nat) : State := s.flcEnqueue reqUpd op false tag

/-! ## Targets and streams (R358-R361, R377) -/

/-- KIND of the update. -/
def State.uKind (s : State) : Nat := s.fg F.UPD_STAT_KIND

/-- TARGET of the update. -/
def State.uTarget (s : State) : Nat := s.fg F.UPD_STAT_TARGET

/-- The target of an image update (R358). -/
def State.imageTarget (s : State) : Nat :=
  if s.fb F.FLC_PROT_NONE then (match s.selCurrent with
    | some (_, r) => 1 - r.unit
    | none => 1)
  else 1 - s.fg F.FLC_PROT_UNIT

/-- No configuration copy is in use (R377). -/
def State.noCopy (s : State) : Bool := s.fg F.HRT_STAT_STATE == hOff || s.fg F.HRT_STAT_STATE == hNoConfig

/-- The sequence number in a copy's header. -/
def State.cfgSeq (s : State) (copy : Nat) : Nat := s.ld (cfgBase copy + 4) 4

/-- The target of a configuration update (R377). -/
def State.configTarget (s : State) : Nat :=
  if s.noCopy then
    if s.cfgMark 0 = false then 0
    else if s.cfgMark 1 = false then 1
    else if s.cfgSeq 0 < s.cfgSeq 1 then 0
    else 1
  else 1 - s.fg F.HRT_STAT_CFG_COPY

/-- The blocks of the target, in stream order. -/
def State.uBlocks (s : State) : List Nat := if s.uKind = 0 then unitBlocks s.uTarget else [10 + s.uTarget]

/-- Octets a stream may hold: 655,360, or 255 pages. -/
def State.uLimit (s : State) : Nat := if s.uKind = 0 then 655360 else 65280

/-- A step runs in a bank that the engine reads for its update: the target's, and for an image also the protected unit's (R342). -/
def State.uBankBusy (s : State) : Bool := s.bankBusy 0 || (s.uKind == 0 && s.bankBusy 1)

/-- The flash address of a stream offset: the target's blocks follow one another (R358). -/
def State.uAddr (s : State) (o : Nat) : Nat := blockAddr (s.uBlocks.headD 0) + o

/-- Pages of the run from stream offset 0; `none` where the programmed pages are no unbroken run (R359). -/
def runPages : List Nat → Option Nat
  | [] => some 0
  | p :: t => if p = 256 then (runPages t).map (fun n => n + 256) else if t.all (fun q => q == 0) then some p else none

/-- BEGIN and RESUME set what they are given (R354, R358). -/
def State.uTake (s : State) (who kind : Nat) : State :=
  let s := (s.fp F.UPD_STAT_KIND kind).mUpd (fun x => { x with who := who, keep := true })
  s.fp F.UPD_STAT_TARGET (if kind = 0 then s.imageTarget else s.configTarget)

/-- BEGIN queues its next erase, or enters RECEIVING (R359). -/
def State.uEraseNext (s : State) : State := match s.upd.erase with
  | b :: t => (s.mUpd (fun x => { x with erase := t })).uFlash (.erase b) tErase
  | [] => ((s.fp F.UPD_NEXT_NEXT 0).uGo uReceiving).uEnd 0

/-- BEGIN (R359). -/
def State.uBegin (s : State) (who kind : Nat) : State :=
  let s := s.uTake who kind
  ((s.mUpd (fun x => { x with erase := s.uBlocks })).uGo uErasing).uEraseNext

/-- RESUME (R359). -/
def State.uResume (s : State) (who kind : Nat) : State :=
  let t := s.uTake who kind
  match (if t.uBlocks.any (fun b => (t.blk b).suspect) then none else runPages (t.uBlocks.map (fun b => (t.blk b).ptr))) with
  | some n => ((t.fp F.UPD_NEXT_NEXT (256 * n)).uGo uReceiving).uEnd 0
  | none => s.uEnd 8

/-- The holder's source at a page of a WRITE, where it can be read (R360); a port's own octets need no memory. -/
def State.uSource (s : State) (a : Nat) : Option (List Byte) :=
  if s.upd.data.isEmpty = false then some ((s.upd.data.drop a).take 256)
  else if s.memOk s.upd.who true a 256 false && (match regionOf a with
    | .sram _ => true
    | _ => false) then some (s.bytes a 256) else none

/-- WRITE programs its next page, or ends (R360). -/
def State.uWriteNext (s : State) : State :=
  if s.upd.wrEnd ≤ s.upd.wrOff then s.uEnd 0
  else match s.uSource s.upd.wrSrc with
    | none => s.uEnd 15
    | some d =>
      let o := s.upd.wrOff
      let s := s.mUpd (fun x => { x with wrOff := x.wrOff + 256, wrSrc := x.wrSrc + 256 })
      s.uFlash (.program (s.uAddr o) d) tWrite

/-- The source's octets. -/
def State.uOctets (s : State) (a n : Nat) : List Byte := if s.upd.data.isEmpty then s.bytes a n else (s.upd.data.drop a).take n

/-- A WRITE that its range admits: the octets below UPD_NEXT are compared, and the first page follows. -/
def State.uWriteRun (s : State) : State :=
  let o := s.upd.wrOff
  let below := min (s.upd.wrEnd - o) (s.fg F.UPD_NEXT_NEXT - o)
  if 0 < below ∧ s.bankBusy (blockOf (s.uAddr o) / 64) then s.uHold .write
  else if s.uOctets s.upd.wrSrc below ≠ s.bytes (s.uAddr o) below then s.uEnd 6
  else (s.mUpd (fun x => { x with wrOff := o + below, wrSrc := x.wrSrc + below })).uWriteNext

/-- WRITE (R360): the cases in the order of its table. -/
def State.uWrite (s : State) : State :=
  let src := if s.upd.data.isEmpty then (s.rd R.UPD_SRC).toNat else 0
  let o := s.fg F.UPD_OFF_OFF
  let n := s.fg F.UPD_LEN_LEN
  let next := s.fg F.UPD_NEXT_NEXT
  if s.uLow then s.uEnd 2
  else if o % 256 ≠ 0 ∨ n % 256 ≠ 0 ∨ n < 256 ∨ 4096 < n ∨ s.uLimit < o + n then s.uEnd 8
  else if next < o then s.uEnd 5
  else if (List.range (n / 256)).any (fun i => (s.uSource (src + 256 * i)).isNone) then s.uEnd 15
  else (s.mUpd (fun x => { x with wrOff := o, wrEnd := o + n, wrSrc := src })).uWriteRun

/-- A verify context that is free, context 1 first (R361). -/
def State.pkFree (s : State) : Option Nat :=
  if s.fg (CsId.pk 1).writer = ownNone then some 1 else if s.fg (CsId.pk 0).writer = ownNone then some 0 else none

/-- END's code for an image, once the verify context is there (R361). -/
def State.imageEnd (s : State) : Nat :=
  let u := s.uTarget
  if s.hdrOk u = false ∨ s.lengthsOk u = false ∨ s.unitProgrammed u = false then 8
  else if s.fb F.LCS_STATE_OWNER_SET ∧ s.imageCheck u (unitSlot u) (unitSlot u + s.hdr u 0x14) ≠ 0 then 9
  else if s.hrt.cfg.upd.downgrade = false ∧ s.fb F.FLC_PROT_NONE = false ∧ s.hdr u 4 ≤ s.hdr (s.fg F.FLC_PROT_UNIT) 4 then 10
  else 0

/-- The transport key UPD_CFG_KEY names, where the holder owns its page and the slot is VALID (R377). -/
def State.cfgKey (s : State) : Option (List Byte) :=
  let n := s.fg F.UPD_CFG_KEY_PAGE
  let k := (s.key n (s.fg F.UPD_CFG_KEY_SLOT)).active
  if s.pageOwner n = s.upd.who ∧ n ≠ 5 ∧ k.isEmpty = false then some k else none

/-- The KEYS records of a copy: target and transport blob. -/
def State.keyRecs (s : State) (copy : Nat) : List (Nat × List Byte) :=
  match (s.cfgSects copy).bind (fun l => sect l 0x50) with
  | none => []
  | some x => (List.range (min 16 (s.ld x.addr 1))).map (fun i => (s.ld (x.addr + 4 + 68 * i) 1, s.bytes (x.addr + 8 + 68 * i) 64))

/-- The owner identity a KEYS target's blob must name (R388). -/
def targetOwner (t : Nat) : Nat := if t < 8 then ownHearth else if t = 0x30 then ownPilot else ownSvc

/-- Root-wrap the transport blobs of KEYS in record order (R377). -/
def State.rewrapAll (s : State) (tkey : List Byte) : List (Nat × List Byte) → Option (List (List Byte) × State)
  | [] => some ([], s)
  | (_, b) :: t => match s.rewrap tkey b with
    | none => none
    | some (w, s) => match s.rewrapAll tkey t with
      | none => none
      | some (ws, s) => some (w :: ws, s)

/-- Octets cut into pages, the last filled with 0xFF. -/
def pagesOf (l : List Byte) : List (List Byte) :=
  (List.range ((l.length + 255) / 256)).map (fun i =>
    let p := (l.drop (256 * i)).take 256
    p ++ List.replicate (256 - p.length) 0xFF)

/-- END programs the next page that remains below page 255, or sets VERIFIED (R377). -/
def State.uEndNext (s : State) : State := match s.upd.pages with
  | p :: t =>
    let b := 10 + s.uTarget
    (s.mUpd (fun x => { x with pages := t })).uFlash (.program (blockAddr b + 0x100 * (s.blk b).ptr) p) tEnd
  | [] => (s.uGo uVerified).uEnd 0

/-- The state returns to RECEIVING after a failed END (R361). -/
def State.uEndFail (s : State) (code : Nat) : State := (s.uGo uReceiving).uEnd code

/-- A configuration image has its mark, its length and its whole stream (R377). -/
def State.configFormat (s : State) : Bool :=
  let n := s.ld (cfgBase s.uTarget + 8) 4
  s.cfgMark s.uTarget && decide (n ≤ 65024) && s.fg F.UPD_NEXT_NEXT == 256 * (1 + (n + 255) / 256)

/-- END for a configuration image: its checks in order, then the wrapped keys and the pages that remain (R377). -/
def State.configEnd (s : State) : State :=
  let c := s.uTarget
  let h := cfgBase c
  let n := s.ld (h + 8) 4
  let p := 1 + (n + 255) / 256
  let recs := s.keyRecs c
  let seq := s.cfgSeq c
  let newer (k : Nat) : Bool := !s.cfgMark k || decide (s.cfgSeq k < seq)
  if s.configFormat = false then s.uEndFail 8
  else if sha256 (s.bytes (h + 0x100) n) ≠ s.bytes (h + 0x10) 32 ∨ sha256 (s.bytes (h + 0x30) 64) ≠ s.ownerHash ∨
      ecdsaVerify (s.bytes (h + 0x30) 64) (s.bytes (h + 0x70) 64) (sha256 (s.bytes h 0x70)) ≠ 1 then s.uEndFail 9
  else if newer (1 - c) = false then s.uEndFail 10
  else if recs.any (fun r => blobOwner r.2 != targetOwner r.1) ∨ 255 < p + (recs.length + 3) / 4 then s.uEndFail 8
  else
    let fill (s : State) (ws : List (List Byte)) : State :=
      let blobs := pagesOf ws.flatten
      let rest := 255 - (p + blobs.length)
      (s.mUpd (fun x => { x with pages := blobs ++ List.replicate rest (List.replicate 256 0xFF) })).uEndNext
    if recs.isEmpty then fill s []
    else match s.cfgKey with
      | none => s.uEndFail 15
      | some k => match (if s.trngFail then none else s.rewrapAll k recs) with
        | none => s.uEndFail 9
        | some (ws, s) => fill s ws

/-- END comes to a signature check, which takes a verify context (R361 check 2, R377). -/
def State.uSigned (s : State) : Bool :=
  if s.uKind = 0 then s.fb F.LCS_STATE_OWNER_SET && s.hdrOk s.uTarget && s.lengthsOk s.uTarget && s.unitProgrammed s.uTarget else s.configFormat

/-- The outcome of END's checks (R361, R377). -/
def State.uVerdict (s : State) : State :=
  if s.uKind ≠ 0 then s.configEnd else if s.imageEnd = 0 then (s.uGo uVerified).uEnd 0 else s.uEndFail s.imageEnd

/-- The octets that the check hashes. -/
def State.uHashed (s : State) : Nat :=
  let u := s.uTarget
  if s.uKind ≠ 0 then s.ld (cfgBase u + 8) 4 else s.hdr u 0x0C + (if s.seg1 u then s.hdr u 0x18 else 0)

/-- The check takes a verify context with the holder's identity, and the engine's steps carry it out (R361). -/
def State.uClaim (s : State) (c : Nat) : State :=
  let s := (s.mUpd (fun x => { x with verifyWait := false, ctx := some c })).csTake (.pk c) s.upd.who true
  s.pkStart c s.uHashed ⟨0, false, s.upd.who, true, false, []⟩

/-- END's checks run once no flash step runs where they read (R342) and, where they take a verify context, one is free (R361). -/
def State.uVerify (s : State) : State :=
  if s.uState ≠ uVerifying ∨ s.upd.verifyWait = false ∨ s.uBankBusy = true then s
  else if s.uSigned = false then (s.mUpd (fun x => { x with verifyWait := false })).uVerdict
  else match s.pkFree with
    | some c => s.uClaim c
    | none => s

/-- The check in a verify context has ended: the context is free again, and END ends. DEDUCED (log 93): one that the context's ABORT has stopped has not
passed, CODE SIGNATURE; one whose END has been aborted has no outcome. -/
def State.uCheckEnd (s : State) (c : Nat) (aborted : Bool) : State :=
  let s := (s.mVlt (fun v => { v with pk := v.pk.set c none })).mUpd (fun x => { x with ctx := none })
  let s := ((s.fp (CsId.pk c).state 0).fp (CsId.pk c).code 0).fp (CsId.pk c).writer ownNone
  if s.uState ≠ uVerifying then s else if aborted then s.uEndFail 9 else s.uVerdict

/-- END (R361, R377). -/
def State.uFinish (s : State) : State :=
  if s.uLow then s.uEnd 2
  else ((s.uGo uVerifying).mUpd (fun x => { x with verifyWait := true })).uVerify

/-! ## Settings generations (R367, R368) -/

/-- The generation whose header lies in a block: its number and blocks. A torn page holds no valid header (R333). -/
def State.genAt (s : State) (b : Nat) : Option (Nat × List Nat) :=
  let h := blockAddr b
  let n := s.ld (h + 0x0F) 1
  let l := (List.range n).map (fun i => s.ld (h + 0x0C + i) 1)
  if (s.blk b).suspect = false ∧ s.flc.torn.contains (pageOf h) = false ∧ s.ld h 4 = 0x4B470001 ∧ s.ld (h + 0xFC) 4 = crc32 (s.bytes h 0xFC) ∧ 1 ≤ n ∧ n ≤ 3 ∧ l.head? = some b
  then some (s.ld (h + 4) 4, l.filter (fun x => decide (12 ≤ x) && decide (x < 18))) else none

/-- The generations in the settings store. -/
def State.gens (s : State) : List (Nat × List Nat) := (List.range 6).filterMap (fun i => s.genAt (12 + i))

/-- The blocks of the generation of a number. -/
def State.genBlocks (s : State) (g : Nat) : List Nat := ((s.gens.find? (fun p => p.1 == g)).map (fun p => p.2)).getD []

/-- The committed generation (R367), UPD_GEN_OLD. -/
def State.genOld (s : State) : Nat := match s.selCurrent with
  | some (_, r) => r.gen
  | none => 0

/-- Erases of a generation's blocks are queued. -/
def State.genErase (s : State) (l : List Nat) : State := s.forEach l (fun s b => s.uFlash (.erase b) tFree)

/-- The blocks of the new settings generation are queued for erase, but for those of the committed one (R366, R373). -/
def State.genDrop (s : State) : State :=
  if s.bankBusy 0 then s.uHold .drop
  else
    let old := s.genBlocks s.genOld
    s.genErase ((s.genBlocks (s.rd R.UPD_GEN_NEW).toNat).filter (fun b => !old.contains b))

/-- The frozen generation (R368). -/
def State.freeze (s : State) (l : List Nat) : State :=
  (s.mFlc (fun x => { x with frozen := l })).fp F.UPD_STAT_FROZEN (b2n (!l.isEmpty))

/-! ## Cores of the update -/

/-- The old image's core. -/
def State.uOld (s : State) : CoreId := s.upd.oldCore

/-- The new image's core. -/
def State.uNew (s : State) : CoreId := s.upd.oldCore.other

/-- The idle core (R362). -/
def State.idleCore (s : State) : CoreId := CoreId.ofBit (s.fg F.UPD_STAT_IDLE_CORE)

/-- A core of an identity, as the handover names them. -/
def coreOfId (id : Nat) : Option CoreId :=
  if id = ownA ∨ id = ownPilot then some .a else if id = ownB then some .b else none

/-! ## Decline (R366) -/

/-- The new core is held and wiped, and what it owned is released; its watchdog returns to rest. -/
def State.uDropNew (s : State) : State :=
  let c := s.uNew
  (((s.coreHold c).partWipe c).release c.owner).wdtSet c false false

/-- The update is declined with a code. -/
def State.decline (s : State) (code : Nat) : State :=
  let s := (s.uDropNew.freeze []).genDrop
  let s := (s.fset F.UPD_EVT_DECLINED).csEnd .upd code
  (s.ash3 0x0041 (w32 code) 0 0).uGo uVerified

/-- The states in which a decline can come (Table 12-1: LOADING to SWAP). -/
def State.uShadowing (s : State) : Bool := decide (uLoading ≤ s.uState) && decide (s.uState ≤ uSwap)

/-! ## START and the shadow (R362-R364) -/

/-- The mailbox header fields of UPD (Table 12-6). -/
def State.mailbox (s : State) : State :=
  let m := s.hrt.cfg.upd.mbox
  let g := (s.rd R.UPD_GEN_NEW).toNat
  let s := (s.wipe (m + 0x1C) (m + 0x100)).sw m 0x4B480001
  (s.sw (m + 8) (w32 (s.hdr s.uTarget 4))).sw (m + 0x18) (w32 g)

/-- START's conditions, in order: the code that refuses it, 0 where none does (R356, R362). -/
def State.startCode (s : State) : Nat :=
  let run := s.core s.idleCore.other
  if s.uState ≠ uVerified ∨ s.uKind ≠ 0 ∨ run.started = false ∨ run.pilot then 4
  else if s.seg1 (s.fg F.FLC_PROT_UNIT) ∨ s.seg1 s.uTarget then 11
  else if (s.core s.idleCore).held = false then 4
  else s.uRefusal

/-- START (R363): the idle core's banks are wiped and the mailbox written; UPD_HAND's bits are those of this handover (log 93). -/
def State.uStart (s : State) (who : Nat) : State :=
  if s.startCode ≠ 0 then s.uEnd s.startCode
  else
    let c := s.idleCore
    let g := ((highest (s.gens.map (fun p => p.1))).map (fun n => n + 1)).getD 1
    let s := (s.mUpd (fun x => { x with who := who, oldCore := c.other })).uGo uLoading
    (((s.partWipe c).wr R.UPD_GEN_NEW (w32 g)).wr R.UPD_HAND 0).mailbox

/-- The copy is complete: its digest is checked, and the idle core starts or the update is declined (R363). While a step runs in the target's bank the
copy still waits for it (R342). -/
def State.shadowLoaded (s : State) : State :=
  if s.uState ≠ uLoading ∨ s.bankBusy s.uTarget then s
  else
    let u := s.uTarget
    let c := s.uNew
    let b := partBase c
    let s := s.putBytes b (s.bytes (unitSlot u) (s.hdr u 0x0C))
    if sha256 (s.bytes b (s.hdr u 0x0C)) ≠ s.bytes (unitHdr u + 0x20) 32 then s.decline 9
    else
      let s := (s.coreStart c (b + s.hdr u 0x10) false).wdtSet c true false
      ((s.uGo uShadow).uEnd 0).ash3 0x0040 (w32 u) (w32 (s.hdr u 4)) 0

/-! ## Handover (R365) -/

/-- ASK: SHADOW to EXPORT. -/
def State.handAsk (s : State) : State := if s.uState = uShadow then (s.uGo uExport).fset F.UPD_EVT_ASK else s

/-- The old generation is frozen at EXPORTED (R368). -/
def State.freezeOld (s : State) : State := if s.bankBusy 0 then s.uHold .exported else s.freeze (s.genBlocks s.genOld)

/-- EXPORTED: EXPORT to IMPORT, and the old generation is frozen (R368). -/
def State.handExported (s : State) : State :=
  if s.uState = uExport then ((s.uGo uImport).fset F.UPD_EVT_EXPORTED).freezeOld else s

/-- DECLINE. -/
def State.handDecline (s : State) : State := if s.uState = uImport then s.decline 13 else s

/-- T_EXPORT or T_IMPORT has expired (R366). -/
def State.handTimeout (s : State) : State := if s.uState = uExport ∨ s.uState = uImport then s.decline 12 else s

/-- A write of bit `i` of UPD_HAND by `who`: a bit of the wrong core is ignored and sets WERR (R365), any other is set and has its effect. DESIGN CHOICE
(log 93): the bits read 1 until the next START; the manual does not say when they return to 0. -/
def State.handBit (s : State) (who : Nat) (newCore : Bool) (i : Nat) (f : State → State) : State :=
  let c := if newCore then s.uNew else s.uOld
  if s.uShadowing ∧ who = c.owner then f (s.rset R.UPD_HAND i) else s.fset F.UPD_RES_WERR

/-! ## Swap (R369-R371) -/

/-- Hearth runs no boundary of timeline A (R370). -/
def State.noBoundary (s : State) : Bool := [hOff, hNoConfig, hLoading, hRestarting].contains (s.fg F.HRT_STAT_STATE)

/-- The swap itself (R369, R371). -/
def State.swapDo (s : State) : State :=
  let o := s.uOld
  let s := s.ownMove o s.uNew
  let s := s.setCore o { s.core o with parked := true }
  let d := asnData .a (s.asn .a)
  let s := ((s.fset F.UPD_EVT_SWAPPED).ash3 0x0042 d.1 d.2 0).uGo uProbation
  s.wr R.UPD_PROB_LEFT (w32 s.hrt.cfg.upd.probTime)

/-- The swap's turn has come: a refusal state declines it, a busy resource makes it wait (R356, R370). -/
def State.swapTry (s : State) : State :=
  if s.uState ≠ uSwap then s
  else if s.uRefusal ≠ 0 then s.decline s.uRefusal
  else if s.ownBusy s.uOld then s
  else s.swapDo

/-- The swap has waited for 1 s (R370). -/
def State.swapBlocked (s : State) : State := if s.uState = uSwap then s.decline 14 else s

/-- ACCEPT: IMPORT to SWAP; with no boundary to wait for, the swap follows at once (R370). -/
def State.handAccept (s : State) : State :=
  if s.uState ≠ uImport then s
  else
    let s := s.uGo uSwap
    if s.noBoundary then s.swapTry else s

/-! ## Rollback (R373) -/

/-- Ownership returns and the new image goes; the old core is unparked at the same edge. -/
def State.rollbackDo (s : State) : State :=
  if s.uState ≠ uRollback then s
  else
    let o := s.uOld
    let s := s.ownMove s.uNew o
    let s := s.setCore o { s.core o with parked := false }
    let s := (s.uDropNew.freeze []).genDrop
    let s := (s.fset F.UPD_EVT_ROLLED_BACK).ash3 0x0043 (w32 s.upd.cause) 0 0
    (s.wr R.UPD_PROB_LEFT 0).fclr F.UPD_STAT_COMMIT_WAIT |>.uGo uVerified

/-- A rollback starts: `cause` 1 ROLLBACK, 2 the new core's watchdog. -/
def State.rollback (s : State) (cause : Nat) : State :=
  if s.uState ≠ uProbation then s
  else
    let c := s.uNew
    let s := (s.setCore c { s.core c with started := false, held := true, gated := false, joined := none }).dmaAbortOf c.owner
    let s := (s.mUpd (fun x => { x with cause := cause })).uGo uRollback
    if s.noBoundary then s.rollbackDo else s

/-! ## SELECT and commit (R349, R374, R375) -/

/-- The sector SELECT writes: the one that does not hold the current record. -/
def State.selSector (s : State) : Nat := match s.selCurrent with
  | some (k, _) => 1 - k
  | none => 0

/-- SELECT: a record with the next sequence number, after an erase where its sector has no free page (R349). -/
def State.select (s : State) (unit gen : Nat) : State :=
  let k := s.selSector
  let used := if k = 0 then s.info.sel0.length else s.info.sel1.length
  let seq := (s.selCurrent.map (fun p => p.2.seq + 1)).getD 1
  if 16 ≤ used then s.uFlash (.selErase k) tSelect else s.uFlash (.selProgram k ⟨seq, unit, gen⟩) tSelect

/-- The generation SELECT names: the new one at a commit, the committed one at INSTALL. -/
def State.selGen (s : State) : Nat := if s.upd.install then s.genOld else (s.rd R.UPD_GEN_NEW).toNat

/-- The commit runs, or waits under LOW_SUPPLY (R374). -/
def State.commit (s : State) : State :=
  if s.uState ≠ uProbation then s
  else if s.uLow then s.fset F.UPD_STAT_COMMIT_WAIT
  else
    let s := (s.fclr F.UPD_STAT_COMMIT_WAIT).uGo uCommit
    s.select s.uTarget (s.rd R.UPD_GEN_NEW).toNat

/-- 60 s after LOW_SUPPLY made a commit wait, or after SELECT failed (R374). -/
def State.commitRetry (s : State) : State :=
  if s.uState = uProbation ∧ s.fb F.UPD_STAT_COMMIT_WAIT then s.commit
  else if s.uState = uCommit ∧ s.flc.queue.any (fun c => c.req == reqUpd && c.tag == tSelect) = false ∧
      (s.flc.running.toList ++ s.flc.suspended.toList).any (fun r => r.cmd.req == reqUpd && r.cmd.tag == tSelect) = false then s.select s.uTarget (s.rd R.UPD_GEN_NEW).toNat
  else s

/-- The selector record reads back valid: steps 3 and 4 of a commit (R374). -/
def State.commitDone (s : State) : State :=
  let o := s.uOld
  let frozen := s.flc.frozen
  let s := ((s.coreHold o).partWipe o).pagesRelease o.owner
  let s := (s.freeze []).genErase frozen
  let s := (s.wdtSet o false false).fp F.UPD_STAT_IDLE_CORE o.bit
  let s := (s.fset F.UPD_EVT_COMMITTED).ash3 0x0044 (w32 s.uTarget) (s.rd R.UPD_GEN_NEW) 0
  (s.wr R.UPD_PROB_LEFT 0).uGo uIdle

/-- INSTALL (R375). -/
def State.uInstall (s : State) (who : Nat) : State :=
  let pilot := s.coreA.pilot
  if s.uState ≠ uVerified ∨ s.uKind ≠ 0 ∨ (pilot = false ∧ s.seg1 s.uTarget = false) then s.uEnd 4
  else if s.uRefusal ≠ 0 then s.uEnd s.uRefusal
  else (s.mUpd (fun x => { x with who := who, install := true })).select s.uTarget s.genOld

/-- SELECT's flash command ended; the reset of an INSTALL that a Pilot message asked for follows its response (Table 12-10). -/
def State.selectEnd (s : State) (op : FlashOp) (code : Nat) : State :=
  if code ≠ 0 then
    if s.upd.install then (s.mUpd (fun x => { x with install := false })).uEnd 7 else s
  else match op with
    | .selErase _ => s.select s.uTarget s.selGen
    | _ =>
      if s.upd.install then
        let s := (s.mUpd (fun x => { x with install := false })).uEnd 0
        if s.upd.who = ownPilot ∧ s.pil.wait.isSome then s.mPil (fun p => { p with reset := some (false, none) }) else s.resetAsk 10 false
      else if s.uState = uCommit then s.commitDone else s

/-! ## ABORT -/

/-- A flash command of the stream itself: an erase of BEGIN, a page of WRITE or of END. -/
def FlashCmd.ofStream (c : FlashCmd) : Bool := c.req == reqUpd && decide (tErase ≤ c.tag) && decide (c.tag ≤ tEnd)

/-- ABORT (Table 12-2, R366): a stream ends with IDLE, a shadow is declined. DEDUCED (log 93): it stops what the stream asks of flash; a LOCK's record, a
SELECT, page 255 of the configuration set and the erases of settings generations go on. -/
def State.uAbort (s : State) (code : Nat) : State :=
  if s.uShadowing then s.decline code
  else
    let s := (s.flcCancelOf FlashCmd.ofStream).mUpd (fun x => { x with erase := [], pages := [], wrEnd := 0, verifyWait := false, held := x.held.filter (fun w => w != .write) })
    let s := match s.upd.ctx with
      | some c => s.pkAbort c
      | none => s
    (s.uGo uIdle).uEnd code

/-! ## Owner lock (R376) -/

/-- The update-state record in a page: its sequence number and OWNER_LOCK, where mark, CRC and check value are right. -/
def State.upsAt (s : State) (a : Nat) : Option (Nat × Bool) :=
  if s.ld a 4 = 0x4B550001 ∧ s.ld (a + 0xFC) 4 = crc32 (s.bytes a 0xFC) ∧ s.bytes (a + 0x0C) 16 = s.checkValue 0 ownHearth (s.bytes a 12)
  then some (s.ld (a + 4) 4, s.ld (a + 8) 4 % 2 = 1) else none

/-- The valid records of a block, oldest first; a torn page holds none (R333). -/
def State.upsIn (s : State) (b : Nat) : List (Nat × Bool) :=
  if (s.blk b).suspect then [] else ((List.range (s.blk b).ptr).filter (fun p => !s.flc.torn.contains (pageOf (blockAddr b + 0x100 * p)))).filterMap
    (fun p => s.upsAt (blockAddr b + 0x100 * p))

/-- The record in force: its block, sequence number and value. -/
def State.ups (s : State) : Option (Nat × (Nat × Bool)) :=
  ([18, 19].flatMap (fun b => (s.upsIn b).map (fun r => (b, r)))).foldl (fun (m : Option (Nat × (Nat × Bool))) r => match m with
    | none => some r
    | some x => if x.2.1 < r.2.1 then some r else some x) none

/-- OWNER_LOCK at a start (R376). -/
def State.upsLoad (s : State) : State := match s.ups with
  | some (_, r) => s.fp F.UPD_STAT_OWNER_LOCK (b2n r.2)
  | none =>
    if (s.blk 18).erased ∧ (s.blk 19).erased then s.fclr F.UPD_STAT_OWNER_LOCK
    else (s.fset F.UPD_STAT_OWNER_LOCK).ash3 0x0045 0 0 0

/-- The octets of an update-state record. -/
def State.upsPage (s : State) (seq : Nat) (v : Bool) : List Byte :=
  let h := leBytes 4 0x4B550001 ++ leBytes 4 seq ++ leBytes 4 (b2n v)
  let p := h ++ s.checkValue 0 ownHearth h ++ List.replicate 224 0xFF
  p ++ leBytes 4 (crc32 p)

/-- Write the record of the lock: into the next page of the block in use, or of the other block once it is erased (R376). The records are read once no
step runs in bank 0 (R342). -/
def State.upsWrite (s : State) (v : Bool) : State :=
  if s.bankBusy 0 then s.uHold .lock
  else
  let b := (s.ups.map (fun p => p.1)).getD 18
  let seq := (s.ups.map (fun p => p.2.1 + 1)).getD 1
  let o := 37 - b
  let full := (s.blk b).suspect || decide (256 ≤ (s.blk b).ptr)
  let t := if full then o else b
  if full ∧ (s.blk o).erased = false then s.uFlash (.erase o) tLock
  else s.uFlash (.program (blockAddr t + 0x100 * (s.blk t).ptr) (s.upsPage seq v)) tLock

/-- LOCK (R376): the token's argument octet 0 is the new value. -/
def State.uLock (s : State) (who : Nat) : State :=
  let a := (s.rd R.UPD_TOKEN).toNat
  let t := if s.memOk who true a 192 false then s.bytes a 192 else []
  let v := nth t 0x20 0
  let ok := s.tokenCheck t 5 (v :: List.replicate 31 0) == 0 && (v == 0 || v == 1)
  let s := s.newChallenge
  if ok = false then s.uEnd 15
  else (s.mUpd (fun x => { x with lock := some (v == 1) })).upsWrite (v == 1)

/-- From page 224 of the block in use on, the other block is erased unless it is ERASED (R376, as in R235). -/
def State.upsAhead (s : State) : State :=
  if s.bankBusy 0 then s.uHold .ahead
  else
  let b := (s.ups.map (fun p => p.1)).getD 18
  if 224 ≤ (s.blk b).ptr ∧ (s.blk (37 - b)).erased = false then s.uFlash (.erase (37 - b)) tFree else s

/-- A flash command of LOCK ended. -/
def State.lockEnd (s : State) (op : FlashOp) (code : Nat) : State := match s.upd.lock with
  | none => s
  | some v =>
    if code ≠ 0 then (s.mUpd (fun x => { x with lock := none })).uEnd 7
    else match op with
      | .erase _ => s.upsWrite v
      | _ => (((s.mUpd (fun x => { x with lock := none })).fp F.UPD_STAT_OWNER_LOCK (b2n v)).uEnd 0).upsAhead

/-! ## The configuration set (R378) -/

/-- The range check of the configuration set. -/
def State.cfgValueOk (s : State) : Bool :=
  let x := SetId.config
  let when := if s.noCopy then s.fg x.when == 0
    else s.fg x.when == 2 && decide (s.asn (s.stgTl x) + 200 ≤ s.stgAsn x)
  when && s.uState == uVerified && s.uKind == 1 && !s.uLow && !s.upd.arming

/-- The header's check value goes into page 255 (R378). -/
def State.cfgStamp (s : State) : State :=
  if s.bankBusy 0 then s.uHold .arm
  else
    let h := cfgBase s.uTarget
    let v := s.checkValue 0 ownHearth (s.bytes h 48)
    s.uFlash (.program (h + 0xFF00) (v ++ List.replicate 240 0xFF)) tArm

/-- GO on the configuration set: page 255 takes the check value; the set is ARMED when it reads back valid. -/
def State.cfgGo (s : State) : State :=
  let r := s.stgCheck .config s.cfgValueOk
  if r ≠ 0 then s.stgArm .config r else (s.mUpd (fun x => { x with arming := true })).cfgStamp

/-- The configuration set is applied: CFG_APPLIED, CONFIG_COMMIT and IDLE. `live`: at a boundary, where Hearth takes the copy. -/
def State.cfgApplied (s : State) (live : Bool) : State :=
  let c := s.uTarget
  let ver := s.ld (cfgBase c + 12) 4
  let s := if live then s.cfgCommitApply c else s
  let s := s.stgDone .config
  let d := if live then asnData (s.stgTl .config) (s.asn (s.stgTl .config)) else (0, 0)
  ((s.fset F.UPD_EVT_CFG_APPLIED).ash3 0x0011 d.1 d.2 (w32 ver)).uGo uIdle

/-- The program of page 255 ended. -/
def State.cfgArmed (s : State) (code : Nat) : State :=
  let s := s.mUpd (fun x => { x with arming := false })
  if code ≠ 0 then (s.stgEnd .config 3 3).fp (CsId.upd).code 7
  else
    let s := s.stgArm .config 0
    if s.fg (SetId.config).when = 0 then s.cfgApplied false else s

/-! ## Ends of flash commands -/

/-- A flash command of the engine ended with a code of Table 11-5. -/
def State.updFlashEnd (s : State) (c : FlashCmd) (code : Nat) : State :=
  if c.tag = tErase then
    if s.uState ≠ uErasing then s
    else if code = 0 then s.uEraseNext
    else ((s.mUpd (fun x => { x with erase := [] })).uGo uIdle).uEnd 7
  else if c.tag = tWrite then
    if s.uState ≠ uReceiving then s
    else if code = 0 then (s.fp F.UPD_NEXT_NEXT (s.fg F.UPD_NEXT_NEXT + 256)).uWriteNext
    else s.uEnd 7
  else if c.tag = tEnd then
    if s.uState ≠ uVerifying then s
    else if code = 0 then s.uEndNext
    else (s.mUpd (fun x => { x with pages := [] })).uEndFail 7
  else if c.tag = tArm then s.cfgArmed code
  else if c.tag = tLock then s.lockEnd c.op code
  else if c.tag = tSelect then s.selectEnd c.op code
  else s

/-! ## UPD_CMD -/

/-- The operation of UPD_CMD may be given by `who` now: ABORT also by the old image's core (Table 12-2). -/
def State.uAbortBy (s : State) (who op : Nat) : Bool := op == 7 && s.uShadowing && who == s.uOld.owner

/-- COMMIT and ROLLBACK come from the new image's core or SVC. -/
def State.uNewOrSvc (s : State) (who : Nat) : Bool := who == s.uNew.owner || who == ownSvc

/-- An operation of UPD_CMD reads flash where a step runs (R342): the configuration copies' marks for a target, the settings generations and both units'
headers at START, the target's at INSTALL, the records of LOCK. -/
def State.uOpWaits (s : State) (op kind : Nat) : Bool := match op with
  | 1 => kind == 1 && s.noCopy && s.bankBusy 0
  | 2 => kind == 1 && s.noCopy && s.bankBusy 0
  | 5 => s.bankBusy 0 || s.bankBusy 1
  | 6 => s.bankBusy s.uTarget
  | _ => false

/-- An operation runs (Table 12-2). -/
def State.uOpRun (s : State) (who op kind : Nat) : State :=
  let st := s.uState
  match op with
  | 1 => if st ≠ uIdle ∧ st ≠ uVerified then s.uEnd 4 else if s.uRefusal ≠ 0 then s.uEnd s.uRefusal else s.uBegin who kind
  | 2 => if st ≠ uIdle then s.uEnd 4 else if s.uRefusal ≠ 0 then s.uEnd s.uRefusal else s.uResume who kind
  | 3 => if st ≠ uReceiving then s.uEnd 4 else (s.mUpd (fun x => { x with who := who })).uWrite
  | 4 => if st ≠ uReceiving then s.uEnd 4 else (s.mUpd (fun x => { x with who := who })).uFinish
  | 5 => s.uStart who
  | 6 => s.uInstall who
  | 7 => if st < uErasing ∨ uImport < st then s.uEnd 4 else s.uAbort 0
  | 8 => if st ≠ uProbation then s.uEnd 4 else if s.uNewOrSvc who = false then s.uEnd 15 else (s.uEnd 0).commit
  | 9 => if st ≠ uProbation then s.uEnd 4 else if s.uNewOrSvc who = false then s.uEnd 15 else (s.uEnd 0).rollback 1
  | 10 => s.uLock who
  | _ => s.uEnd 4

/-- GO of UPD_CMD by `who`, its fields written (Table 12-2). An ABORT drops an operation that still waits for flash. -/
def State.uOp (s : State) (who op kind : Nat) : State :=
  let s := s.csRun .upd
  let s := if op = 7 then s.mUpd (fun x => { x with held := x.held.filter (fun w => match w with
    | .op _ _ _ => false
    | _ => true) }) else s
  if s.uOpWaits op kind then s.uHold (.op who op kind) else s.uOpRun who op kind

/-- What waited for a flash step goes on; it waits again where another step runs by now. -/
def State.uResumeWait (s : State) (w : UpdWait) : State := match w with
  | .op who op kind => if s.uOpWaits op kind then s.uHold w else s.uOpRun who op kind
  | .write => s.uWriteRun
  | .exported => if s.uState = uImport ∨ s.uState = uSwap ∨ s.uState = uProbation then s.freezeOld else s
  | .drop => s.genDrop
  | .lock => s.upsWrite (s.upd.lock.getD false)
  | .ahead => s.upsAhead
  | .arm => s.cfgStamp

/-- Everything the engine holds is tried again. -/
def State.uHeld (s : State) : State := (s.mUpd (fun x => { x with held := [] })).forEach s.upd.held (fun s w => s.uResumeWait w)

/-- A write of UPD_CMD by `who` (R163, R355): ABORT is taken whatever runs. -/
def State.updCmdWrite (s : State) (who : Nat) (v : Word) : State :=
  let s := if wBit v 31 && !s.csBusy .upd then s.mUpd (fun x => { x with data := [] }) else s
  let op := wField v 27 24
  let kind := wField v 16 16
  let put (s : State) : State := (s.fp F.UPD_CMD_OP op).fp F.UPD_CMD_KIND kind
  if wBit v 31 ∧ op = 7 ∧ (s.uAbortBy who op ∨ s.fg (CsId.upd).writer = who) then (put s).uOp who op kind
  else s.csWrite .upd who (wBit v 31) (fun s => if wBit v 31 then (put s).uOp who op kind else put s)

/-- An operation that a port or the Pilot service gives as `who`, with a WRITE's offset and octets; none where another writer holds the set or it
is BUSY (R410, R423). An offset beyond the register's 20 bits, which no stream has, is given as its highest value, which FORMAT refuses (log 68, DEDUCED). -/
def State.updGive (s : State) (who op kind off : Nat) (data : List Byte) : Option State :=
  if s.csOk .upd who true || (op == 7 && s.fg (CsId.upd).writer == who) then
    let s := (s.csTake .upd who true).mUpd (fun x => { x with data := data })
    let s := ((s.fp F.UPD_CMD_OP op).fp F.UPD_CMD_KIND kind).fp F.UPD_OFF_OFF (min off 0xFFFFF)
    some ((s.fp F.UPD_LEN_LEN data.length).uOp who op kind)
  else none

/-- No command of the holder for UPD_IDLE: the update ends as an ABORT with CODE TIMEOUT (R355). -/
def State.updIdleTimeout (s : State) : State := if s.upd.keep then s.uAbort 12 else s

/-- A second of probation (R372). -/
def State.probSecond (s : State) : State :=
  if s.uState = uProbation then s.wr R.UPD_PROB_LEFT (w32 ((s.rd R.UPD_PROB_LEFT).toNat - 1)) else s

/-- Probation is over (R374). -/
def State.probExpire (s : State) : State :=
  if s.uState = uProbation ∧ s.rd R.UPD_PROB_LEFT = 0 ∧ s.fb F.UPD_STAT_COMMIT_WAIT = false then s.commit else s

/-- What waits on something other than its own flash commands moves on: a bank for what reads it, a verify context for END; a swap or rollback with no
boundary to wait for. -/
def State.updPump (s : State) : State :=
  let s := if s.upd.held.isEmpty then s.uVerify else s.uHeld.uVerify
  if s.noBoundary then s.swapTry.rollbackDo else s

/-- A reset returns the update engine to IDLE (R379). -/
def State.updReset (s : State) : State := s.mUpd (fun _ => UpdSt.init)

end Sys2Proof.Machine
end

