-- ==== Sys2Proof/Machine/Power.lean ====
section
/-! DEFINITION. The power controller: WFI, the damper handshake, the entry into BANKED and CINDER, the exit from BANKED, and the clocks
(R281-R303). The wake from CINDER is a restart and stands with the resets. -/

namespace Sys2Proof.Machine

/-! ## The cores' waits -/

/-- MODE of a core's PWR_CORE register (R282, R283): 1 BANKED, 2 CINDER, else DOZE. -/
def State.coreMode (s : State) : CoreId → Nat
  | .a => s.fg F.PWR_CORE_A_MODE
  | .b => s.fg F.PWR_CORE_B_MODE

/-- A core executes instructions: it has been started and is not held, gated, halted or parked. -/
def State.coreRuns (s : State) (c : CoreId) : Bool :=
  let x := s.core c
  x.started && !x.held && !x.gated && !x.halted && !x.parked && s.fb F.KND_STAT_DONE && decide (s.pwr.state = .run) && s.rst.deferred.isEmpty

/-- What a core counts as having joined: one that was not started or is held counts as CINDER (R283), and so does a parked one (log 50, DEDUCED). -/
def State.joinOf (s : State) (c : CoreId) : Option JoinMode :=
  let x := s.core c
  if x.started = false ∨ x.held ∨ x.parked then some .cinder else x.joined

/-- WFI with MODE DOZE gates the core until an enabled interrupt (R282). -/
def State.wfiDoze (s : State) (c : CoreId) : State :=
  if s.coreRuns c && (s.coreMode c == 0 || s.coreMode c == 3) && !s.coreIrq c then s.setCore c { s.core c with gated := true } else s

/-- A gated core that has not joined resumes at an interrupt (R282); for a joined one during an attempt it is a wake event (R283, R290). -/
def State.coreWake (s : State) : State :=
  s.forEach [CoreId.a, CoreId.b] (fun s c =>
    let x := s.core c
    if x.gated && x.joined.isNone && s.coreIrq c then s.setCore c { x with gated := false }
    else if x.joined.isSome && s.pwr.entry.isSome && s.coreIrq c then s.wakeEvent 9
    else s)

/-- PWR_STAT (Table 9-9). -/
def State.pwrStat (s : State) : Word :=
  let doze := s.pwr.state = .run ∧ s.coreA.gated ∧ s.coreB.gated ∧ s.coreA.joined = none ∧ s.coreB.joined = none
  let entry := match s.pwr.entry with
    | none => 0
    | some e => if e.committed then 2 else 1
  w32 ((if doze then 1 else 0) * 0x40000000 + entry * 0x10000000 + b2n s.coreB.joined.isSome * 0x20000 + b2n s.coreA.joined.isSome * 0x10000 +
    b2n s.coreB.gated * 2 + b2n s.coreA.gated)

/-! ## Draw classes (R285, R286) -/

/-- The temperature band of Table 9-4; an edge belongs to the higher band. -/
def tempBand (t : Int) : Nat := if t < 45 * 16 then 0 else if t < 85 * 16 then 1 else if t < 105 * 16 then 2 else 3

/-- The bound of a class in µA (Table 9-3). -/
def classBound (c : Nat) : Nat := nth [0, 2, 8, 32, 128, 512, 2000] c 0

/-- The class of a retained bank, of link RAM and of the SEQ domain in a band (Table 9-4). -/
def bankClass (band : Nat) : Nat := nth [1, 3, 4, 5] band 5
/-- Link RAM's class. -/
def lramClass (band : Nat) : Nat := nth [2, 4, 5, 5] band 5
/-- The SEQ domain's class. -/
def seqClass (band : Nat) : Nat := nth [2, 3, 4, 4] band 4

/-- The banks retained in BANKED: PWR_RET, which reads 1 for the old partition's banks while an update can still be rolled back (R372). -/
def State.retBanks (s : State) : Nat :=
  let r := (s.rd R.PWR_RET).toNat
  if s.uState = uProbation ∨ s.uState = uRollback then Nat.lor r (partBanks s.upd.oldCore) else r

/-- Bank `n` is retained. -/
def State.bankKept (s : State) (n : Nat) : Bool := s.retBanks / 2 ^ n % 2 == 1

/-- The sum of the declared bounds. -/
def State.drawSum (s : State) (band : Nat) : Nat :=
  classBound (seqClass band) + classBound (lramClass band) +
    ((List.range 12).filter (fun n => s.bankKept n)).length * classBound (bankClass band)

/-- PWR_CLASS0 and PWR_CLASS1 show the classes declared. -/
def State.classShow (s : State) (band : Nat) : State :=
  let c (n : Nat) : Nat := if s.bankKept n then bankClass band else 0
  let lo := (List.range 8).foldl (fun v n => v + c n * 8 ^ n) 0
  let hi := (List.range 4).foldl (fun v n => v + c (8 + n) * 8 ^ n) 0
  (s.wr R.PWR_CLASS0 (w32 lo)).wr R.PWR_CLASS1 (w32 (band * 0x100000 + seqClass band * 0x8000 + lramClass band * 0x1000 + hi))

/-! ## The responders (Table 9-2) -/

/-- An answer to the damper's request. -/
inductive Answer where
  | grant
  | hold
  | refuse
  deriving DecidableEq, Repr

/-- Refuse or grant. -/
def refuseIf (b : Bool) : Answer := if b then .refuse else .grant

/-- Hold or grant. -/
def holdIf (b : Bool) : Answer := if b then .hold else .grant

/-- Hearth's answer. -/
def State.hrtAnswer (s : State) (e : DamperEnv) : Answer :=
  let st := s.fg F.HRT_STAT_STATE
  let snap := s.fg F.HRT_SNAP_STAT_STATE
  if s.stoked .a || s.stoked .b then .refuse
  else if st = hRecovering ∨ st = hLoading ∨ snap = 1 ∨ snap = 2 then .hold
  else refuseIf (decide (e.wake < 500))

/-- A radio's answer. -/
def State.radioAnswer (s : State) (t : Tl) : Answer :=
  if t = .b ∧ s.hasB = false then .grant else refuseIf (!(s.radioState t == rOff || s.radioState t == rClkFail))

/-- The answer of the block with a code of Table 9-2. -/
def State.answerOf (s : State) (code : Nat) (e : DamperEnv) : Answer := match code with
  | 0x01 => holdIf ((List.range 16).any (fun c => s.dmaActive c && !(s.dch c).waiting))
  | 0x02 =>
    if s.flc.running.isSome then .hold
    else refuseIf (!s.flc.queue.isEmpty || s.flc.suspended.isSome)
  | 0x03 => refuseIf s.uInProgress
  | 0x04 => holdIf s.vlt.job.isSome
  | 0x05 => holdIf s.vlt.pkStep
  | 0x06 => holdIf s.vlt.lce.isSome
  | 0x07 => holdIf (s.flc.running.any (fun r => r.cmd.req == reqAsh && r.kind == .program))
  | 0x08 => s.hrtAnswer e
  | 0x09 => s.radioAnswer .a
  | 0x0A => s.radioAnswer .b
  | 0x0B => refuseIf (s.daliBusy || e.daliRx || s.fb F.LUM_STAT_PULSE_A || s.fb F.LUM_STAT_PULSE_B)
  | 0x0C => refuseIf (s.fb F.MET_CFG_EN)
  | 0x0D => holdIf (s.fb F.ADC_STAT_BUSY && e.conv)
  | 0x0E => holdIf ((List.range 4).any (fun n => s.fb (F.SEn_CFG_EN n)) && e.char)
  | 0x0F => refuseIf e.host
  | 0x10 => refuseIf (s.fb F.SVC_STAT_SESSION)
  | 0x11 => refuseIf (s.fb F.LCS_DBG_OPEN)
  | _ => .grant

/-- Every responder's code. -/
def responders : List Nat := (List.range 0x12).map (fun i => i + 1)

/-! ## The attempt (R283-R288) -/

/-- The result word of an ended or committed attempt. -/
def State.entryRes (s : State) (result code block : Nat) (cinder : Bool) : State :=
  s.wr R.PWR_ENTRY_RES (w32 (result * 0x40000000 + code * 0x1000000 + block * 0x10000 + b2n cinder * 0x1000 + s.fg F.PWR_ENTRY_RES_SUM))

/-- What stood still for the attempt goes on: DMA lists, verify steps, the flush. -/
def State.damperOff (s : State) : State :=
  (s.mPwr (fun p => { p with entry := none })).pkGoOn.dmaGoOn.ashPump

/-- The attempt is abandoned: every block goes on, and the joined cores leave WFI (R284, R288). -/
def State.abandon (s : State) (code block : Nat) : State :=
  let cinder := s.pwr.entry.any EntrySt.cinder
  let s := (s.entryRes 2 code block cinder).fset F.PWR_EVT_ABANDON
  let s := s.mPwr (fun p => { p with wakePending := [] })
  let s := s.forEach [CoreId.a, CoreId.b] (fun s c => if (s.core c).joined.isSome then s.setCore c { s.core c with joined := none, gated := false } else s)
  s.damperOff

/-- A core that asked for BANKED has its resume address in a retained bank of its own partition (R286). -/
def State.resumeOk (s : State) (c : CoreId) : Bool :=
  let a := (s.rd (match c with
    | .a => R.PWR_RESUME_A
    | .b => R.PWR_RESUME_B)).toNat
  (s.core c).joined != some .banked ||
    (decide (partBase c ≤ a) && decide (a < partBase c + 0x80000) && s.bankKept ((a - 0x20000000) / 0x20000))

/-- Every responder has granted: the checks of R286, and commitment with the pads latched (R287, R297). -/
def State.commitCheck (s : State) : State := match s.pwr.entry with
  | none => s
  | some e =>
    if e.cinder = false ∧ s.fg F.PWR_BUDGET_LIMIT < s.fg F.PWR_ENTRY_RES_SUM then s.abandon 3 0
    else if e.cinder = false ∧ (s.resumeOk .a = false ∨ s.resumeOk .b = false) then s.abandon 4 0
    else (s.mPwr (fun p => { p with entry := some { e with committed := true } })).padLatch

/-- The granting block's own part: Hearth writes a checkpoint (R78). -/
def State.granted (s : State) (code : Nat) : State :=
  if code = 8 ∧ ([hOff, hNoConfig].contains (s.fg F.HRT_STAT_STATE)) = false then s.checkpoint else s

/-- The attempt begins (R284, R285). -/
def State.attempt (s : State) (cinder : Bool) (e : DamperEnv) : State :=
  let band := tempBand e.temp
  let s := if cinder then s.fp F.PWR_ENTRY_RES_SUM 0 else (s.classShow band).fp F.PWR_ENTRY_RES_SUM (min (s.drawSum band) 4095)
  let s := s.mPwr (fun p => { p with entry := some ⟨cinder, responders.filter (fun c => s.answerOf c e == .hold), false⟩ })
  match responders.find? (fun c => s.answerOf c e == .refuse) with
  | some c => s.abandon 1 c
  | none =>
    let s := s.forEach (responders.filter (fun c => s.answerOf c e == .grant)) (fun s c => s.granted c)
    if (s.pwr.entry.any (fun x => x.holding.isEmpty)) then s.commitCheck else s

/-- Both cores count as joined and no attempt runs: it begins (R283). -/
def State.joinCheck (s : State) (e : DamperEnv) : State :=
  match s.joinOf .a, s.joinOf .b with
  | some x, some y => if s.pwr.entry.isSome then s else s.attempt (x == .cinder && y == .cinder) e
  | _, _ => s

/-- WFI with MODE BANKED or CINDER (R283): the last join begins the attempt. -/
def State.coreJoin (s : State) (c : CoreId) (e : DamperEnv) : State :=
  let m := s.coreMode c
  if s.coreRuns c = false ∨ (m ≠ 1 ∧ m ≠ 2) then s
  else
    let j : JoinMode := if m = 2 then .cinder else .banked
    (s.setCore c { s.core c with joined := some j, gated := true }).joinCheck e

/-- What the responders find where no command brings it: each a free value (log 3). -/
def State.drawEnv (s : State) : DamperEnv × State :=
  let r := s.draws 2
  let v := nth r.1 0 0
  (⟨signed 16 (wField v 15 0), wField (nth r.1 1 0) 15 0, wBit v 16, wBit v 17, wBit v 18, wBit v 19⟩, r.2)

/-- A core waits joined, and the other has come to count as joined by being held in reset or parked (R283). -/
def State.joinLate (s : State) : State :=
  if (s.coreA.joined.isSome || s.coreB.joined.isSome) && (s.joinOf .a).isSome && (s.joinOf .b).isSome && s.pwr.entry.isNone && decide (s.pwr.state = .run) then
    let r := s.drawEnv
    r.2.joinCheck r.1
  else s

/-- The flash controller's HOLD ends with its current step (R346, Table 9-2): with commands left it refuses, at once. -/
def State.damperFlash (s : State) : State :=
  if s.pwr.entry.any (fun x => !x.committed && x.holding.contains 2) && s.flc.running.isNone && (!s.flc.queue.isEmpty || s.flc.suspended.isSome) then
    s.abandon 1 2
  else s

/-- A holding responder's condition has ended (R284): it grants, or refuses where Table 9-2 says so. -/
def State.damperGrant (s : State) (code : Nat) (e : DamperEnv) : State := match s.pwr.entry with
  | none => s
  | some x =>
    if x.committed ∨ x.holding.contains code = false then s
    else match s.answerOf code e with
      | .hold => s
      | .refuse => s.abandon 1 code
      | .grant =>
        let rest := x.holding.filter (fun c => c ≠ code)
        let s := (s.mPwr (fun p => { p with entry := some { x with holding := rest } })).granted code
        if rest.isEmpty then s.commitCheck else s

/-- 2,000 µs have passed since the request with a HOLD in force (R284). -/
def State.damperTimeout (s : State) : State := match s.pwr.entry with
  | none => s
  | some x => if x.committed then s else s.abandon 2 ((lowest x.holding).getD 0)

/-! ## Entered (R287, R289, R293) -/

/-- Unfinished verify jobs end with RESULT LOST (R252). -/
def State.pkLost (s : State) : State :=
  let s := s.forEach [0, 1] (fun s c => if (nth s.vlt.pk c none).isSome then s.csEnd (.pk c) 7 else s)
  s.mVlt (fun v => { v with pk := [none, none], pkStep := false })

/-- The clocks at rest: PLL, 40 MHz crystal and fast RC stop. -/
def State.clocksOff (s : State) : State :=
  (((s.fclr F.CLK_STAT_XO_RDY).fclr F.CLK_STAT_PLL_LOCK).fclr F.CLK_STAT_FRC_RDY).fclr F.CLK_STAT_PERF_BUSY

/-- Every core starts on the fast RC (R299). -/
def State.clocksStart (s : State) : State :=
  let s := ((s.wr R.CLK_SEL 0).wr R.CLK_PERF 0).fset F.CLK_STAT_FRC_RDY
  ((s.fp F.CLK_STAT_CORE_SRC 0).fp F.CLK_STAT_LEVEL 0).mPwr (fun p => { p with perfTarget := 0 })

/-- A staged set returns to IDLE with no holder (R44). -/
def State.stgIdle (s : State) (x : SetId) : State := ((s.fp x.state 0).fp x.reason 0).fp x.writer ownNone

/-- Pages of the blocks that come back at their reset values: INT, DMA, TMR, SE, ADC, LUM, MET, HST and SVC. -/
def perPages : List Nat := [0x40080, 0x40081, 0x40090, 0x40091, 0x40092, 0x40093, 0x40098, 0x4009A, 0x400A0, 0x400B0, 0x400C0, 0x400C1]

/-- The motion detector's registers keep their values through BANKED (R443). -/
def motionReg (a : Nat) : Bool := a == R.LUM_MOT_CFG || a == R.LUM_MOT_CNT

/-- The INT, DMA and PER blocks lose their state with their power (R289). What their registers hold until the exit no access can see; the flue's
check of a task takes their ownership as it was at entry (log 61). -/
def State.perDrop (s : State) : State :=
  let s := (s.mPer (fun _ => PerSt.init)).mInt (fun _ => ⟨[]⟩)
  let s := s.mDma (fun _ => List.replicate 16 ⟨0, 0, 0, 0, false, false⟩)
  let s := s.forEach (List.range 16) (fun s c => s.setHop (0x01 + c) none)
  let s := s.mFlue (fun f => { f with hops := f.hops.filter (fun p => p.1 == 0x60) })
  (s.mHst (fun h => { HstSt.init with told := h.told })).mSvc (fun _ => { SvcSt.init with lastAt := s.rtc.ember })

/-- The INT, DMA and PER blocks are back at reset, with what an initiator had captured of their registers (R292, R43). What the host was last told of
Hearth's events stays: an EVENT follows a change of them, not the exit (Table 14-5). -/
def State.perReset (s : State) (motion : Bool) : State :=
  let s := s.regsReset (fun a => perPages.contains (a / 0x1000) && !(motion && motionReg a))
  (s.mCaps (fun l => l.filter (fun p => !perPages.contains (p.1.2 / 0x1000)))).perDrop

/-- The committed entry completes (R287). -/
def State.powerEntered (s : State) : State := match s.pwr.entry with
  | none => s
  | some x =>
    if x.committed = false then s
    else
      let s := (s.entryRes 1 0 0 x.cinder).pkLost.clocksOff
      let s := s.mPwr (fun p => { p with entry := none, state := if x.cinder then .cinder else .banked })
      let s := s.perDrop
      -- pause requests lapse (R292)
      let s := (s.mFlc (fun f => { f with pause := [] }))
      -- a set that is armed at CINDER entry is disarmed (R44)
      if x.cinder then (s.forEach SetId.all (fun s y => s.stgIdle y)).keysEraseCinder.flueReset else s

/-! ## The exit from BANKED (R292) -/

/-- CONSEC of EMB_REG30 (R296). -/
abbrev wfConsec : Fld := ⟨R.EMB_REG30, 7, 0⟩
/-- STEP of EMB_REG30. -/
abbrev wfStep : Fld := ⟨R.EMB_REG30, 9, 8⟩
/-- TOTAL of EMB_REG30. -/
abbrev wfTotal : Fld := ⟨R.EMB_REG30, 23, 16⟩

/-- The host port shows its options after a reset or an exit from BANKED (Table 14-7). -/
def State.hostShow (s : State) : State :=
  let m := if wField (s.opt 0) 5 4 = 1 then 1 else 0
  (s.fp F.HST_STAT_EN (wField (s.opt 0) 3 3)).fp F.HST_STAT_MODE m

/-- The service port's rate at a session's start (Table 10-7). -/
def State.svcBaud (s : State) : Nat :=
  let b := wField (s.opt 2) 21 0
  if 9600 ≤ b ∧ b ≤ 3000000 then b else 115200

/-- Records of powered-down blocks, entered when they are repowered with LATE 1 (R392). -/
def State.ashRepower (s : State) : State :=
  let l := s.ash.late
  (s.mAsh (fun a => { a with late := [] })).forEach l (fun s r => s.ashArrive r.code r.src true r.d0 r.d1 r.d2)

/-- The wake events that end BANKED now: those that came, and the slot sequencer's own (R290). -/
def State.wakeSources (s : State) (sched : Bool) : List Nat :=
  let st := s.fg F.HRT_STAT_STATE
  s.pwr.wakePending ++ (if sched && (st == hJoining || st == hSynced) then [10] else [])

/-- The BANKED exit: what lost power is at its reset values, unretained banks are wiped, and the cores start at their resume addresses. -/
def State.bankedWake (s : State) (sched : Bool) : State :=
  let l := s.wakeSources sched
  if s.pwr.state ≠ .banked ∨ l.isEmpty then s
  else
    let s := s.forEach l (fun s n => s.rset R.PWR_WAKE_SRC n)
    let s := s.mPwr (fun p => { p with state := .run, wakePending := [] })
    let s := s.clocksStart
    let s := s.forEach ((List.range 12).filter (fun n => !s.bankKept n)) (fun s n => s.wipe (0x20000000 + 0x20000 * n) (0x20000000 + 0x20000 * (n + 1)))
    let s := ((s.perReset true).hostShow).wr R.SVC_BAUD (w32 s.svcBaud)
    let s := s.forEach [Tl.a, Tl.b] (fun s t => s.radioTo t (if s.radioState t = rClkFail then rClkFail else rOff))
    let s := if s.fb F.PWR_CFG_PAD_AUTO then (s.padRelease 0).padRelease 1 else s
    let s := s.forEach [CoreId.a, CoreId.b] (fun s c =>
      let x := s.core c
      if x.joined.isSome then s.coreStart c (s.rd (match c with
        | .a => R.PWR_RESUME_A
        | .b => R.PWR_RESUME_B)).toNat x.pilot
      else s)
    let s := s.fp wfConsec 0
    s.ashRepower.ashPump

/-- A die sample in BANKED whose band makes the sum exceed LIMIT wakes the device (R291). -/
def State.budgetRecheck (s : State) (temp : Int) : State :=
  if s.pwr.state = .banked ∧ s.fg F.PWR_BUDGET_LIMIT < s.drawSum (tempBand temp) then (s.fset F.PWR_EVT_BUDGET).wakeEvent 8 else s

/-! ## Clocks (R299-R301) -/

/-- A write of CLK_SEL (R300). -/
def State.clockSelect (s : State) (v : Word) : State :=
  let src := wField v 1 0
  let bad := src == 3 || (src != 0 && !s.fb F.CLK_STAT_PLL_LOCK) ||
    (src == 2 && (s.fg F.CLK_STAT_LEVEL == 0 || s.fb F.CLK_STAT_PERF_BUSY))
  if bad then s.fset F.CLK_EVT_ERR
  else (s.regStore R.CLK_SEL v).fp F.CLK_STAT_CORE_SRC src

/-- A write of CLK_PERF (R300): LEVEL 0 is refused while the cores run at 256 MHz. A write during a change sets the level that the change ends at
(log 51, DEDUCED). -/
def State.perfChange (s : State) (v : Word) : State :=
  let l := wField v 0 0
  if l = 0 ∧ s.fg F.CLK_STAT_CORE_SRC = 2 then s.fset F.CLK_EVT_ERR
  else
    let s := s.wr R.CLK_PERF (w32 l)
    if l = s.fg F.CLK_STAT_LEVEL ∧ s.fb F.CLK_STAT_PERF_BUSY = false then s else (s.fset F.CLK_STAT_PERF_BUSY).mPwr (fun p => { p with perfTarget := l })

/-- The level change completes. -/
def State.perfDone (s : State) : State :=
  if s.fb F.CLK_STAT_PERF_BUSY then (s.fclr F.CLK_STAT_PERF_BUSY).fp F.CLK_STAT_LEVEL s.pwr.perfTarget else s

/-- Hearth asks for the PLL while its domain runs (R299). -/
def State.hearthPll (s : State) : Bool := s.pwr.state == .run && s.rst.released && !([hOff].contains (s.fg F.HRT_STAT_STATE))

/-- A radio needs the 40 MHz crystal (R299). -/
def State.radioXo (s : State) : Bool :=
  s.radios.any (fun t => s.radioState t != rOff && s.radioState t != rClkFail)

/-- CLK_REQ (Table 9-10). -/
def State.clkReq (s : State) : Word := w32 (b2n s.radioXo * 4 + b2n (s.fb F.CLK_SEL_PLL_REQ) * 2 + b2n s.hearthPll)

/-- The 40 MHz crystal is asked for. -/
def State.xoWanted (s : State) : Bool := s.clkReq != 0

/-- The PLL locks: it is asked for and the crystal runs (R299). -/
def State.pllLock (s : State) : State :=
  if s.pwr.state = .run ∧ s.fb F.CLK_STAT_XO_RDY ∧ (s.hearthPll ∨ s.fb F.CLK_SEL_PLL_REQ) then s.fset F.CLK_STAT_PLL_LOCK else s

/-- The PLL loses lock: the cores and the matrix move to the fast RC (R301). -/
def State.pllLost (s : State) : State :=
  if s.fb F.CLK_STAT_PLL_LOCK then (s.fclr F.CLK_STAT_PLL_LOCK).fp F.CLK_STAT_CORE_SRC 0 else s

/-- The 32.768 kHz crystal has stopped: the ember timer moves to the 32 kHz RC (R34, R301). -/
def State.x32Fail (s : State) : State :=
  if s.pwr.x32Run = false then s
  else (((((s.mPwr (fun p => { p with x32Run := false })).fset F.RTC_STAT_SRC).fclr F.CLK_STAT_X32_RDY).fset F.CLK_STAT_X32_FAIL).fset F.CLK_EVT_X32_FAIL)

/-- The crystal runs again, or for the first time after POR: the ember timer counts from it (R34, R301). -/
def State.x32Ready (s : State) : State :=
  if s.pwr.x32Run then s
  else
    let failed := s.fb F.CLK_STAT_X32_FAIL
    let s := (((s.mPwr (fun p => { p with x32Run := true })).fclr F.RTC_STAT_SRC).fset F.CLK_STAT_X32_RDY).fclr F.CLK_STAT_X32_FAIL
    if failed then s.fset F.CLK_EVT_X32_OK else s

/-- The 60 s retry of the crystal: `ok`, it shows edges again (R301). -/
def State.x32Retry (s : State) (ok : Bool) : State := if s.fb F.CLK_STAT_X32_FAIL && ok then s.x32Ready else s

/-- The 40 MHz crystal, started for the PLL or a radio, is ready (R173, R299). -/
def State.xoReady (s : State) : State :=
  if s.xoWanted && !s.fb F.CLK_STAT_XO_FAIL then s.fset F.CLK_STAT_XO_RDY else s

end Sys2Proof.Machine
end

