-- ==== Sys2Proof/Machine/ResetCore.lean ====
section
/-! DEFINITION. Reset causes, what each class clears, Kindling and its restarts, power loss and the starts after CINDER and after a failed
wake (R294-R296, R304-R318, R320-R322; Tables 10-1, 10-2, 10-5). -/

namespace Sys2Proof.Machine

/-! ## What a reset clears (Table 10-2) -/

/-- The RTC registers that keep their values (Table 1-13). -/
def rtcKept (a : Nat) : Bool := (decide (R.RTC_EMB_LO ≤ a) && decide (a ≤ R.RTC_TRIM_ACT)) || a == R.RTC_STAT

/-- The registers a reset does not return to their reset values. `wipe`: POR, ALARM and life-cycle changes; `holds`: WAKEFAIL. -/
def regKept (por wipe warm holds : Bool) (a : Nat) : Bool :=
  (!wipe && (a / 0x1000 == 0x40003 || rtcKept a || a == R.UPD_BOOTFAIL || a == R.ASH_LOST_CNT)) ||
  (!por && (a == R.VLT_ALARM || a == R.RST_CAUSE || a == R.RST_HIST || a == R.RST_DEFER || a == R.KND_STAT)) ||
  (warm && (a == R.RST_SECPG0 || a == R.RST_SECPG1 || a == R.RST_SECPG2 || (decide (R.FLC_ULOCKn 0 ≤ a) && decide (a ≤ R.FLC_ULOCKn 3)))) ||
  (holds && a == R.PAD_HOLD)

/-- The status bits that follow the world: the crystal, VIN, the warning and the I/O banks read as they are after every start. -/
def State.liveShow (s o : State) : State :=
  let s := (s.fp F.CLK_STAT_X32_RDY (b2n s.pwr.x32Run)).fp F.CLK_STAT_X32_FAIL (o.fg F.CLK_STAT_X32_FAIL)
  let s := (s.fp F.RTC_STAT_SRC (b2n (!s.pwr.x32Run))).fp F.SUP_STAT_VIN_UV (b2n s.sup.vinPresent)
  let s := (s.fp F.SUP_STAT_PFW (o.fg F.SUP_STAT_PFW)).fp F.SUP_STAT_IOA_LOW (o.fg F.SUP_STAT_IOA_LOW)
  ((s.fp F.SUP_STAT_IOB_LOW (o.fg F.SUP_STAT_IOB_LOW)).fp F.SUP_STAT_VREG_OK 1).supShow

/-- The Ash engine at a start: the buffer, and the records that waited for a rebuild, are there unless ember memory was wiped, and the ring is to be
rebuilt (R390, R392, R400); what waits from before the reset is LATE (R389). A CLEAR record whose step 2 has not completed goes: the log stays uncleared
(R401). -/
def State.ashStart (s : State) (wipe : Bool) : State :=
  let undone (r : AshRec) : Bool := s.ash.clr.any (fun c => !c.done && !c.waits && c.seq == r.seq)
  s.mAsh (fun a => { a with
    buf := if wipe then [] else a.buf.filter (fun r => !undone r)
    late := if wipe then [] else a.late.map (fun w => { w with late := true })
    lostFull := if wipe then 0 else a.lostFull
    lostRate := if wipe then 0 else a.lostRate
    swRate := [], wrD := [], flush := none, again := none, clr := none, ready := false, reclaim := none, readReq := none
    wiped := a.wiped || wipe })

/-- A core in reset, never started. -/
def CoreSt.rest : CoreSt := ⟨false, true, false, none, false, false, false, 0⟩

/-- Everything of the HRT, APP, PER and FLASH domains beyond their registers at reset. -/
def State.domainsOff (s : State) : State :=
  let s := s.flcCut.flcReset
  let s := { s with coreA := CoreSt.rest, coreB := CoreSt.rest, int := ⟨[]⟩, caps := [], dma := List.replicate 16 ⟨0, 0, 0, 0, false, false⟩ }
  let s := s.mHrt (fun h => { HearthSt.init with die := h.die })
  let s := { s with rsv := ⟨[], [], none, false, [], [], []⟩, hst := HstSt.init, svc := { SvcSt.init with lastAt := s.rtc.ember } }
  { s with pil := ⟨none, 0, none⟩, per := PerSt.init, flue := ⟨[], [], [], []⟩ }

/-- The octets that a running vault command of this state writes in memory (Table 7-7): address and number. -/
def State.vaultOut (s : State) : Nat × Nat := match s.vlt.job with
  | some j => (j.outAddr, match j.op with
    | 1 => 16
    | 4 => 64
    | 5 => 64
    | _ => 0)
  | none => (0, 0)

/-- An octet of that output. -/
def State.vaultHit (s : State) (a : Nat) : Bool := decide (s.vaultOut.1 ≤ a) && decide (a < s.vaultOut.1 + s.vaultOut.2)

/-- A reset ends a running vault command: its output is undefined, so each of its octets is a free value (R250; log 3), where the command may write it. -/
def State.vaultCut (s : State) : State := match s.vlt.job with
  | some j =>
    let o := s.vaultOut
    if o.2 ≠ 0 && s.memOk j.who j.sec o.1 o.2 true then
      let r := s.draws o.2
      r.2.putBytes o.1 (r.1.map (fun w => w.setWidth 8))
    else s
  | none => s

/-- A reset of a class: every register and state but those of Table 10-2. The memory wipes are Kindling's (R312). -/
def State.resetClears (s : State) (por wipe warm holds : Bool) : State :=
  let o := s
  let moved := s.upd.motionAt
  let s := s.vaultCut.domainsOff.keysErase
  let s := s.regsReset (fun a => !regKept por wipe warm holds a)
  let s := { s with vlt := ⟨[], none, none, [none, none], 1, false, [], 0, false⟩, cs := [], viol := [] }
  let s := (s.updReset).mUpd (fun u => { u with motionAt := if warm then moved else none })
  let s := s.mRtc (fun r => if wipe then ⟨0, 0, 0, 0, 0, r.committed && !por, [], false⟩ else { r with matched := false, held := [] })
  let s := s.mPwr (fun p => ⟨.run, none, if holds then p.hold else ⟨[], [], false, false, 0⟩, [], holds, 0, p.x32Run && !por⟩)
  let s := s.mSup (fun x => { x with hot := false, chgAt := 0 })
  (s.ashStart wipe).liveShow o

/-! ## Causes (R305, R307) -/

/-- Causes of Table 10-1, highest priority first. -/
def causeOrder : List Nat := [1, 13, 14, 2, 4, 3, 5, 6, 7, 9, 11, 12, 10, 15]

/-- The causes that wipe ember memory and the clocks: POR and ALARM. -/
def causeWipes (c : Nat) : Bool := c == 1 || c == 13

/-- A Kindling run begins, and is counted where it is a restart (R316). -/
def State.runBegin (s : State) : State :=
  if s.rst.running.isNone ∨ s.rst.begun ∨ s.rst.persist ≠ [] ∨ s.rst.slowWait then s
  else if s.rst.cut = false then s.mRst (fun r => { r with begun := true })
  else
    let open' := s.rst.windowOpen && decide (s.rst.windowAt ≤ s.rtc.ember) && decide (s.rtc.ember < s.rst.windowAt + 32768)
    let n := if open' then min (s.fg F.KND_STAT_RESTARTS + 1) 255 else 1
    let at' := if open' then s.rst.windowAt else s.rtc.ember
    let s := s.fp F.KND_STAT_RESTARTS n
    let s := if 9 ≤ n then s.fset F.KND_STAT_SLOW else s
    s.mRst (fun r => { r with begun := true, cut := false, windowAt := at', windowOpen := true })

/-- The causes `new` are taken, with every deferred one: RST_CAUSE, RST_HIST and the class (R305, R307), and what the reset clears. -/
def State.resetTake (s : State) (new : List ResetReq) : State :=
  let l := new ++ s.rst.deferred
  let por := l.any (fun r => r.cause == 1)
  let during := s.rst.running.isSome && !por
  let causes := (if during then s.rst.causes else []) ++ l.map ResetReq.cause
  let cold := l.any ResetReq.cold || (during && s.rst.cold)
  let wipe := causes.any causeWipes
  let holds := causes.all (fun c => c == 15)
  let cut := !por && ((s.rst.running.isSome && s.rst.begun) || s.rst.cut)
  let n := if por then 0 else min (s.fg F.RST_CAUSE_COUNT + 1) 0xFFFF
  let src := if por then b2n s.sup.vinPresent else s.fg F.RST_CAUSE_POR_SRC
  let hist := (if por then 0 else s.rd R.RST_HIST) ||| (l.foldl (fun w r => w ||| w32 (2 ^ r.cause)) 0)
  let s := s.resetClears por wipe (!cold) holds
  let s := (s.fclr F.KND_STAT_DONE).wr R.RST_HIST hist
  let s := s.wr R.RST_CAUSE (w32 (n * 0x10000 + src * 0x200 + b2n cold * 0x100 + (causeOrder.find? (fun c => causes.contains c)).getD 0))
  let slow := s.fb F.KND_STAT_SLOW && cut
  let s := s.mRst (fun r => { r with
    deferred := [], waiting := false, running := some .reset, cold := cold, causes := causes, begun := false, cut := cut
    slowWait := slow, released := false, opt := none })
  s.runBegin

/-- A cause that is not deferred (R306). -/
def State.resetNow (s : State) (cause : Nat) (cold : Bool) : State := (s.wr R.RST_DEFER 0).resetTake [⟨cause, cold⟩]

/-- The device has power and runs its sequences. -/
def State.powered (s : State) : Bool := !s.sup.lost

/-- A request of a deferred cause (R306). It is not asked again while it waits. -/
def State.resetWant (s : State) (cause : Nat) (cold : Bool) : State :=
  if s.powered = false ∨ s.rst.deferred.any (fun r => r.cause == cause) then s else s.resetAsk cause cold

/-- Deferred causes are taken at once where no flash step runs (R306). -/
def State.deferredCheck (s : State) : State :=
  if s.rst.deferred.isEmpty ∨ s.rst.waiting then s
  else if s.flc.running.isSome then s.mRst (fun r => { r with waiting := true })
  else (s.wr R.RST_DEFER 0).resetTake []

/-- The flash step that deferred the reset has ended, `us` after the request. -/
def State.deferredTaken (s : State) (us : Nat) : State :=
  if s.rst.waiting && s.flc.running.isNone then (s.fp F.RST_DEFER_US (min us 1023)).resetTake [] else s

/-- The condition of a BOR, PIN or ALARM cause has ended (R306). -/
def State.conditionEnd (s : State) (cause : Nat) : State :=
  (s.mRst (fun r => { r with persist := r.persist.filter (fun c => c != cause) })).runBegin

/-- A cause whose condition persists. -/
def State.persistNow (s : State) (cause : Nat) (cold : Bool) : State :=
  (s.mRst (fun r => { r with persist := cause :: r.persist.filter (fun c => c != cause) })).resetNow cause cold

/-- A brown-out (Table 10-1): 2 VCORE; 3 an I/O bank whose enable is 1 in SUP; 4 the low-power regulator, in BANKED. -/
def State.brownOut (s : State) (src : BorSrc) : State :=
  if s.powered = false then s
  else match src with
    | .core => s.persistNow 2 false
    | .io bank => if s.fb (ioBor (match bank with
        | .a => 0
        | .b => 1)) then s.persistNow 3 false else s
    | .lp => if s.pwr.state = .banked then s.persistNow 4 false else s

/-- RESET_N has been low for 5 µs (Table 10-1). -/
def State.resetPin (s : State) : State :=
  if s.powered = false then s
  else (s.mRst (fun r => { r with persist := 5 :: r.persist.filter (fun c => c != 5) })).resetWant 5 true

/-- A core's watchdog counter has reached zero: a reset, but for the new image's core in probation, which rolls back (R324, R373). From LOADING to SWAP
the new core's expiry also declines the update (R366), with a code the spec does not name: a free value (log 67). -/
def State.watchdogExpiry (s : State) (c : CoreId) : State :=
  if s.powered = false ∨ s.rbit (wdtCfg c) 31 = false ∨ (s.rd (wdtCfg c + 8)).toNat ≠ 0 then s
  else if s.uState = uProbation ∧ s.uNew = c then s.rollback 2
  else
    let s := if s.uShadowing = true ∧ s.uNew = c then
        let r := s.draw
        r.2.decline (r.1.toNat % 16)
      else s
    s.resetWant (match c with
      | .a => 6
      | .b => 7) true

/-- A core raises an exception in fetching the first instruction of its trap handler. -/
def State.lockup (s : State) (c : CoreId) : State := if s.coreRuns c then s.resetWant 9 false else s

/-- A write of RST_SOFT (Table 10-9). -/
def State.softReset (s : State) (v : Word) : State :=
  if wField v 31 16 = 0x5E7A then s.resetWant 10 (wBit v 0) else s.fset F.RST_EVT_ERR

/-- A write of a watchdog's KICK register (R323). -/
def State.wdtKick (s : State) (c : CoreId) (v : Word) : State :=
  if s.rbit (wdtCfg c) 31 && v == 0xA5C3 then s.wr (wdtCfg c + 8) (w32 (max 32 (wField (s.rd (wdtCfg c)) 23 0)))
  else s.fset F.RST_EVT_ERR

/-- A write of a watchdog's CFG register: ignored with ERR while LOCK is 1 (R323). -/
def State.wdtCfgWrite (s : State) (c : CoreId) (v : Word) : State :=
  if s.rbit (wdtCfg c) 30 then s.fset F.RST_EVT_ERR
  else s.wr (wdtCfg c) (w32 (b2n (wBit v 31) * 0x80000000 + b2n (wBit v 30) * 0x40000000 + max 32 (wField v 23 0)))

/-- The pages an identity can mark secure (R309). -/
def State.secpgMask (s : State) (own n : Nat) : Word :=
  let banks : List Nat :=
    if own = ownA then [0, 1, 2, 3, 8, 9, 10, 11]
    else if own = ownB then [4, 5, 6, 7, 8, 9, 10, 11]
    else if own = ownPilot then (if s.coreB.pilot then [4, 5, 6, 7] else [0, 1, 2, 3])
    else if own = ownDebug then List.range 12
    else []
  (banks.filter (fun b => b / 4 == n)).foldl (fun w b => w ||| w32 (0xFF * 2 ^ (8 * (b % 4)))) 0

/-- A write of RST_SECPGn (R309). -/
def State.secpgSet (s : State) (own n : Nat) (v : Word) : State :=
  let a := R.RST_SECPG0 + 4 * n
  s.wr a (s.rd a ||| (v &&& s.secpgMask own n))

/-- An alarm is detected (R255, R256): its bit, the keys, and the reset with the cause of Table 7-9. -/
def State.alarm (s : State) (bit : Nat) (hot : Bool) : State :=
  if s.powered = false ∨ 4 ≤ bit ∨ (bit = 3 ∧ s.fb F.VLT_ALARM_CFG_TAMPER_EN = false) then s
  else
    let cause := if bit = 2 && hot then 14 else 13
    ((s.rset R.VLT_ALARM bit).keysErase).persistNow cause true

/-! ## Power (R311, R333) -/

/-- The always-on domain loses its supply: a running program or erase is cut (Table 11-6), and nothing volatile is left. -/
def State.powerLoss (s : State) : State :=
  if s.powered = false then s
  else
    let s := s.resetClears true true false false
    let s := (((s.wipe 0x20000000 0x20180000).wipe 0x28000000 0x28008000).wipe 0x30000000 0x30080000)
    (s.mRst (fun _ => RstSt.init)).mSup (fun x => { x with lost := true })

/-- The always-on supply rises through the POR threshold (Table 10-3), with the levels it finds. -/
def State.powerOn (s : State) (vin vkeep vsys : Nat) : State :=
  if s.powered then s
  else
    let s := s.mSup (fun x => { x with lost := false, vin := vin, vkeep := vkeep, vsys := vsys, vinPresent := decide (8700 < vin) })
    let s := s.mRst (fun _ => RstSt.init)
    (s.resetNow 1 true).page5

/-! ## Kindling (Table 10-5) -/

/-- The life-cycle state of the fuses: the highest whose pair has a bit blown (R257). -/
def FuseSt.state (f : FuseSt) : Nat := if 0 < f.ret then lcRetired else if 0 < f.dbg then lcSealed else if 0 < f.fo then lcOpen else lcMfg

/-- A half-blown pair is completed (R257). -/
def pairDone (n : Nat) : Nat := if 0 < n then 2 else 0

/-- Fuses sensed and shown (R257, R267). A bit of RETIRE's step 2 blown completes it: ROOT_KILL is the first of them (R259). -/
def State.fuseSense (s : State) : State :=
  let s := s.mFuse (fun f => { f with fo := pairDone f.fo, dbg := pairDone f.dbg, ret := if f.rootKill then 2 else pairDone f.ret })
  let f := s.fuse
  let s := s.wr R.LCS_STATE (w32 (b2n f.ownerHash.isSome * 0x400 + b2n f.rootKill * 0x200 + b2n (decide (0 < f.dbg)) * 0x100 + f.state))
  let s := (s.wr R.LCS_PART_ID (w32 ((match s.part with
    | .dnl7240 => 0x7240
    | .dnl7210 => 0x7210) + Config.step.toNat * 0x10000))).wr R.LCS_UID_LO (Config.uid.setWidth 32)
  let s := s.wr R.LCS_UID_HI ((Config.uid >>> 32).setWidth 32)
  s.forEach (List.range 8) (fun s i => s.wr (R.LCS_OWNER_HASHn i) (nth (f.ownerHash.getD []) i 0))

/-- The valid record on a sector's highest-numbered programmed page (R314). -/
def optLast (l : List (Option OptRec)) : Option OptRec := (l.filterMap id).getLast?

/-- The option record in use and its sector (R314). -/
def InfoArea.optCurrent (i : InfoArea) : Option (Nat × OptRec) := match optLast i.opt0, optLast i.opt1 with
  | some a, some b => if a.seq < b.seq then some (1, b) else some (0, a)
  | some a, none => some (0, a)
  | none, some b => some (1, b)
  | none, none => none

/-- The words of an OPTFAIL start (Table 10-7, R315). -/
def optFailWords : List Word := List.replicate 8 0 ++ [0, 85, 115200, 0, 0, 0, 0, 0]

/-- Trims and option records (R314, R315). -/
def State.optionsLoad (s : State) : State :=
  let i := s.info
  let bad := !i.trim0 && !i.trim1
  let cur := i.optCurrent
  let fail := bad || cur.isNone
  let words := match cur with
    | some (_, r) => if fail then optFailWords else r.f ++ r.u
    | none => optFailWords
  let s := s.forEach (List.range 16) (fun s k => s.wr (R.KND_OPTn k) (nth words k 0))
  let s := s.wr R.KND_OPT_SEQ (w32 ((cur.map (fun p => p.2.seq)).getD 0))
  let s := (s.fp F.KND_STAT_OPTFAIL (b2n fail)).fp F.KND_STAT_TRIM_BAD (b2n bad)
  let s := (s.fp F.KND_STAT_NO0 (b2n (optLast i.opt0).isNone)).fp F.KND_STAT_NO1 (b2n (optLast i.opt1).isNone)
  let s := (s.fp F.KND_STAT_SECT ((cur.map (fun p => p.1)).getD 0)).fp F.KND_STAT_TRIM (b2n (!i.trim0 && i.trim1))
  s.wr R.CLK_FRC_TRIM ((Config.frcTrim (if bad then 2 else b2n (!i.trim0))).setWidth 32)

/-- The options that a reset puts into registers; `wake`: after CINDER the always-on registers keep what they hold. -/
def State.optionsApply (s : State) (wake : Bool) : State :=
  let s := ((s.fp F.VLT_ALARM_CFG_TAMPER_EN (wField (s.opt 0) 1 1)).wr R.SVC_BAUD (w32 s.svcBaud)).hostShow
  if wake then s
  else
    let t := wField (s.opt 1) 9 0
    let s := s.fp F.SUP_PFW_THR_THR (if 85 ≤ t ∧ t ≤ 400 then t else 85)
    let e := wBit (s.opt 0) 2
    (s.wdtSet .a e e).wdtSet .b e e

/-- R350: a unit passes Kindling's checks. -/
def State.unitOk (s : State) (u : Nat) : Bool := !s.unitSuspect u && s.hdrOk u && s.lengthsOk u && s.unitProgrammed u

/-- Kindling chooses the boot unit (R350); in RETIRED and under OPTFAIL no unit starts, and NONE is set there too. -/
def State.bootChoose (s : State) : State :=
  let first := match s.selCurrent with
    | some (_, r) => r.unit
    | none => 0
  let twin := !s.unitOk first && s.unitOk (1 - first)
  let none' := !s.unitOk first && !s.unitOk (1 - first)
  let boot := if twin then 1 - first else first
  let s := (s.fp F.KND_BOOT_CORE boot).fp F.KND_BOOT_TWIN (b2n twin)
  (s.fp F.FLC_PROT_NONE (b2n (none' || s.lifeCycle == lcRetired || s.optFail))).fp F.FLC_PROT_UNIT boot

/-- The pages of main SRAM that RST_SECPG0-2 mark secure (R309). -/
def State.securePages (s : State) : List Nat := (List.range 96).filter (fun p => s.rbit (R.RST_SECPG0 + 4 * (p / 32)) (p % 32))

/-- The wipes due (R308, R309): all of main SRAM, or its secure pages after a warm reset; link RAM and the snapshot window; ember memory. -/
def State.wipes (s : State) : State :=
  let s := if s.rst.cold ∨ s.rst.running = some .cinder then s.wipe 0x20000000 0x20180000
    else s.forEach s.securePages (fun s p => s.wipe (0x20000000 + 0x4000 * p) (0x20000000 + 0x4000 * (p + 1)))
  let s := s.wipe 0x30000000 0x30080000
  if s.rst.causes.any causeWipes then s.wipe 0x28000000 0x28008000 else s

/-- Device records of a start, entered after its RESET record (R256, R295, R315); the events of ALARM and WAKEFAIL came before the reset, so these
records are LATE (R389). -/
def State.startRecords (s : State) : State :=
  let c := s.rst.causes
  let s := if c.contains 13 ∨ c.contains 14 then s.ashLate 0x0002 (s.rd R.VLT_ALARM) 0 0 else s
  let s := if c.contains 15 then s.ashLate 0x0003 (s.rd R.EMB_REG30) 0 0 else s
  if s.optFail then s.ash3 0x0004 (s.rd R.KND_STAT) 0 0 else s

/-- Kindling sets DONE, `us` after it began (R312). -/
def State.kindlingDone (s : State) (us : Nat) : State :=
  if s.rst.running.isNone ∨ s.rst.begun = false then s
  else
    let wake := s.rst.running == some .cinder
    let s := s.fuseSense.optionsLoad
    let s := (s.optionsApply wake).flcRebuild
    let s := (s.bootChoose).wipes
    let s := if wake then s else s.page5
    let s := ((s.fset F.KND_STAT_DONE).fp F.KND_STAT_RESTARTS 0).fclr F.KND_STAT_SLOW
    let s := s.fp F.KND_TIME_US (min us 0xFFFF)
    let s := if s.lifeCycle = lcMfg ∧ s.optFail = false then s.fset F.LCS_DBG_OPEN else s
    let s := s.clocksStart.upsLoad.startRecords
    let go := s.lifeCycle != lcRetired && !s.fb F.KND_STAT_TRIM_BAD
    s.mRst (fun r => { r with running := none, begun := false, cut := false, windowOpen := false, released := go, causes := [] })

/-- The wait of a slow run is over (R316). -/
def State.slowRetry (s : State) : State := (s.mRst (fun r => { r with slowWait := false })).runBegin

/-! ## Starts after CINDER and after a failed wake (R294-R296) -/

/-- Pages of the blocks of the AON domain (Table 1-2), whose registers a wake from CINDER leaves as they are. -/
def aonPages : List Nat :=
  [0x40000, 0x40001, 0x40002, 0x40003, 0x40004, 0x40005, 0x40007, 0x40009, 0x40020, 0x40021, 0x40022, 0x40023, 0x40024, 0x40025, 0x40026, 0x40027,
   0x40028, 0x400D0]

/-- The registers a wake from CINDER keeps. -/
def cinderKept (a : Nat) : Bool :=
  (aonPages.contains (a / 0x1000) && a != R.PWR_RESUME_A && a != R.PWR_RESUME_B) || motionReg a || a == R.PAD_HOLD || a == R.UPD_BOOTFAIL

/-- A wake event ends CINDER: a restart through Kindling without a reset cause (R294). -/
def State.cinderWake (s : State) : State :=
  if s.pwr.state ≠ .cinder ∨ s.pwr.wakePending = [] then s
  else
    let moved := s.upd.motionAt
    let s := (s.forEach s.pwr.wakePending (fun s n => s.rset R.PWR_WAKE_SRC n)).rset R.PWR_WAKE_SRC 16
    let s := s.domainsOff.keysEraseCinder
    let s := s.regsReset (fun a => !cinderKept a)
    let s := s.mVlt (fun v => { v with job := none, lce := none, pk := [none, none], pkStep := false })
    let s := (s.updReset).mUpd (fun u => { u with motionAt := moved })
    let s := ((s.stgIdle .wall).stgIdle .charger).ashStart false
    let s := s.mPwr (fun p => { p with state := .run, entry := none, wakePending := [], wakeFailed := false })
    let s := (s.fclr F.KND_STAT_DONE).fclr F.ASH_STAT_READY
    let s := s.mRst (fun r => { r with
      deferred := [], waiting := false, running := some .cinder, cold := true, causes := [], begun := true, slowWait := false, released := false })
    s.clocksStart

/-- A wake is under way that can fail: the exit from BANKED, the start of a wake from CINDER or of a retry. -/
def State.waking (s : State) : Bool :=
  s.powered && (s.pwr.state == .banked || (s.pwr.state == .cinder && s.pwr.wakePending != []) ||
    (s.pwr.state == .run && s.rst.running.isSome && (s.pwr.wakeFailed || s.rst.running == some .cinder)))

/-- The fast RC or the buck is not ready in time (R295, R296): every domain outside AON is off, and the holds stay. -/
def State.wakeFailure (s : State) (step : WakeStep) : State :=
  if s.waking = false then s
  else
    let n := match step with
      | .fastRc => 1
      | .buck => 2
    let s := ((s.fsat wfTotal).fsat wfConsec).fp wfStep n
    let s := s.domainsOff.clocksOff
    let s := s.mRst (fun r => { r with running := none, begun := false, causes := [], released := false })
    (s.fclr F.KND_STAT_DONE).mPwr (fun p => { p with state := .failed, wakeFailed := true })

/-- The retry: a CINDER-wake restart whose cause is WAKEFAIL, with the pad holds kept (R295). -/
def State.wakeRetry (s : State) : State :=
  if s.powered = false ∨ s.pwr.state ≠ .failed then s
  else (((s.resetNow 15 true).rset R.PWR_WAKE_SRC 17).fset F.PWR_EVT_WAKEFAIL)

/-! ## The boot code (R351, R380, R381, R480) -/

/-- The option of the host port gives it IO8-IO12 (R480). -/
def State.hostPins (s : State) : State :=
  if wBit (s.opt 0) 3 = false then s
  else
    let f := if s.fg F.HST_STAT_MODE = 1 then 2 else 1
    s.forEach (List.range 5) (fun s i =>
      let n := 8 + i
      (((s.fp (F.PAD_CFGn_FUNC n) f).fp (F.PAD_CFGn_OWNER n) ownHost).fp (F.PAD_CFGn_SEC n) 0).fp (F.PAD_CFGn_LOCK n) 1)

/-- The READY notification, the first frame after every start and every BANKED exit (R411). -/
def State.hostReady (s : State) : State :=
  if s.hostOn then (s.hostNote 5 (leBytes 4 (s.rd R.LCS_PART_ID).toNat ++ leBytes 1 (s.fg F.RST_CAUSE_CAUSE))).fset F.HST_STAT_READY else s

/-- The KEYS record of the copy in use with a target, and its root-wrapped blob. -/
def State.cfgKeyBlob (s : State) (target : Nat) : Option (List Byte) :=
  (s.hrt.cfg.keys.findIdx? (fun k => k.target == target)).map (fun i => s.bytes (cfgBlob s.hrt.cfg i) 64)

/-- A key of the image goes into a slot whose page the blob must name (R388). -/
def State.cfgKeyTake (s : State) (target page slot own : Nat) : State := match s.cfgKeyBlob target with
  | none => s
  | some b => match s.openRoot b with
    | some (h, k) => if blobOwner b = own then s.keyUnwrapped page slot h k else s
    | none => s

/-- The Pilot service starts on core A (R381): cause 1 RETIRED, 2 OPTFAIL, 3 no unit, 4 boot checks, 5 fallback. -/
def State.pilotStart (s : State) (cause : Nat) : State :=
  let s := s.coreStart .a 0 true
  let s := if s.fg F.LUM_OWN_OWNER = ownNone then (s.fp F.LUM_OWN_OWNER ownPilot).fset F.LUM_OWN_SEC else s
  let s := (s.lampSafe).ash3 0x003A (w32 cause) 0 0
  (s.cfgKeyTake 0x30 3 0 ownPilot).fp F.UPD_STAT_IDLE_CORE 1

/-- The boot code copies a unit's segments into SRAM. -/
def State.unitCopy (s : State) (u : Nat) : State :=
  let s := s.putBytes 0x20000000 (s.bytes (unitSlot u) (s.hdr u 0x0C))
  if s.seg1 u then s.putBytes 0x20080000 (s.bytes (unitSlot u + s.hdr u 0x14) (s.hdr u 0x18)) else s

/-- The code of the failing check of R351; 0 where all pass or OWNER_SET is 0. -/
def State.bootCheck (s : State) (u : Nat) : Nat :=
  if s.fb F.LCS_STATE_OWNER_SET then s.imageCheck u 0x20000000 0x20080000 else 0

/-- Control goes to a unit's image (R348, R351). -/
def State.unitRun (s : State) (u : Nat) : State :=
  let s := (s.fp F.FLC_PROT_UNIT u).fset F.FLC_PROT_LOCK
  let s := s.coreStart .a (0x20000000 + s.hdr u 0x10) false
  if s.seg1 u then s.coreStart .b (0x20080000 + s.hdr u 0x1C) false
  else s.fp F.UPD_STAT_IDLE_CORE 1

/-- The chosen unit is copied and checked, then its twin, else the Pilot service starts (R351). -/
def State.bootUnits (s : State) : State :=
  let u := s.fg F.KND_BOOT_CORE
  let s := s.unitCopy u
  let c := s.bootCheck u
  if c = 0 then
    let s := if s.fb F.KND_BOOT_TWIN then s.ash3 0x0039 (w32 u) 0 0 else s
    s.unitRun u
  else
    let s := s.ash3 0x0038 (w32 u) (w32 c) 0
    let t := 1 - u
    if s.fb F.KND_BOOT_TWIN = false ∧ s.unitOk t then
      let s := s.unitCopy t
      let d := s.bootCheck t
      if d = 0 then (s.ash3 0x0039 (w32 t) 0 0).unitRun t
      else (s.ash3 0x0038 (w32 t) (w32 d) 0).pilotStart 4
    else s.pilotStart 4

/-- UPD_BOOTFAIL at a start of an application image (R380). -/
def State.bootFail (s : State) : State :=
  let c := s.fg F.RST_CAUSE_CAUSE
  let n := if (c = 6 ∨ c = 7 ∨ c = 9) ∧ s.fb F.UPD_BOOTFAIL_ALIVE = false then min (s.fg F.UPD_BOOTFAIL_COUNT + 1) 255 else 0
  (s.fp F.UPD_BOOTFAIL_COUNT n).fclr F.UPD_BOOTFAIL_ALIVE

/-- The cores fetch from the ROM boot entry: after Kindling, and after Hearth where it is released (R310). -/
def State.bootStart (s : State) : State :=
  if s.fb F.KND_STAT_DONE = false ∨ s.pwr.state ≠ .run ∨ s.coreA.started ∨ s.coreB.started ∨
      (s.rst.released ∧ s.fg F.HRT_STAT_STATE = hOff) then s
  else
    let s := (s.fp wfConsec 0).mPwr (fun p => { p with wakeFailed := false })
    let s := s.hostPins
    let s := if s.lifeCycle = lcRetired then s.pilotStart 1
      else if s.optFail then s.pilotStart 2
      else if s.fb F.FLC_PROT_NONE then s.pilotStart 3
      else
        let s := s.bootFail
        if 4 ≤ s.fg F.UPD_BOOTFAIL_COUNT then (s.ash3 0x003B (w32 (s.fg F.UPD_BOOTFAIL_COUNT)) 0 0).pilotStart 5
        else s.bootUnits
    s.hostReady

end Sys2Proof.Machine
end

