-- ==== Sys2Proof/Machine/VaultOps.lean ====
section
/-! DEFINITION. Key page writes, vault commands, link cipher jobs, verify jobs, the TRNG and the life-cycle commands (R222-R226,
R240, R246-R262). A job latches its arguments and key at GO; its effect is computed at its end. -/

namespace Sys2Proof.Machine

/-- A run of octets can be read or written over the bus by an identity now: R26 permits it, no word is uncorrectable, no flash
bank of it is busy (R342). -/
def State.busOk (s : State) (own : Nat) (sec : Bool) (a n : Nat) (wr : Bool) : Bool :=
  s.memOk own sec a n wr && (n == 0 || !([a, a + n - 1].any (fun x => isFlash x && s.bankBusy (blockOf x / 64))))

/-- The first bus read of a SUSPECT block since SUSPECT_HIT was cleared (R337). -/
def State.suspectHit (s : State) (a : Nat) : State :=
  if isFlash a && (s.blk (blockOf a)).suspect && !s.fb F.FLC_EVT_SUSPECT_HIT then (s.wr R.FLC_HIT_ADDR (w32 a)).fset F.FLC_EVT_SUSPECT_HIT else s

/-- An uncorrectable word of flash that a bus read meets: its address and count (R332). -/
def State.eccNote (s : State) (a : Nat) : State :=
  if isFlash a then ((s.wr R.FLC_ECC_ADDR (w32 a)).fsat F.FLC_ECC_CNT_UNC).fset F.FLC_EVT_ECC else s

/-- What a bus read of a run of octets in flash leaves behind, where it gets so far: SUSPECT_HIT of the first word in a SUSPECT block, and the
first uncorrectable word, at which the read ends (R332, R337). -/
def State.busSeen (s : State) (own : Nat) (sec : Bool) (a n : Nat) : State :=
  if isFlash a = false ∨ n = 0 ∨ s.memSyn own sec a false ≠ 0 ∨ s.bankBusy (blockOf a / 64) then s
  else
    let ws := (List.range ((a % 4 + n + 3) / 4)).map (fun i => a / 4 * 4 + 4 * i)
    let good := ws.takeWhile (fun x => !s.eccBad.contains x)
    let s := (good ++ (ws.drop good.length).take 1).foldl (fun s x => s.suspectHit x) s
    match ws.drop good.length with
    | x :: _ => s.eccNote x
    | [] => s

/-! ## Key pages (R223, R264) -/

/-- A write of VLT_PGn_SLOTs: SIZE, USE and KEYIDX, then LOAD and CLEAR. -/
def State.slotWrite (s : State) (n k : Nat) (v : Word) : State :=
  let s := s.regStore (R.VLT_PGn_SLOTs n k) v
  let s := if wBit v 29 then s.keyLoad n k else s
  if wBit v 28 then s.keyClear n k else s

/-- A write of VLT_PGn_CTL. -/
def State.pageCtl (s : State) (n : Nat) (v : Word) : State := if wBit v 0 then s.pageWipe n else s

/-! ## Reservation (R240) -/

/-- Slots whose counter has stood at the ceiling for 1 s with no durable record. -/
def State.rsvStuck (s : State) : List Nat :=
  (s.rsv.stuckAt.filter (fun p => s.ceil p.1 ≤ s.ctr p.1 && s.ctr p.1 < 0xFFFF0000 && decide (1 ≤ s.since p.2) && !s.rsv.failed.contains p.1)).map Prod.fst

/-- 1 s has passed since a counter first reached its ceiling: of these slots, and of no other. -/
def State.rsvTimeout (s : State) : State :=
  if s.rsv.writing.isSome && !s.rsvStuck.isEmpty then s.rsvFail s.rsvStuck else s

/-- The program is tried again. -/
def State.rsvRetry (s : State) : State := if s.rsv.failed.isEmpty then s else s.rsvProgram

/-! ## Vault commands (R248-R250) -/

/-- GO: the command latches its arguments and key. -/
def State.vaultGo (s : State) (who : Nat) (sec : Bool) : State :=
  let op := s.fg F.VLT_CMD_OP
  let p := s.fg F.VLT_CMD_PURPOSE
  let page := s.fg F.VLT_CMD_PAGE
  let slot := s.fg F.VLT_CMD_SLOT
  let key := if op = 5 then (s.key page slot).active else s.purposeKey p
  (s.csRun .vlt).mVlt (fun v => { v with job := some ⟨op, p, page, slot, (s.rd R.VLT_CMD_IN).toNat, s.fg F.VLT_CMD_LEN_LEN,
    (s.rd R.VLT_CMD_OUT).toNat, who, sec, key⟩ })

/-- Who may use a purpose for GEN or VERIFY (Table 7-7). -/
def purposeFor (p who : Nat) (sec : Bool) : Bool := match p with
  | 0 => who == ownSvc
  | 1 => isCore who
  | 2 => (isCore who && sec) || who == ownSvc
  | _ => false

/-- The header a WRAP names and the blob an UNWRAP or REWRAP reads. -/
def State.jobIn (s : State) (j : VaultJob) : List Byte := s.bytes j.inAddr j.len

/-- A rule of Table 7-7 that the command breaks before its input is read. -/
def State.jobDenied (s : State) (j : VaultJob) : Bool := match j.op with
  | 1 => !purposeFor j.purpose j.who j.sec || j.key.isEmpty
  | 2 => !purposeFor j.purpose j.who j.sec || j.key.isEmpty
  | 3 => s.pageOwner j.page != j.who || !j.sec || j.page == 5
  | 4 => !j.sec || j.who == ownHearth
  | 5 => s.pageOwner j.page != j.who || !j.sec || j.page == 5 || j.key.isEmpty
  | _ => true

/-- The length an operation takes. -/
def jobLenOk (j : VaultJob) : Bool := match j.op with
  | 1 => inR 1 4096 j.len
  | 2 => inR 1 4096 j.len
  | 4 => j.len == 40
  | _ => j.len == 64

/-- The octets an operation writes or compares at OUT. -/
def jobOut (op : Nat) : Nat := match op with
  | 1 => 16
  | 2 => 16
  | 3 => 0
  | _ => 64

/-- The command's accesses are permitted. -/
def State.jobBus (s : State) (j : VaultJob) : Bool :=
  s.busOk j.who j.sec j.inAddr j.len false && (jobOut j.op == 0 || s.busOk j.who j.sec j.outAddr (jobOut j.op) (j.op != 2))

/-- What a command whose checks have passed does, with its code: 1 MISMATCH, 2 TAG, 3 DENIED, 6 ENTROPY. -/
def State.jobRun (s : State) (j : VaultJob) : Nat × State :=
  let m := s.jobIn j
  let cv := cmac j.key (if j.purpose = 2 then BitVec.ofNat 8 j.who :: m else m)
  match j.op with
  | 1 => (0, s.putBytes j.outAddr cv)
  | 2 => (if s.bytes j.outAddr 16 = cv then 0 else 1, s)
  | 3 => match s.openRoot m with
    | none => (2, s)
    | some (h, k) => if blobOwner h = j.who then (0, s.keyUnwrapped j.page j.slot h k) else (3, s)
  | 4 =>
    if blobOwner m ≠ j.who ∨ (s.key 5 0).active.isEmpty then (3, s)
    else if s.trngFail then (6, s)
    else
      let r := s.wrapRoot (m.take 8) (m.drop 8)
      (0, r.2.putBytes j.outAddr r.1)
  | _ =>
    if s.trngFail then (6, s)
    else match s.rewrap j.key m with
    | none => (2, s)
    | some (b, t) => if blobOwner b = ownHearth ∧ j.who ≠ ownSvc then (3, s) else (0, t.putBytes j.outAddr b)

/-- The running command ends: DENIED, LEN and BUS are judged in this order. -/
def State.vaultEnd (s : State) : State := match s.vlt.job with
  | none => s
  | some j =>
    let s := s.mVlt (fun v => { v with job := none })
    if s.jobDenied j then s.csEnd .vlt 3
    else if jobLenOk j = false then s.csEnd .vlt 5
    else if s.jobBus j = false then (s.busSeen j.who j.sec j.inAddr j.len).csEnd .vlt 4
    else
      let s := s.busSeen j.who j.sec j.inAddr j.len
      let r := (if j.op = 2 then s.busSeen j.who j.sec j.outAddr 16 else s).jobRun j
      r.2.csEnd .vlt r.1

/-- A write of a register of the vault's command set. `op`: the operation a row of its own names. -/
def State.vaultWrite (s : State) (who : Nat) (sec : Bool) (a : Nat) (v : Word) : State :=
  let go := a == R.VLT_CMD && wBit v 31
  s.csWrite .vlt who go (fun s =>
    let s := s.regStore a v
    if go then s.vaultGo who sec else s)

/-! ## Link cipher jobs (R246) -/

/-- GO: the job latches its arguments; its key is empty where the slot is not VALID or the page not the requester's. -/
def State.lceGo (s : State) (who : Nat) (sec : Bool) : State :=
  let page := s.fg F.LCE_JOB_CTL_PAGE
  let slot := s.fg F.LCE_JOB_CTL_SLOT
  let mine := [1, 2, 3, 4, 6, 7].contains page && s.pageOwner page == who && sec
  (s.csRun .lce).mVlt (fun x => { x with lce := some ⟨s.fg F.LCE_JOB_CTL_OP, page, slot, (s.rd R.LCE_JOB_SRC).toNat, (s.rd R.LCE_JOB_DST).toNat,
    s.fg F.LCE_JOB_LEN_LEN, (List.range 4).flatMap (fun i => beBytes 4 (s.rd (R.LCE_JOB_IVn i)).toNat), who, sec,
    if mine then (s.key page slot).active else []⟩ })

/-- LCE_JOB_MAC0-3 take 16 octets. -/
def State.lceMac (s : State) (o : List Byte) : State :=
  s.forEach (List.range 4) (fun s i => s.wr (R.LCE_JOB_MACn i) (w32 (ofBe ((o.drop (4 * i)).take 4))))

/-- The code of a job: 4 OP, 1 KEY, 2 LEN, 3 BUS, in this order. -/
def State.lceCode (s : State) (j : LceJob) : Nat :=
  if j.op = 0 then 4
  else if j.key.isEmpty then 1
  else if j.len = 0 ∨ (j.op = 2 ∧ j.len % 16 ≠ 0) then 2
  else if s.busOk j.who j.sec j.src j.len false && (j.op != 1 || s.busOk j.who j.sec j.dst j.len true) then 0
  else 3

/-- The running job ends. -/
def State.lceEnd (s : State) : State := match s.vlt.lce with
  | none => s
  | some j =>
    let s := s.mVlt (fun v => { v with lce := none })
    let code := s.lceCode j
    let s := if code = 0 ∨ code = 3 then s.busSeen j.who j.sec j.src j.len else s
    if code ≠ 0 then s.csEnd .lce code
    else
      let m := s.bytes j.src j.len
      let n := (j.len + 15) / 16
      let s := match j.op with
        | 1 => (s.putBytes j.dst (ctrMode j.key n j.iv m)).lceMac (ctrAfter j.iv n)
        | 2 => s.lceMac (cbcMac j.key n j.iv m)
        | _ => s.lceMac (cmac j.key m)
      s.csEnd .lce 0

/-- A write of LCE_JOB_CTL to LCE_JOB_IV3. -/
def State.lceWrite (s : State) (who : Nat) (sec : Bool) (a : Nat) (v : Word) : State :=
  let go := a == R.LCE_JOB_CTL && wBit v 31
  s.csWrite .lce who go (fun s =>
    let s := s.regStore a v
    if go then s.lceGo who sec else s)

/-! ## Verify jobs (R251-R253) -/

/-- The length of a job's message, 0 where it holds a digest. -/
def State.pkLen (s : State) (j : PkJob) : Nat := if j.hashMsg then s.ld (j.arg + 132) 4 else 0

/-- GO in a context. -/
def State.pkGo (s : State) (who c : Nat) (sec : Bool) : State :=
  let j : PkJob := ⟨(s.rd (R.VLT_PK_ARGc c)).toNat, s.fb (F.VLT_PK_CTLc_HASHMSG c), who, sec, false, []⟩
  s.pkStart c (s.pkLen j) j

/-- The part of its message that a job's hashing step `i` takes, at most 32 KB: address and length (R252). -/
def State.pkChunk (s : State) (j : PkJob) (i : Nat) : Nat × Nat := (s.ld (j.arg + 128) 4 + 32768 * i, min 32768 (s.pkLen j - 32768 * i))

/-- The step that runs for a context is a hashing step: these come first, the 14 curve steps after them. -/
def State.pkHashes (s : State) (c : Nat) (j : PkJob) : Bool := j.hashMsg && decide (s.fg (F.VLT_PK_PROGc_HI c) + 14 < s.fg (F.VLT_PK_PROGc_LO c))

/-- A hashing step, or the update engine's check (R361), meets a busy bank: it waits until the step that makes the bank busy ends, and never faults
(R252, R342). -/
def State.pkWaits (s : State) (c : Nat) (j : PkJob) : Bool :=
  if s.upd.ctx = some c then s.uBankBusy
  else
    let x := s.pkChunk j (s.fg (F.VLT_PK_PROGc_HI c))
    s.pkHashes c j && [x.1, x.1 + x.2 - 1].any (fun a => isFlash a && s.bankBusy (blockOf a / 64))

/-- What a step that ends has added to its job: a hashing step its part of the message. -/
def State.pkTake (s : State) (c : Nat) (j : PkJob) : PkJob :=
  let x := s.pkChunk j (s.fg (F.VLT_PK_PROGc_HI c))
  if s.pkHashes c j then { j with msg := j.msg ++ s.bytes x.1 x.2 } else j

/-- The job's accesses are permitted. -/
def State.pkBus (s : State) (j : PkJob) : Bool :=
  let n := if j.hashMsg then 136 else 160
  let sram (a n : Nat) : Bool := decide (0x20000000 ≤ a) && decide (a + n ≤ 0x20180000)
  sram j.arg n && s.memOk j.who j.sec j.arg n false &&
  (!j.hashMsg ||
    let a := s.ld (j.arg + 128) 4
    let l := s.pkLen j
    decide (l ≤ 1048576) && (l == 0 || ((isFlash a && isFlash (a + l - 1)) || sram a l) && s.memOk j.who j.sec a l false))

/-- RESULT of a job whose steps are done. -/
def State.pkResult (s : State) (j : PkJob) : Nat :=
  let d := if j.hashMsg then sha256 j.msg else s.bytes (j.arg + 128) 32
  ecdsaVerify (s.bytes j.arg 64) (s.bytes (j.arg + 64) 64) d

/-- A job ends with a RESULT: DONE where the engine reached a verdict, ERROR otherwise. -/
def State.pkEnd (s : State) (c r : Nat) : State :=
  let s := s.mVlt (fun v => { v with pk := v.pk.set c none })
  (s.fp (CsId.pk c).state (if r ≤ 4 then 2 else 3)).fp (CsId.pk c).code r

/-- A context's job has ended with a RESULT; one of the update engine's frees its context (R361). -/
def State.pkOver (s : State) (c r : Nat) : State := if s.upd.ctx = some c then s.uCheckEnd c (r == 6) else s.pkEnd c r

/-- What a context's step makes of its job: it is aborted, stops on its accesses, ends, or goes on. The update engine's check reads no memory of a job. -/
def State.pkOutcome (s : State) (c done : Nat) (j : PkJob) : Option Nat :=
  if j.abortReq then some 6
  else if s.upd.ctx ≠ some c ∧ s.pkBus j = false then some 5
  else if s.fg (F.VLT_PK_PROGc_LO c) ≤ done then some (if s.upd.ctx = some c then 0 else s.pkResult j)
  else none

/-- The step that runs ends: its context's job ends or goes on, an ABORT of either context takes effect, and the engine alternates between the contexts. No step begins while a
damper request is pending (Table 9-2), and a step that waits for a flash bank has not ended. -/
def State.pkStepEnd (s : State) : State :=
  if s.vlt.pkStep = false ∨ (s.pkJob s.vlt.pkLast).any (s.pkWaits s.vlt.pkLast) then s
  else
    let c := s.vlt.pkLast
    let s := match s.pkJob c with
      | none => s
      | some j =>
        let done := s.fg (F.VLT_PK_PROGc_HI c) + 1
        let j := s.pkTake c j
        let s := (s.fp (F.VLT_PK_PROGc_HI c) done).mVlt (fun v => { v with pk := v.pk.set c (some j) })
        match s.pkOutcome c done j with
        | some r => s.pkOver c r
        | none => s
    let s := if (s.pkJob (1 - c)).any (fun j => j.abortReq) then s.pkOver (1 - c) 6 else s
    let next := if (s.pkJob (1 - c)).isSome then some (1 - c) else if (s.pkJob c).isSome then some c else none
    match next, s.pwr.entry with
    | some n, none => s.mVlt (fun v => { v with pkLast := n })
    | _, _ => s.mVlt (fun v => { v with pkStep := false })

/-- A write of VLT_PK_CTLc or VLT_PK_ARGc. -/
def State.pkWrite (s : State) (who : Nat) (sec : Bool) (c a : Nat) (v : Word) : State :=
  let ctl := a == R.VLT_PK_CTLc c
  let go := ctl && wBit v 31
  let s := if ctl && wBit v 16 then s.fclr (CsId.pk c).werr else s
  s.csWrite (.pk c) who go (fun s =>
    let s := if ctl then s.fp (F.VLT_PK_CTLc_HASHMSG c) (wField v 0 0) else s.regStore a v
    if go then s.pkGo who c sec else if ctl && wBit v 30 then s.pkAbort c else s)

/-! ## Random numbers (R254) -/

/-- An output of the TRNG: `ok`, its raw bits passed the tests. The third failure in a row stops it. -/
def State.trngOutput (s : State) (ok : Bool) : State :=
  if s.vlt.stopped then s
  else if ok then
    let r := s.draws (8 - s.vlt.words.length)
    ((r.2.mVlt (fun v => { v with words := v.words ++ r.1, fails := 0 })).fclr F.VLT_TRNG_STAT_FAIL).trngShow
  else
    let n := s.vlt.fails + 1
    let s := s.mVlt (fun v => { v with fails := n })
    if n < 3 then s
    else
      let s := s.mVlt (fun v => { v with stopped := true })
      if s.trngFail then s else (s.fset F.VLT_TRNG_STAT_FAIL).ash3 0x0028 0 0 0

/-- A failed source is restarted. -/
def State.trngRestart (s : State) : State :=
  if s.vlt.stopped then s.mVlt (fun v => { v with stopped := false, fails := 0 }) else s

/-- A read of VLT_TRNG_DATA: a word, removed; zero where none is ready. -/
def State.trngTake (s : State) : Word × State := match s.vlt.words with
  | w :: t => (w, (s.mVlt (fun v => { v with words := t })).trngShow)
  | [] => (0, s)

/-! ## Life cycle (R257-R262) -/

/-- An LCS command ends. -/
def State.lcsEnd (s : State) (code : Nat) : State :=
  (s.fp F.LCS_CMD_RES_STATE (if code = 0 then 2 else 3)).fp F.LCS_CMD_RES_CODE code

/-- The octets an argument address holds; too few where they cannot be read. -/
def State.lcsArg (s : State) (who : Nat) (sec : Bool) (a n : Nat) : List Byte :=
  if s.busOk who sec a n false then s.bytes a n else []

/-- A token's check, which consumes the challenge. -/
def State.tokenUse (s : State) (t : List Byte) (type : Nat) (arg : List Byte) : Nat × State := (s.tokenCheck t type arg, s.newChallenge)

/-- How many bits of step 2 are blown: all three where nothing cuts it short. -/
def blownBy : Option LcsCut → Nat
  | none => 3
  | some (.power n) => n
  | some (.reset n _ _) => n

/-- Step 1 of a transition (R259): the alarm, the keys, and the wipe of main SRAM, ember memory with its registers, and link RAM. -/
def State.lcsWipe (s : State) : State :=
  let s := (s.rset R.VLT_ALARM 4).keysErase
  let s := ((s.wipe 0x20000000 0x20180000).wipe 0x28000000 0x28008000).wipe 0x30040000 0x30080000
  (s.regsReset (fun a => a / 0x1000 == 0x40003)).mAsh (fun a => { a with buf := [], wiped := true })

/-- A transition of Table 7-11 (R259): step 1, then the fuses are blown, and the cold reset with cause ALARM follows. `cut`: power fails, or another
reset is taken, when so many bits of step 2 have been blown; where at least one is, R257 completes the transition at the next start. -/
def State.lcsMove (s : State) (dst : Nat) (cut : Option LcsCut) : State :=
  let s := s.lcsWipe
  let n := blownBy cut
  let s := s.mFuse (fun f => match dst with
    | 1 => { f with fo := max f.fo (min 2 n) }
    | 2 => { f with dbg := max f.dbg (min 2 n) }
    | _ => { f with rootKill := f.rootKill || decide (0 < n), ret := max f.ret (min 2 (n - 1)) })
  match cut with
  | some (.power _) => s.powerLoss
  | some (.reset _ cause cold) => s.resetNow cause cold
  | none => s.resetNow 13 true

/-- SET_OWNER. -/
def State.setOwner (s : State) (sec : Bool) (h : List Byte) : State :=
  if s.lifeCycle ≠ lcMfg ∨ s.fb F.LCS_STATE_OWNER_SET ∨ sec = false then s.lcsEnd 1
  else if s.supplyOk = false then s.lcsEnd 5
  else if h.length ≠ 32 then s.lcsEnd 2
  else
    let ws := (List.range 8).map (fun i => w32 (ofBe ((h.drop (4 * i)).take 4)))
    let s := s.mFuse (fun f => { f with ownerHash := some ws })
    ((s.forEach (List.range 8) (fun s i => s.wr (R.LCS_OWNER_HASHn i) (nth ws i 0))).fset F.LCS_STATE_OWNER_SET).lcsEnd 0

/-- OPEN_FIELD. -/
def State.openField (s : State) (sec : Bool) (cut : Option LcsCut) : State :=
  if s.lifeCycle ≠ lcMfg ∨ s.fb F.LCS_STATE_OWNER_SET = false ∨ sec = false then s.lcsEnd 1
  else if s.supplyOk = false then s.lcsEnd 5
  else (s.lcsEnd 0).lcsMove 1 cut

/-- SEAL. -/
def State.seal (s : State) (t : List Byte) (cut : Option LcsCut) : State :=
  if s.lifeCycle ≠ lcOpen then s.lcsEnd 1
  else if s.supplyOk = false then s.lcsEnd 5
  else
    let r := s.tokenUse t 2 zeroArg
    if r.1 = 0 then (r.2.lcsEnd 0).lcsMove 2 cut else r.2.lcsEnd r.1

/-- RETIRE. -/
def State.retire (s : State) (sec : Bool) (t : List Byte) (cut : Option LcsCut) : State :=
  if s.lifeCycle = lcRetired ∨ (s.lifeCycle = lcMfg ∧ sec = false) then s.lcsEnd 1
  else if s.supplyOk = false then s.lcsEnd 5
  else if s.lifeCycle = lcMfg then (s.lcsEnd 0).lcsMove 3 cut
  else
    let r := s.tokenUse t 3 zeroArg
    if r.1 = 0 then (r.2.lcsEnd 0).lcsMove 3 cut else r.2.lcsEnd r.1

/-- The token window's octets. -/
def State.tokenWindow (s : State) : List Byte := (List.range 48).flatMap (fun i => beBytes 4 (s.rd (R.LCS_TOKENn i)).toNat)

/-- DEBUG_OPEN (R262, R263); the port stays closed in the OPTFAIL state (R315). -/
def State.debugOpen (s : State) (t : List Byte) : State :=
  if s.lifeCycle = lcSealed ∨ s.lifeCycle = lcRetired ∨ s.optFail then s.lcsEnd 1
  else
    let r := s.tokenUse t 1 zeroArg
    if r.1 = 0 then
      let s := r.2.lcsEnd 0
      if s.fb F.LCS_DBG_OPEN then s else (s.fset F.LCS_DBG_OPEN).ash3 0x0029 0 0 0
    else r.2.lcsEnd r.1

/-- NEW_CHALLENGE. -/
def State.challengeNew (s : State) : State := if s.trngFail then s.lcsEnd 6 else s.newChallenge.lcsEnd 0

/-- An LCS operation with the octets of its argument: the owner hash or a token. One that Table 7-16 does not list ends with CODE STATE. -/
def State.lcsDo (s : State) (sec : Bool) (op : Nat) (arg : List Byte) (cut : Option LcsCut) : State := match op with
  | 1 => s.setOwner sec (arg.take 32)
  | 2 => s.openField sec cut
  | 3 => s.seal arg cut
  | 4 => s.retire sec arg cut
  | 5 => s.debugOpen arg
  | 6 => s.challengeNew
  | _ => s.lcsEnd 1

/-- GO of LCS_CMD: the argument lies at LCS_CMD_ARG, or in the token window for DEBUG_OPEN. -/
def State.lcsGo (s : State) (who : Nat) (sec : Bool) (op : Nat) (cut : Option LcsCut) : State :=
  let a := (s.rd R.LCS_CMD_ARG).toNat
  let n := if op = 1 then 32 else 192
  let arg := if op = 5 then s.tokenWindow else s.lcsArg who sec a n
  (if op = 1 ∨ op = 3 ∨ op = 4 then s.busSeen who sec a n else s).lcsDo sec op arg cut

/-- A write of LCS_CMD. -/
def State.lcsWrite (s : State) (who : Nat) (sec : Bool) (v : Word) (cut : Option LcsCut) : State :=
  let s := s.regStore R.LCS_CMD v
  if wBit v 31 then s.lcsGo who sec (wField v 27 24) cut else s

/-- A challenge expires 60 s after it was drawn (R260). -/
def State.challengeExpire (s : State) : State := s.fclr F.LCS_DBG_CHAL_VALID

end Sys2Proof.Machine
end

