-- ==== Sys2Proof/Machine/Pilot.lean ====
section
/-! DEFINITION. What waits for another block before it answers, on the ports and in the Pilot service (R384, R423), and the Pilot service
itself: messages, the transaction cache, requests and responses (R381-R384; Tables 12-9, 12-10). -/

namespace Sys2Proof.Machine

/-! ## Waiting on another block -/

/-- What a wait comes to: it goes on, or the body of the answer. -/
inductive WaitRes where
  | still (on : WaitOn)
  | done (body : List Byte)
  deriving DecidableEq, Repr

/-- UPD_RES.CODE and UPD_NEXT, as an image command answers them (Table 14-6). -/
def State.updBody (s : State) : List Byte := leBytes 1 (s.fg (CsId.upd).code) ++ leBytes 4 (s.rd R.UPD_NEXT).toNat

/-- The reader's own read of UPD_RES (R163, R355). -/
def State.updReadBack (s : State) : State := if s.upd.keep then s else s.csRelease .upd (s.fg (CsId.upd).writer)

/-- A request to the Ash read port as `who`; none where the port is held (R402). -/
def State.ashAsk (s : State) (who q : Nat) : Option State :=
  if s.csOk .ashRd who true then
    some ((((s.csTake .ashRd who true).wr R.ASH_RD_SEQ (w32 q)).csRun .ashRd).mAsh (fun x => { x with readReq := some (q % 0x100000000) }))
  else none

/-- The record the read port holds: 32 octets, zero where it found none. -/
def State.ashHeld (s : State) : List Byte :=
  if s.fg F.ASH_RD_STAT_RESULT = 0 then (List.range 8).flatMap (fun i => leBytes 4 (s.rd (R.ASH_RDn i)).toNat) else List.replicate 32 0

/-- The next record, or the whole answer: `code` puts each record's result code after it. -/
def State.ashStep (s : State) (next left : Nat) (got : List Byte) (code : Bool) (again : Nat → Nat → List Byte → WaitOn) (head : List Byte) : WaitRes × State :=
  if s.csBusy .ashRd then (.still (again next left got), s)
  else
    let who := s.fg (CsId.ashRd).writer
    let got := got ++ s.ashHeld ++ (if code then leBytes 1 (s.fg F.ASH_RD_STAT_RESULT) else [])
    let s := s.csRelease .ashRd who
    if left ≤ 1 then (.done (head ++ got), s)
    else match s.ashAsk who (next + 1) with
      | some s => (.still (again (next + 1) (left - 1) got), s)
      | none => (.done (head ++ got), s)

/-- The result octet of a Pilot image operation (R384). -/
def State.pilotCode (s : State) : Nat := if s.fg (CsId.upd).code = 0 then 0 else 0x10 + s.fg (CsId.upd).code

/-- The response body of a Pilot image operation (Table 12-10). -/
def State.pilotUpd (s : State) (ty : Nat) : List Byte :=
  leBytes 1 s.pilotCode ++ (if ty ≤ 5 then leBytes 4 (s.rd R.UPD_NEXT).toNat else leBytes 1 (s.fg (CsId.upd).code))

/-- A wait is looked at. -/
def State.waitStep (s : State) (on : WaitOn) : WaitRes × State := match on with
  | .upd => if s.csBusy .upd then (.still on, s) else (.done s.updBody, s.updReadBack)
  | .knd => if s.csBusy .knd then (.still on, s) else (.done (leBytes 1 (s.fg (CsId.knd).code)), s.csRelease .knd ownSvc)
  | .clr => match s.ash.clr with
    | some c =>
      if c.failed then (.done [6], s.mAsh (fun x => { x with clr := none }))
      else if c.done then (.done [0], s)
      else (.still on, s)
    | none => (.done [0], s)
  | .cfg => if s.upd.arming || s.fg SetId.config.state == 0 then (.still on, s) else (.done (leBytes 4 (s.rd R.UPD_CFG_COMMIT).toNat), s)
  | .ash n l g => s.ashStep n l g true .ash []
  | .pilUpd ty => if s.csBusy .upd then (.still on, s) else (.done (s.pilotUpd ty), s.updReadBack)
  | .pilAsh n l g => s.ashStep n l g false .pilAsh [0]

/-! ## Requests (Table 12-10) -/

/-- Pilot result octets. -/
abbrev pilOk : Nat := 0
/-- STALE. -/
abbrev pilStale : Nat := 1
/-- BAD_REQUEST. -/
abbrev pilBad : Nat := 2
/-- BUSY. -/
abbrev pilBusy : Nat := 3

/-- The lamp state. -/
def State.lampState (s : State) : List Byte := leBytes 4 (s.rd R.LUM_STAT).toNat

/-- UPD_STAT with its live bits. -/
def State.updStatNow (s : State) : Word := wSetField (wSetField (s.rd R.UPD_STAT) 23 23 (b2n s.uMoving)) 22 22 (b2n s.uLow)

/-- The STATUS body. -/
def State.statusBody (s : State) : List Byte :=
  ([s.rd R.LCS_STATE, s.rd R.RST_CAUSE, s.rd R.KND_BOOT, s.updStatNow, s.rd R.UPD_NEXT, w32 (s.hdr 0 4), w32 (s.hdr 1 4), s.rd R.HRT_STAT,
    w32 s.rtc.wcMs, w32 (s.rtc.wcEpoch * 0x10000 + s.rtc.wcMs / 0x100000000)].flatMap (fun w => leBytes 4 w.toNat)) ++ s.lampState

/-- What a request comes to: a body with its result octet first and a reset that follows the response, or a wait. -/
inductive PilotOut where
  | done (body : List Byte) (reset : Option Bool)
  | wait (on : WaitOn)
  deriving DecidableEq, Repr

/-- A refused request. -/
def PilotOut.fail (n : Nat) : PilotOut := .done (leBytes 1 n) none

/-- An image operation given as PILOT. -/
def State.pilotGive (s : State) (ty op kind off : Nat) (data : List Byte) : PilotOut × State := match s.updGive ownPilot op kind off data with
  | some s => (.wait (.pilUpd ty), s)
  | none => (.fail pilBusy, s)

/-- A request is executed; in RETIRED only STATUS, REBOOT and ASH_READ are offered (R261). -/
def State.pilotExec (s : State) (ty : Nat) (b : List Byte) : PilotOut × State :=
  let n := b.length
  if s.lifeCycle = lcRetired ∧ !([1, 3, 8].contains ty) then (.fail pilBad, s)
  else match ty with
    | 1 => if n = 0 then (.done (0 :: s.statusBody) none, s) else (.fail pilBad, s)
    | 2 =>
      if n = 3 then
        let s := s.lampSet (oct b 0) (oct b 1) (oct b 2)
        (.done (0 :: s.lampState) none, s)
      else (.fail pilBad, s)
    | 3 => if n = 1 then (.done [0] (some (oct b 0 % 2 == 1)), s.fp F.UPD_BOOTFAIL_COUNT 0) else (.fail pilBad, s)
    | 4 => if n = 1 then s.pilotGive 4 (if oct b 0 % 2 = 1 then 2 else 1) (oct b 0 / 2 % 2) 0 [] else (.fail pilBad, s)
    | 5 => if 260 ≤ n ∧ n ≤ 1540 then s.pilotGive 5 3 s.uKind (octs b 0 4) (b.drop 4) else (.fail pilBad, s)
    | 6 => if n = 0 then s.pilotGive 6 4 s.uKind 0 [] else (.fail pilBad, s)
    | 7 => if n = 0 then s.pilotGive 7 6 s.uKind 0 [] else (.fail pilBad, s)
    | 8 =>
      if n = 5 ∧ 1 ≤ oct b 4 ∧ oct b 4 ≤ 40 then match s.ashAsk ownPilot (octs b 0 4) with
        | some s => (.wait (.pilAsh (octs b 0 4) (oct b 4) []), s)
        | none => (.fail pilBusy, s)
      else (.fail pilBad, s)
    | _ => (.fail pilBad, s)

/-! ## Messages (Table 12-9) -/

/-- A Pilot message: its fields and whether its tag is right. -/
structure PilotMsg where
  kind : Nat
  origin : Nat
  target : Nat
  txn : Nat
  body : List Byte
  ok : Bool
  deriving DecidableEq, Repr

/-- The Pilot key's tag over a message without route, hops and route list. -/
def State.pilotTag (s : State) (m : List Byte) : List Byte := (cmac (s.key 3 0).active m).take 8

/-- A payload read as a Pilot message; none where its lengths do not fit: a route has at most 8 addresses (Table 12-9). -/
def State.pilotParse (s : State) (p : List Byte) : Option PilotMsg :=
  let at' := 12 + 2 * (oct p 10 % 16)
  let n := octs p at' 2
  if 8 < oct p 10 % 16 ∨ p.length < at' + 2 ∨ p.length ≠ at' + 2 + n + 8 then none
  else
    let body := (p.drop (at' + 2)).take n
    let head := p.take 10 ++ (p.drop at').take (2 + n)
    some ⟨oct p 1, octs p 2 2, octs p 4 2, octs p 6 4, body, p.drop (at' + 2 + n) == s.pilotTag head⟩

/-- The payload of a response (R383: hops 0, no route list). -/
def State.pilotReply (s : State) (r : PilotReq) (body : List Byte) : List Byte :=
  let a := leBytes 1 s.hrt.cfg.upd.pilotDisp ++ leBytes 1 (0xC0 + r.ty) ++ leBytes 2 r.origin ++ leBytes 2 s.hrt.cfg.short ++ leBytes 4 r.txn
  let b := leBytes 2 body.length ++ body
  a ++ [0, 0] ++ b ++ s.pilotTag (a ++ b)

/-- The response goes out on TXQ15 towards the timeline A time source, secured as the request was: the descriptor that carries it; none where
there is no time source, buffer or place in the queue. -/
def State.pilotSend (s : State) (r : PilotReq) (body : List Byte) : Option Nat × State :=
  let m := parseMhr r.hdr
  let k := s.fg (F.HRT_Qn_PROD_IDX 15)
  match s.tsNow .a, s.freeBufs with
  | some n, b :: rest =>
    if rest.length < s.fg F.HRT_BUF_FREE_RX_RESERVE ∨ (k + 128 - s.fg (F.HRT_Qn_RECL_IDX 15)) % 128 = 64 ∨ s.fg (F.HRT_Qn_CFG_OWNER 15) ≠ ownPilot then (none, s)
    else
      let aux := if m.sec then (r.hdr.take m.auxEnd).drop m.addrEnd else []
      let f := s.pilotFrame m aux n s.hrt.seqNo (s.pilotReply r body)
      let s := (s.mHrt (fun h => { h with seqNo := (h.seqNo + 1) % 256 })).setHolder b ownPilot
      let s := s.putBytes (bufAddr b + 64) f
      let s := s.sw (descAddr 15 (k % 64)) (w32 (b * 0x1000000 + b2n m.sec * 0x8000 + f.length))
      let s := s.sw (descAddr 15 (k % 64) + 4) (w32 (n * 0x200000 + s.mg (N.LKEY n) % 8 * 0x40000 + m.level * 0x8000 + 3 * 0x800))
      (some (k % 64), s.prodWrite 15 (k + 1))
  | _, _ => (none, s)

/-! ## The transaction cache (R384) -/

/-- A cache entry's address. -/
def pilEntry (e : Nat) : Nat := 0x28003800 + 1536 * e

/-- The entry passes its CRC. -/
def State.pilValid (s : State) (e : Nat) : Bool := s.ld (pilEntry e + 1532) 4 == crc32 (s.bytes (pilEntry e) 1532)

/-- When an entry was last served; zero for a discarded one. -/
def State.pilServed (s : State) (e : Nat) : Nat := if s.pilValid e then s.ld (pilEntry e + 1528) 4 + 1 else 0

/-- The entry of an origin. -/
def State.pilFind (s : State) (origin : Nat) : Option Nat := (List.range 4).find? (fun e => s.pilValid e && s.ld (pilEntry e) 2 == origin)

/-- The entry an origin takes: its own, else the one least recently served. -/
def State.pilTake (s : State) (origin : Nat) : Nat :=
  (s.pilFind origin).getD ([1, 2, 3].foldl (fun b e => if s.pilServed e < s.pilServed b then e else b) 0)

/-- An entry is written with its CRC. -/
def State.pilPut (s : State) (e origin txn : Nat) (body : List Byte) : State :=
  let n := ([0, 1, 2, 3].map s.pilServed).foldl max 0
  let b := body.take 1520
  let o := leBytes 2 origin ++ leBytes 4 txn ++ leBytes 2 b.length ++ b ++ List.replicate (1520 - b.length) 0 ++ leBytes 4 n
  s.putBytes (pilEntry e) (o ++ leBytes 4 (crc32 o))

/-- The cached response of an entry. -/
def State.pilCached (s : State) (e : Nat) : List Byte := s.bytes (pilEntry e + 8) (s.ld (pilEntry e + 6) 2)

/-! ## Serving RXQ15 -/

/-- The Pilot service runs on core A (R381). -/
def State.pilotRuns (s : State) : Bool := s.coreA.pilot && s.coreRuns .a && decide (s.pwr.state = .run) && s.fb F.KND_STAT_DONE

/-- A response is cached and sent; a reset that follows it is noted. -/
def State.pilotAnswer (s : State) (r : PilotReq) (body : List Byte) (reset : Option Bool) : State :=
  let s := s.pilPut (s.pilTake r.origin) r.origin r.txn body
  let x := s.pilotSend r body
  let pend := match reset with
    | some c => some (c, x.1)
    | none => (x.2.pil.reset.map (fun p => (p.1, x.1)))
  x.2.mPil (fun p => { p with wait := none, reset := pend })

/-- A message is dropped and counted (R384). -/
def State.pilotDrop (s : State) : State := s.mPil (fun p => { p with drops := p.drops + 1 })

/-- A request whose tag is right, judged by its transaction number. -/
def State.pilotRequest (s : State) (r : PilotReq) (body : List Byte) : State :=
  match s.pilFind r.origin with
  | some e =>
    let t := s.ld (pilEntry e + 2) 4
    if t = r.txn then ((s.pilPut e r.origin r.txn (s.pilCached e)).pilotSend r (s.pilCached e)).2
    else if r.txn < t then (s.pilotSend r [1]).2
    else match s.pilotExec r.ty body with
      | (.done b c, s) => s.pilotAnswer r b c
      | (.wait on, s) => s.mPil (fun p => { p with wait := some { r with on := on } })
  | none => match s.pilotExec r.ty body with
    | (.done b c, s) => s.pilotAnswer r b c
    | (.wait on, s) => s.mPil (fun p => { p with wait := some { r with on := on } })

/-- A request that came by the service port is being served. -/
def State.pilotTaken (s : State) : Bool := match s.svc.port.wait with
  | some (_, (_, .pilUpd _)) => true
  | some (_, (_, .pilAsh _ _ _)) => true
  | _ => false

/-- The oldest message of RXQ15, where the service can take one: its index. -/
def State.pilotHead (s : State) : Option Nat :=
  let k := s.fg (F.HRT_Qn_RECL_IDX 31)
  if s.pilotRuns && (s.pil.wait.isNone && s.pil.reset.isNone && !s.pilotTaken) && s.fb (F.VLT_PGn_SLOTs_VALID 3 0) && s.fg (F.HRT_Qn_CFG_OWNER 31) == ownPilot &&
      s.fg (F.HRT_Qn_PROD_IDX 31) != k && s.mb (D.VERDICT 31 (k % 64)) then some k else none

/-- The service takes the oldest message of RXQ15 where its TYPE is `ty`; a frame that is not secured carries none (R382). A message that is no request, or of a TYPE Table 12-10 does not list,
is taken whichever TYPE is served. -/
def State.pilotServe (s : State) (ty : Nat) : State := match s.pilotHead with
  | none => s
  | some k =>
    let i := k % 64
    let o := s.bytes (bufAddr (s.mg (D.BUF 31 i)) + 64) (s.mg (D.LEN 31 i))
    let m := parseMhr o
    let msg := s.pilotParse (o.drop (payOff m o))
    let good := msg.filter (fun x => m.sec && x.ok && s.mg (D.CODE 31 i) == 0 && decide (x.kind < 0x40))
    match good with
    | none => (s.reclWrite 31 (k + 1)).pilotDrop
    | some x =>
      if x.kind ≠ ty ∧ 1 ≤ x.kind ∧ x.kind ≤ 8 then s
      else (s.reclWrite 31 (k + 1)).pilotRequest ⟨x.origin, x.txn, x.kind, o.take (payOff m o), .pilUpd x.kind⟩ x.body

/-- What the service waits for is looked at; a reset follows once the response that precedes it has been sent (R325, R384). -/
def State.pilotPump (s : State) : State :=
  let s := match s.pil.wait with
    | none => s
    | some r => match s.waitStep r.on with
      | (.still on, s) => s.mPil (fun p => { p with wait := some { r with on := on } })
      | (.done b, s) => s.pilotAnswer r b none
  match s.pil.wait, s.pil.reset with
  | none, some (c, none) => (s.mPil (fun p => { p with reset := none })).resetWant 10 c
  | none, some (c, some i) =>
    if s.mg (D.ST 15 i) = 1 ∨ s.mg (D.ST 15 i) = 2 then s else (s.mPil (fun p => { p with reset := none })).resetWant 10 c
  | _, _ => s

end Sys2Proof.Machine
end

