-- ==== Sys2Proof/Machine/PortCore.lean ====
section
/-! DEFINITION. What both ports share: responses with their cache and tags, error counts, the end of a service session, and the service
command that waits for another block (R406, R409, R410, R420, R421, R423). -/

namespace Sys2Proof.Machine

/-- STATUS octets (Table 14-2). -/
abbrev stOk : Nat := 0
/-- BAD_CODE. -/
abbrev stBadCode : Nat := 1
/-- BAD_LEN. -/
abbrev stBadLen : Nat := 2
/-- FAULT. -/
abbrev stFault : Nat := 3
/-- NO_BUFFER. -/
abbrev stNoBuffer : Nat := 4
/-- REFUSED. -/
abbrev stRefused : Nat := 5
/-- STATE. -/
abbrev stState : Nat := 6
/-- AUTH. -/
abbrev stAuth : Nat := 7
/-- BUSY. -/
abbrev stBusy : Nat := 8

/-- SVC_STAT.SESSION. -/
def State.session (s : State) : Nat := s.fg F.SVC_STAT_SESSION

/-- The current challenge, octet 0 in CHAL0 [31:24]. -/
def State.chalNow (s : State) : List Byte := (List.range 4).flatMap (fun i => beBytes 4 (s.rd (R.LCS_CHALn i)).toNat)

/-- A port's framing. -/
def State.port (s : State) (svc : Bool) : PortSt := if svc then s.svc.port else s.hst.port

/-- A port's framing changes. -/
def State.mPort (s : State) (svc : Bool) (f : PortSt → PortSt) : State :=
  if svc then s.mSvc (fun x => { x with port := f x.port }) else s.mHst (fun x => { x with port := f x.port })

/-! ## Frames (R406) -/

/-- One octet of CRC-16: polynomial 0x1021, no reflection. -/
def crc16Step (c : Nat) (b : Byte) : Nat :=
  (List.range 8).foldl (fun c _ => if 0x8000 ≤ c then Nat.xor (2 * c % 0x10000) 0x1021 else 2 * c) (Nat.xor c (256 * b.toNat))

/-- HCRC's CRC-16, from 0xFFFF. -/
def crc16 (l : List Byte) : Nat := l.foldl crc16Step 0xFFFF

/-- SOF of a port. -/
def portSof (svc : Bool) : Nat := if svc then 0xC8 else 0xC7

/-- Octets 0 to 4 of a frame. -/
def frameHead (svc : Bool) (type seq len : Nat) : List Byte := leBytes 1 (portSof svc) ++ leBytes 1 type ++ leBytes 1 seq ++ leBytes 2 len

/-- The octets of a frame (Table 14-1): HCRC after the head, PCRC after a payload that is not empty. -/
def frameOctets (svc : Bool) (type seq : Nat) (pay : List Byte) : List Byte :=
  let h := frameHead svc type seq pay.length
  h ++ leBytes 2 (crc16 h) ++ pay ++ (if pay.isEmpty then [] else leBytes 4 (crc32 pay))

/-- The octets of a device frame: DIR 1, and NOTE of a notification. -/
def PortFrame.octets (f : PortFrame) (svc : Bool) : List Byte := frameOctets svc (0x80 + 0x40 * b2n f.note + f.code % 64) f.seq f.body

/-- The session tag of a frame (R420): `dir` 0 to the device, 1 from it; `type`, `seq` and `len` are the frame's octets 1–4. -/
def State.portTag (s : State) (dir ctr type seq len : Nat) (pay : List Byte) : List Byte :=
  (cmac (s.key 4 1).active (leBytes 1 dir ++ leBytes 4 ctr ++ frameHead true type seq len ++ pay)).take 8

/-- A device frame is queued and becomes the cached response. -/
def State.portQueue (s : State) (svc : Bool) (f : PortFrame) : State :=
  s.mPort svc (fun p => { p with cache := some f, wait := none, out := p.out ++ [f] })

/-- The response to a command (R409, R410), with its tag in a MAC session. -/
def State.portRespond (s : State) (svc : Bool) (seq code st : Nat) (body : List Byte) : State :=
  let pay := leBytes 1 st ++ body
  if svc && s.session == 3 then
    let tag := s.portTag 1 s.svc.txCtr (0x80 + code) seq (pay.length + 8) pay
    (s.mSvc (fun x => { x with txCtr := (x.txCtr + 1) % 0x100000000 })).portQueue true ⟨false, seq, code, pay ++ tag⟩
  else s.portQueue svc ⟨false, seq, code, pay⟩

/-- The kinds of error a port counts, as the bits of its event register. -/
inductive PortErr where
  | header
  | payload
  | oversize
  | overrun
  deriving DecidableEq, Repr

/-- An error is counted, and on the host port noted in HST_EVT (Tables 14-7, 14-8). -/
def State.portErr (s : State) (svc : Bool) (e : PortErr) : State :=
  let up (f : Fld) : Fld := if svc then ⟨R.SVC_ERR_CNT, f.hi, f.lo⟩ else f
  let evt (s : State) (n : Nat) : State := if svc then s else s.rset R.HST_EVT n
  match e with
  | .header => evt (s.fsat (up F.HST_ERR_CNT_HDR)) 3
  | .payload => evt (s.fsat (up F.HST_ERR_CNT_PCRC)) 2
  | .oversize => evt (s.fsat (up F.HST_ERR_CNT_OVSZ)) 1
  | .overrun => evt (s.fsat (up F.HST_ERR_CNT_OVRN)) 0

/-- What the part drives on SVC_TX (Table 17-4): high in RUN, with the bits of a frame that goes out a free value (log 91); nothing elsewhere, where the pin
is high-impedance with its pull-up. -/
def State.svcTx (s : State) : Option Bool :=
  if s.pwr.state ≠ .run ∨ s.fb F.KND_STAT_DONE = false then none
  else some (s.svc.port.out.isEmpty || wBit (Config.pinWave 64 s.free) 0)

/-- On UART the device frames that wait have been sent, where flow control lets them go, and the reset that a response announced is requested
(R325, R413); on SPI the host clocks them out (R412). -/
def State.uartSent (s : State) (svc : Bool) : State :=
  let p := s.port svc
  if (!svc && (s.fg F.HST_STAT_MODE != 1 || s.hostStopped)) || (p.out.isEmpty && p.reset.isNone) then s
  else
    let s := s.mPort svc (fun p => { p with out := [], reset := none })
    match p.reset with
    | some cold => s.resetWant (if svc then 12 else 11) cold
    | none => s

/-- Both ports have sent what they can as time passes. -/
def State.portsSent (s : State) : State := (s.uartSent false).uartSent true

/-- LEN lies outside CODE's range (R407): BAD_LEN is answered and counted. The frame is no command, so the previous one keeps its cached response. -/
def State.portBadLen (s : State) (svc : Bool) (seq code : Nat) : State :=
  ((s.portErr svc .oversize).portRespond svc seq code stBadLen []).mPort svc (fun p => { p with cache := (s.port svc).cache })

/-! ## Sessions -/

/-- A session ends (R418, R421): page 4 is wiped, a challenge the session drew is consumed, the rate returns. -/
def State.svcEnd (s : State) : State :=
  let s := s.pageWipe 4
  let s := if s.fb F.LCS_DBG_CHAL_VALID && (!s.svc.drew.isEmpty && s.svc.drew == s.chalNow) then s.newChallenge else s
  let s := (s.fset F.SVC_EVT_CLOSED).fp F.SVC_STAT_SESSION 0
  (s.wr R.SVC_BAUD (w32 s.svcBaud)).mSvc (fun x => { x with rxCtr := 0, txCtr := 0, tagFails := 0, drew := [] })

/-- A session that fell silent for 120 s ends. -/
def State.sessionTimeout (s : State) : State := if s.session = 0 then s else s.svcEnd

/-- A body that ends a wait goes out as the response, unless the session has ended meanwhile. -/
def State.svcAnswer (s : State) (seq code : Nat) (body : List Byte) : State :=
  if s.session = 0 then s.mPort true (fun p => { p with wait := none }) else s.portRespond true seq code stOk body

/-- What the service port waits for is looked at. -/
def State.svcPump (s : State) : State := match s.svc.port.wait with
  | none => s
  | some (seq, (code, on)) => match s.waitStep on with
    | (.still on, s) => s.mPort true (fun p => { p with wait := some (seq, (code, on)) })
    | (.done body, s) => s.svcAnswer seq code body

/-- The ports' waits and the Pilot service's move on. -/
def State.waits (s : State) : State :=
  let s := if s.svc.port.wait.isSome then s.svcPump else s
  if s.pil.wait.isSome || s.pil.reset.isSome then s.pilotPump else s

end Sys2Proof.Machine
end

