-- ==== Sys2Proof/Machine/Settle.lean ====
section
/-! DEFINITION. The option writer (R318, R319), and what follows a command at once without being commanded: the flash controller chooses its
next step and tells requesters of ended commands, what waited on them moves on, gated cores wake at an interrupt, deferred resets are
taken, and the host port tells of changed events. -/

namespace Sys2Proof.Machine

/-! ## The option writer -/

/-- Tags of its flash commands: the erase and the program of a sector. -/
abbrev tOptErase : Nat := 1
/-- The program of sector OPT0 or OPT1. -/
abbrev tOptProg : Nat := 2

/-- The pages of an option sector that are programmed. -/
def InfoArea.optPages (i : InfoArea) (k : Nat) : Nat := if k = 0 then i.opt0.length else i.opt1.length

/-- The record goes into a sector: an erase comes first where no page is free (R319). -/
def State.optSector (s : State) (k : Nat) : State := match s.rst.opt with
  | none => s
  | some r =>
    if 16 ≤ s.info.optPages k then s.flcEnqueue reqKnd (.optErase k) false tOptErase
    else s.flcEnqueue reqKnd (.optProgram k r) false tOptProg

/-- The staged user words, as octets with each word's most significant octet first (R318). -/
def State.optStaged (s : State) : List Byte := (List.range 8).flatMap (fun i => beBytes 4 (s.rd (R.KND_OPT_STGm i)).toNat)

/-- What decides a request of the option writer (R318): 1 STATE, 5 SUPPLY, a token's code, 0 where it is accepted. -/
def State.optCode (s : State) (who : Nat) (token : List Byte) : Nat :=
  let lc := s.lifeCycle
  if lc = lcRetired ∨ (lc = lcMfg ∧ !(isCore who || who == ownSvc)) then 1
  else if s.supplyOk = false then 5
  else if lc = lcMfg then 0
  else s.tokenCheck token 4 (sha256 s.optStaged)

/-- GO of the option writer by `who` with the octets its token address holds. -/
def State.optGo (s : State) (who : Nat) (token : List Byte) : State :=
  let code := s.optCode who token
  let s := s.csRun .knd
  let s := if s.lifeCycle = lcOpen ∨ s.lifeCycle = lcSealed then (if code = 1 ∨ code = 5 then s else s.newChallenge) else s
  if code ≠ 0 then s.csEnd .knd code
  else
    let cur := s.info.optCurrent
    let f := (cur.map (fun p => p.2.f)).getD (List.replicate 8 0)
    let n := (cur.map (fun p => p.2.seq)).getD 0
    let u := (List.range 8).map (fun i => s.rd (R.KND_OPT_STGm i))
    (s.mRst (fun r => { r with opt := some ⟨n + 1, f, u⟩ })).optSector 0

/-- A flash command of the option writer ended (R319). -/
def State.kndFlashEnd (s : State) (c : FlashCmd) (code : Nat) : State :=
  if code ≠ 0 then (s.mRst (fun r => { r with opt := none })).csEnd .knd 6
  else match c.op, s.rst.opt with
    | .optErase k, some r => s.flcEnqueue reqKnd (.optProgram k r) false tOptProg
    | .optProgram k _, some _ => if k = 0 then s.optSector 1 else (s.mRst (fun r => { r with opt := none })).csEnd .knd 0
    | _, _ => s

/-! ## Flash -/

/-- An ended command's requester is told. -/
def State.flashEnded (s : State) (c : FlashCmd) (code : Nat) : State :=
  if c.tag = 99 then s
  else if c.req = reqHearth then s.rsvFlashEnd c code
  else if c.req = reqUpd then s.updFlashEnd c code
  else if c.req = reqAsh then s.ashFlashEnd c code
  else if c.req = reqKnd then s.kndFlashEnd c code
  else s.slotEnd c code

/-- The controller picks steps, and requesters of ended commands are told, until nothing more follows at once. -/
def State.flashRun (s : State) : Nat → State
  | 0 => s
  | n + 1 =>
    let s := s.flcKick
    match s.flc.ended with
    | [] => s
    | e :: t => ((s.mFlc (fun f => { f with ended := t })).flashEnded e.1 e.2).flashRun n

/-! ## Full-band listening stops and starts (R171, R194, R216) -/

/-- Groups in SEARCH or RESERVED of a radio are released; LOCKED ones go on (R216). -/
def State.drainUnits (s : State) (t : Tl) : State :=
  s.forEach ((s.groups t).filter (fun g => decide (s.uSt t g < 3))) (fun s g =>
    (if s.uSt t g = 2 then s.muteEnd t g else s).groupFree t g)

/-- A unit of the radio is LOCKED. -/
def State.anyLocked (s : State) (t : Tl) : Bool := (List.range (unitCount t)).any (fun u => s.uSt t u == 3)

/-- While full-band listening drains: once no unit is LOCKED the radio takes the keep-warm return state; DRAIN ends with the profile. -/
def State.drainEnd (s : State) (t : Tl) (gap : Nat) : State :=
  if s.fb (t.f F.RFA_FBL_CFG_DRAIN) = false ∨ s.anyLocked t then s
  else
    let s := if s.radioState t = rFbl then s.radioReturn t gap else s
    if s.stoked t then s else s.fclr (t.f F.RFA_FBL_CFG_DRAIN)

/-- The stops of R216 at a boundary, under R128 whatever the radio is doing, and under R129 where it listens still; and the end of an interim. -/
def State.drainCheck (s : State) (t : Tl) (gap : Nat) : State :=
  let d := t.f F.RFA_FBL_CFG_DRAIN
  let interim := s.fb F.HRT_PROF_INTERIM
  if s.stoked t && !interim then (if s.fb d then s.fclr d else s)
  else
    let stop := s.fb (t.f F.RFA_FBL_CFG_EN) && !s.fb d && ((s.stoked t && interim) || s.radioState t == rFbl || s.anyLocked t)
    (if stop then (s.drainUnits t).fset d else s).drainEnd t gap

/-- A radio at rest takes up full-band listening where its profile provides it. -/
def State.fblRest (s : State) (t : Tl) : State :=
  if s.fblRuns t && (s.rad t).act.isNone && [rOff, rIdle].contains (s.radioState t) then s.radioTo t rFbl else s

/-- Outside slots a timeline follows VIN_OK at once (R129), and so does its full-band listening. -/
def State.fblSettle (s : State) : State :=
  s.forEach [Tl.a, Tl.b] (fun s t =>
    let s := if s.runs t then s else if s.radioState t = rFbl ∨ s.fb (t.f F.RFA_FBL_CFG_DRAIN) then s.drainCheck t 3001 else s
    s.fblRest t)

/-! ## What follows a command -/

/-- A PLL nobody asks for stops, and so does the crystal (R299). -/
def State.clocksRest (s : State) : State :=
  let s := if s.hearthPll || s.fb F.CLK_SEL_PLL_REQ then s else s.pllLost
  if s.xoWanted then s else s.fclr F.CLK_STAT_XO_RDY

/-- The host is told of a change of HRT_EVT or HRT_STAT (Table 14-5). -/
def State.hostEvents (s : State) : State :=
  let now := (s.rd R.HRT_EVT, s.rd R.HRT_STAT)
  if s.hst.told = now then s
  else (s.mHst (fun h => { h with told := now })).hostNote 6 (leBytes 4 now.1.toNat ++ leBytes 4 now.2.toNat)

/-- The flash controller or the update engine has something that follows at once. -/
def State.flashBusy (s : State) : Bool := !s.flc.queue.isEmpty || !s.flc.ended.isEmpty || s.flc.suspended.isSome || s.uState != uIdle || !s.upd.held.isEmpty

/-- The charger, the PLL or crystal, a core that is gated or has joined an entry, or full-band listening may have something that follows. -/
def State.powerBusy (s : State) : Bool :=
  s.fb F.SUP_CHG_ACT_EN || s.fg F.SUP_STAT_CHG != 0 || s.fb F.CLK_STAT_PLL_LOCK || s.fb F.CLK_STAT_XO_RDY

/-- A core is gated or has joined an entry. -/
def State.coreResting (s : State) : Bool := s.coreA.gated || s.coreB.gated || s.coreA.joined.isSome || s.coreB.joined.isSome

/-- A radio's full-band listening is enabled. -/
def State.fblOn (s : State) : Bool := s.fb F.RFA_FBL_CFG_EN || s.fb (Tl.b.f F.RFA_FBL_CFG_EN)

/-- A port's command or a Pilot request waits. -/
def State.waitOn (s : State) : Bool := s.svc.port.wait.isSome || s.pil.wait.isSome || s.pil.reset.isSome

/-- A reset cause waits that could be taken (R306). -/
def State.resetOpen (s : State) : Bool := !s.rst.deferred.isEmpty && !s.rst.waiting

/-- The host has not been told of the present HRT_EVT and HRT_STAT. -/
def State.hostBehind (s : State) : Bool := s.hostOn && s.hst.told != (s.rd R.HRT_EVT, s.rd R.HRT_STAT)

/-- Nothing follows at once. -/
def State.calm (s : State) : Bool :=
  !(s.flashBusy || s.powerBusy || s.coreResting || s.fblOn || s.waitOn || s.resetOpen || s.hostBehind || !s.hrt.rewrite.isEmpty)

/-- Hearth goes on rewriting the cell table, by a number of entries that is a free value: the manual gives 20 µs for the whole (R114, log 81). -/
def State.rewriteStep (s : State) : State :=
  if s.hrt.rewrite.isEmpty then s
  else
    let r := s.draw
    r.2.rewriteGo (r.1.toNat % (s.hrt.rewrite.length + 1))

/-- What follows a command at once, step by step: flash and the update engine, the charger, clocks, cores, full-band listening, waits, resets,
the host's notifications. -/
def State.follow (s : State) : State :=
  let s := s.rewriteStep.damperFlash
  let s := if s.flashBusy then (s.updPump).flashRun 64 else s
  let s := if s.fb F.SUP_CHG_ACT_EN || s.fg F.SUP_STAT_CHG != 0 then s.chgEval else s
  let s := if s.fb F.CLK_STAT_PLL_LOCK || s.fb F.CLK_STAT_XO_RDY then s.clocksRest else s
  let s := if s.coreResting then s.coreWake.joinLate else s
  let s := if s.fblOn then s.fblSettle else s
  let s := if s.waitOn then s.waits else s
  let s := s.deferredCheck
  if s.hostOn then s.hostEvents else s

/-- What follows a command at once. -/
def State.settle (s : State) : State := if s.calm then s else s.follow

/-- The ember timer advances by `n` counts: by then the cell table has been rewritten (R114), a power amplifier has ramped down (R169), and the UART
ports have sent their frames (log 95). -/
def State.emberPass (s : State) (n : Nat) : State :=
  ((s.rewriteEnd.forEach [Tl.a, Tl.b] (fun s t => s.mRad t (fun r => { r with ramp := none }))).emberAdvance n).alarmEval.portsSent

/-- No command waits: the ember timer advances by one count, where the always-on domain has its supply (R34, R494; log 60, DESIGN CHOICE). -/
def State.idle (s : State) : State := if s.sup.lost then s else s.emberPass 1

/-- What a command answers. -/
abbrev Result := Host.Outcome State Fault Refusal

/-- A command whose effect gives `s` answers the state that follows at once. -/
def State.done (s : State) : Result := .next s.settle

end Sys2Proof.Machine
end

