-- ==== Sys2Proof/Machine/Boundary.lean ====
section
/-! DEFINITION. The slot boundary of a timeline: what it applies, completes and freezes, and what the new slot begins from its arm record
(R41, R44, R47, R62, R77, R78, R80, R83, R94, R100, R119, R129, R147, R160, R173, R178, R207-R209, R216, R240, R370). -/

namespace Sys2Proof.Machine

/-! ## Staged sets -/

/-- A set becomes active (R41). `live`: at a slot boundary. -/
def State.setApply (s : State) (x : SetId) (live : Bool) : State := match x with
  | .wall => s.wallApply.stgDone .wall
  | .schedule => s.scheduleApply.stgDone .schedule
  | .config => s.cfgApplied live
  | .metCal => s.metApply.stgDone .metCal
  | .charger => s.chgApply.stgDone .charger

/-- A set of Hearth's own, which waits while the pair recovers (R44, Table 2-1). -/
def ofHearth (x : SetId) : Bool := x == .schedule || x == .config

/-- A set is applied at this boundary of a timeline: it is due, and Hearth's own waits neither for the pair's recovery (R44, R83) nor, a schedule set
whose GO came later than 200 µs before the boundary (`lateGo`), for the next boundary (R114). -/
def State.setDue (s : State) (t : Tl) (lateGo : Bool) (x : SetId) : Bool :=
  s.stgDue x t && !(s.recovering && ofHearth x) && !(x == .schedule && lateGo && s.hrt.schGo)

/-- The sets due at a boundary. -/
def State.setsDue (s : State) (t : Tl) (lateGo : Bool) : State :=
  let s := s.forEach SetId.all (fun s x => if s.setDue t lateGo x then s.setApply x true else s)
  if s.stgTl .schedule = t then s.mHrt (fun h => { h with schGo := false }) else s

/-! ## Completions at a boundary -/

/-- Queues whose flush was asked for: their QUEUED descriptors end ABORTED, in ring order (R62). -/
def State.flushDue (s : State) (t : Tl) : State :=
  s.forEach (s.hrt.flush.filter (fun q => s.qTl q == t)) (fun s q =>
    let s := s.forEach (s.queued q) (fun s i => s.complete q i ccAborted 0)
    (s.mHrt (fun h => { h with flush := h.flush.filter (fun x => x != q) })).fclr (F.HRT_Qn_FLUSH_GO q))

/-- Descriptors of a removed or blocked neighbour end NO_NEIGHBOUR (R147). -/
def State.dropDue (s : State) (t : Tl) : State :=
  s.forEach (s.hrt.drop.filter (fun p => s.descTl p.1 p.2 == t)) (fun s p =>
    let s := s.mHrt (fun h => { h with drop := h.drop.filter (fun x => x != p) })
    if s.mg (D.ST p.1 p.2) = 1 then s.complete p.1 p.2 ccNoNbr 0 else s)

/-- QUEUED descriptors under a key slot in the failed state end KEY_EXHAUSTED (R240). -/
def State.failedDue (s : State) (t : Tl) : State :=
  if s.rsv.failed.isEmpty then s
  else s.forEach (fwdQ :: List.range 16) (fun s q =>
    s.forEach ((s.queued q).filter (fun i => s.descTl q i == t && s.mb (D.SEC q i) && s.rsv.failed.contains (s.mg (D.KEY q i)))) (fun s i => s.complete q i ccKey 0))

/-! ## The new slot (R80, R94) -/

/-- Occurrences of timekeeping cells with these neighbours that count a miss (R121). -/
def State.missAll (s : State) (l : List Nat) : State := s.forEach l (fun s n => s.exchange n false)

/-- The neighbours of all timekeeping cells of an armed slot. -/
def Arm.tks (a : Arm) : List Nat := a.tk.toList ++ a.others

/-- A slot whose cell is not run: every timekeeping exchange in it is missed. -/
def State.slotSkipped (s : State) (t : Tl) (a : Arm) : State := (s.journalCell .skipped t a.tk).missAll a.tks

/-- A dark slot (R80). -/
def State.darkSlot (s : State) (t : Tl) : State :=
  let l := match (s.tlx t).arm with
    | some a => a.tks
    | none => s.tkOthers t (s.asn t) none
  ((s.cnt (0x068 + 4 * t.bit)).journalCell .skipped t l.head?).missAll l

/-- A slot given to calibration (R178). -/
def State.calSlot (s : State) (t : Tl) (a : Arm) : State :=
  let s := s.mTl t (fun x => { x with cur := some { a with tk := none } })
  if a.cell.isSome then ((s.cnt 0x088).rset (R.RFA_EVT + t.radio) 1).slotSkipped t a else s.missAll a.tks

/-- The neighbour whose exchange in a cell that only receives is missed because the radio has failed (R173); a timekeeping cell counts by itself. -/
def State.clkMiss (s : State) (t : Tl) (a : Arm) (e : Nat) : List Nat :=
  if s.radioState t = rClkFail ∧ cBc e = false ∧ cTk e = false ∧ armReceives a e = true then [cNbr e] else []

/-- An exchange that is not attempted because the guard fails (R119); the resynchronisation is the pair's work. -/
def State.skipSlot (s : State) (t : Tl) (a : Arm) (e : Nat) : State :=
  let miss := s.clkMiss t a e
  let s := (((s.mTl t (fun x => { x with cur := some { a with tk := none } })).slotSkipped t a).missAll miss).pairDo (.guardFail t)
  if s.tsOpen t && !s.recovering then s.pollStart t else s

/-- The channels of the cell of a slot: its lanes, the base channel first (R98, R105). -/
def State.armChans (s : State) (t : Tl) (a : Arm) (e : Nat) : Arm :=
  let asn := s.asn t
  let hop := (s.tc t).band.hop
  let x := s.tlx t
  if cAct e = actGatherRx then
    let l := lanesOf hop x.excl asn (cChoff e) (cLane e + 1)
    { a with lanes := l, ch := l.head?.getD 0xFF }
  else if cAct e = actGatherTx then
    let l := lanesOf hop (s.txExcl e) asn (cChoff e) (cLane e + 1)
    { a with lanes := l, ch := nth l (cLane e) (l.head?.getD 0xFF) }
  else if cAct e = actAdv then { a with ch := chanOf hop [] asn (cChoff e) true }
  else { a with ch := s.cellChan t e asn (!armReceives a e) }

/-- The cell of a slot runs: units are reserved for one that receives (R207, R209). -/
def State.cellSlot (s : State) (t : Tl) (a : Arm) (e : Nat) : State :=
  let a := s.armChans t a e
  let code := ((s.tc t).mode (cPhy e)).code
  if s.radioState t = rClkFail then
    let own := !cBc e && (cTk e || armReceives a e)
    (s.radioGone a.desc).missAll ((if own then [cNbr e] else []) ++ a.others)
  else
    let r := if armReceives a e && s.fblRuns t then s.reserve t (if a.lanes.isEmpty then [a.ch] else a.lanes) code (cAct e == actGatherRx) else (true, s)
    if r.1 then (r.2.mTl t (fun x => { x with cur := some a, span := cBond e })).missAll a.others else r.2.slotSkipped t a

/-- A slot that listens for the time source's beacon (R119). -/
def State.listenSlot (s : State) (t : Tl) (a : Arm) : State := match s.advHere t (s.asn t) with
  | some v => (s.mTl t (fun x => { x with cur := some { a with ch := chanOf (s.tc t).band.hop [] (s.asn t) v.choff true } })).missAll a.others
  | none => s.missAll a.others

/-- The slot begins from its arm record; a gathering cell that has stopped since it was armed is not run (R128). -/
def State.slotStart (s : State) (t : Tl) : State :=
  let arm := (s.tlx t).arm
  let s0 := s
  let s := s.mTl t (fun x => { x with arm := none, cur := none, gath := [], gclosed := false })
  match arm with
  | none => s0.darkSlot t |>.mTl t (fun x => { x with arm := none, cur := none, gath := [], gclosed := false })
  | some a =>
    if a.done = false then s0.darkSlot t |>.mTl t (fun x => { x with arm := none, cur := none, gath := [], gclosed := false })
    else if a.cal then s.calSlot t a
    else if a.listen then s.listenSlot t a
    else match a.cell with
    | none => s.missAll a.others
    | some e =>
      if (cAct e == actGatherRx || cAct e == actGatherTx) && !s.cellActive t e then s.slotSkipped t a
      else if a.skip then s.skipSlot t a e
      else s.cellSlot t a e

/-- The slot that ends: its windows are over, an open timekeeping exchange is missed, a slot of listening that heard nothing was a failed attempt. -/
def State.slotClose (s : State) (t : Tl) : State :=
  let listened := (s.tlx t).cur.any (fun a => a.listen)
  let s := (s.windowsEnd t).tkEnd t false
  if listened && (s.tlx t).resync.isSome then s.pairDo (.resyncFail t) else s

/-! ## The boundary -/

/-- The update engine's part of a boundary of timeline A (R370, R373): `ripe`, the swap's or the rollback's time has come. In a recovery it waits for the
resumption (R44). -/
def State.updBoundary (s : State) (t : Tl) (ripe : Bool) : State :=
  let s := if t == .a && ripe then (if s.recovering then s.mUpd (fun x => { x with due := true }) else s.swapTry.rollbackDo) else s
  if t == .a && s.coreA.pilot then
    [15, 31].foldl (fun s q => if s.fg (F.HRT_Qn_CFG_OWNER q) = ownPilot then s else s.fp (F.HRT_Qn_CFG_OWNER q) ownPilot) s
  else s

/-- The work of the andiron pair at a boundary (Table 2-1): channel exclusion, time-source selection, resynchronisation, profile switch. It waits
while the pair recovers (R50), and is then done at the first boundary that follows; a profile switch that this boundary sets is done at the
resumption. -/
def State.pairBoundary (s : State) (t : Tl) : State :=
  if s.recovering then (if s.profDue t then s.pairDo (.profile t) else s)
  else
    let s := (s.exclBoundary t).nbrLists t
    let s := ((s.tsReview t).tsApply t).resyncPeriod t
    if s.runs t && s.profDue t then s.profSwitch t else s

/-- The time of a boundary goes on: the ASN, and the flue's event (R90, Table 8-1). -/
def State.tick (s : State) (t : Tl) : State :=
  ((s.setAsn t ((s.asn t + 1) % 2 ^ 40)).mTl t (fun x => { x with clock := x.clock + x.step, step := 0 })).emit (0x50 + t.bit) 0

/-- A schedule that becomes active at a boundary governs the slot that begins there (R114): its arm record is the one of the new schedule. -/
def State.rearm (s : State) (t : Tl) : State :=
  s.mTl t (fun x => { x with arm := x.arm.map (fun a => if a.done then s.makeArm t (s.asn t) true a.cal else a) })

/-- A slot boundary of a timeline that runs slots; after a fatal fault the sequencer arms nothing further and only keeps the time (R85). `joint`: the
other timeline's boundary came within the last 10 µs, and its checkpoint serves both (R78). `lateGo`: GO of the schedule set came later than 200 µs
before this boundary (R114). `gap`: µs until the radio's next armed action. -/
def State.boundary (s : State) (t : Tl) (ripe joint lateGo : Bool) (gap : Nat) : State :=
  if s.runs t = false then s
  else if s.hrt.fatal then s.tick t
  else
    let within := decide (0 < (s.tlx t).span)
    let s := if joint then s else s.rewriteEnd
    let s := if within then s else s.slotClose t
    if s.runs t = false then s else
    let s := s.tick t
    let new := s.setDue t lateGo .schedule || s.setDue t lateGo .config
    let s := s.setsDue t lateGo
    let s := (if new then s.rearm t else s).pairBoundary t
    if s.runs t = false then s else
    let s := ((s.flushDue t).dropDue t).failedDue t
    let s := s.mHrt (fun h => { h with lastTl := t, ckptAsn := alSet h.ckptAsn t.bit (s.asn t) })
    let s := if s.recovering || joint then s else s.checkpoint
    let s := (s.updBoundary t ripe).snapFreeze t
    let s := s.drainCheck t gap
    let s := s.mRad t (fun r => { r with lastAck := r.lastAck.filter (fun d => d.viaFbl) })
    let s := s.backoffTick t (s.asn t)
    if within then (s.mTl t (fun x => { x with span := x.span - 1, arm := none })).missAll (s.tkOthers t (s.asn t) none)
    else
      let s := s.slotStart t
      if s.radioState t = rReady ∧ (s.rad t).act.isNone then s.radioReturn t gap else s.fblRest t

/-- Hearth completes the arm record of the next slot (R80): in time, or the slot will be dark. -/
def State.slotArm (s : State) (t : Tl) (inTime cal : Bool) : State :=
  if s.runs t = false ∨ s.recovering ∨ s.hrt.fatal then s else s.mTl t (fun x => { x with arm := some (s.makeArm t ((s.asn t + 1) % 2 ^ 40) inTime cal) })

/-- A set with WHEN 0b00 is applied, within 10 µs of its GO (R41); one of Hearth's waits for the end of a recovery. -/
def State.setNow (s : State) (x : SetId) : State :=
  if s.fg x.state = 1 ∧ s.fg x.when = 0 ∧ (ofHearth x && s.recovering) = false then s.setApply x (!s.noCopy && x == .config) else s

/-- A swap or rollback whose boundary fell in the recovery takes place as the pair resumes (R44, R370). -/
def State.updResume (s : State) : State :=
  if s.upd.due then (s.mUpd (fun x => { x with due := false })).swapTry.rollbackDo else s

/-- The recovery ends (R81); where the pair resumes, the sets of Hearth that waited for it without a slot are applied. -/
def State.recoverEnd (s : State) (crcOk : Bool) (us : Nat) : State :=
  let u := s.recover crcOk us
  if s.recovering && !u.recovering then ((u.setNow .schedule).setNow .config).updResume else u

end Sys2Proof.Machine
end

