-- ==== Sys2Proof/Machine/Reads.lean ====
section
/-! DEFINITION. Reading a register: views composed from the state behind them, captured groups (R37, R43), and what a read changes. -/

namespace Sys2Proof.Machine

/-- The index of an address in a register array. -/
def idxOf (base stride a : Nat) : Nat := (a - base) / stride

/-- An address lies in a register array of `n` elements. -/
def inArr (base stride n a : Nat) : Bool := decide (base ≤ a) && decide (a < base + n * stride) && (a - base) % stride == 0

/-! ## Composed views -/

/-- FLC_STAT (Table 11-9); the remaining time of a running step is a free value. -/
def State.flcStat (s : State) : Word :=
  let r := s.flc.running
  let info := r.any (fun x => x.kind.ofJournal || x.cmd.op.bank.isNone)
  let us := if r.isSome then (Config.freeWord s.free).toNat % 501 else 0
  w32 (b2n (s.bankBusyStat 0) * 0x80000000 + b2n (s.bankBusyStat 1) * 0x40000000 + b2n info * 0x20000000 + b2n s.flc.suspended.isSome * 0x10000000 +
    b2n s.flc.ready * 0x8000000 + ((r.map (fun x => x.cmd.req)).getD 0xF) * 0x100000 + us)

/-- An internal requester in FLC_INT_STAT: 0 idle, 1 pending, 2 running. -/
def State.flcIntOf (s : State) (req : Nat) : Nat :=
  if s.flc.running.any (fun x => x.cmd.req == req) then 2
  else if s.flc.queue.any (fun c => c.req == req) || s.flc.suspended.any (fun x => x.cmd.req == req) then 1 else 0

/-- FLC_INT_STAT. -/
def State.flcIntStat (s : State) : Word :=
  w32 (s.flcIntOf reqHearth * 64 + s.flcIntOf reqUpd * 16 + s.flcIntOf reqAsh * 4 + s.flcIntOf reqKnd)

/-- An identity's own pause bits. -/
def State.flcPauseOf (s : State) (own : Nat) : Bool × Bool := (alGet s.flc.pause own).getD (false, false)

/-- FLC_PAUSE: the reader's own bits and the combined ones. -/
def State.flcPauseView (s : State) (own : Nat) : Word :=
  w32 (b2n (s.paused 1) * 0x20000 + b2n (s.paused 0) * 0x10000 + b2n (s.flcPauseOf own).2 * 2 + b2n (s.flcPauseOf own).1)

/-- UPD_STAT with its composed bits (Table 12-11). -/
def State.updStat (s : State) : Word :=
  let w := s.rd R.UPD_STAT
  wSetField (wSetField w 23 23 (b2n s.uMoving)) 22 22 (b2n s.uLow)

/-- UPD_VER_RUN: the version of the protected unit; zero where none is protected. -/
def State.verRun (s : State) : Word :=
  let u := s.fg F.FLC_PROT_UNIT
  if s.fb F.FLC_PROT_NONE = false ∧ s.hdrOk u then w32 (s.hdr u 4) else 0

/-- UPD_VER_NEW: the version in the target's header; zero while no update runs. -/
def State.verNew (s : State) : Word :=
  if s.uState = uIdle then 0
  else if s.uKind = 0 then w32 (s.hdr s.uTarget 4) else w32 (s.ld (cfgBase s.uTarget + 12) 4)

/-- ASH_STAT with END, the records waiting, and the next free page: the first of the next block once the active one is full (R398). -/
def State.ashStat (s : State) : Word :=
  let act := s.ashActive
  let turned := decide (256 ≤ (s.blk act).ptr) && (s.blk (ashNextBlock act)).erased
  let w := wSetField (wSetField (s.rd R.ASH_STAT) 27 27 (b2n s.ashOver)) 8 0 s.ash.buf.length
  wSetField (if turned then wSetField w 25 24 (ashNextBlock act - 22) else w) 23 16 (if turned then 0 else (s.blk act).ptr % 256)

/-- SVC_STAT: seconds since the last valid frame while a session is open. -/
def State.svcStat (s : State) : Word :=
  wSetField (s.rd R.SVC_STAT) 15 0 (min (s.since s.svc.lastAt) 0xFFFF)

/-- The wall clock's high word. -/
def State.wcHi (s : State) : Word := w32 (s.rtc.wcEpoch % 0x10000 * 0x10000 + s.rtc.wcMs / 0x100000000 % 0x10000)

/-- A register of a flash slot that belongs to no identity (s = 0 and s = 5). -/
def flcHole (a : Nat) : Bool :=
  (decide (R.FLC_CMDs 0 ≤ a) && decide (a < R.FLC_CMDs 1)) || (decide (R.FLC_CMDs 5 ≤ a) && decide (a < R.FLC_CMDs 6))

/-- Registers of pages 0x40007 to 0x40011 whose value is composed. -/
def State.viewSys (s : State) (own : Nat) (sec : Bool) (a : Nat) : Option Word :=
  if a = R.RTC_EMB_LO then some (w32 s.rtc.ember)
  else if a = R.RTC_EMB_HI then some (w32 (s.rtc.ember / 0x100000000 % 0x10000))
  else if a = R.RTC_WC_LO then some (w32 s.rtc.wcMs)
  else if a = R.RTC_WC_HI then some s.wcHi
  else if a = R.FLU_WATCH0 ∨ a = R.FLU_LOOP0 then some (s.rd a &&& s.flueMask own sec 0)
  else if a = R.FLU_WATCH1 ∨ a = R.FLU_LOOP1 then some (s.rd a &&& s.flueMask own sec 1)
  else if inArr (R.FLU_CHc_STAT 0) 0x10 48 a then
    let c := idxOf (R.FLU_CHc_STAT 0) 0x10 a
    some (wSetField (s.rd a) 0 0 (b2n (s.rbit (if c < 32 then R.FLU_LOOP0 else R.FLU_LOOP1) (c % 32))))
  else if R.FLU_TKt_STAT 0 < a ∧ a ≤ R.FLU_TKt_STAT 0xFF then
    let k := (a - R.FLU_TKt_STAT 0) / 4
    some (wSetField (s.rd a) 9 9 (b2n (taskListed k && s.taskBusy k)))
  else if a = R.ASH_STAT then some s.ashStat
  -- at their reset value until the ring is rebuilt (Table 13-5)
  else if a = R.ASH_NEXT then some (if s.ash.ready then w32 s.ash.next else 0)
  else if a = R.ASH_OLDEST then some (if s.ash.ready then w32 s.ash.oldest else 0)
  else if inArr (R.ASH_WR_Dn 0) 4 3 a then some ((alGet s.ash.wrD (own, idxOf (R.ASH_WR_Dn 0) 4 a)).getD 0)
  else if flcHole a then some 0
  else if a = R.FLC_STAT then some s.flcStat
  else if a = R.FLC_DONE then some (s.rd a &&& w32 (2 ^ own))
  else if a = R.FLC_PAUSE then some (s.flcPauseView own)
  else if inArr (R.FLC_SUSPECTn 0) 4 4 a then some (s.suspectMap (idxOf (R.FLC_SUSPECTn 0) 4 a))
  else if a = R.FLC_INT_STAT then some s.flcIntStat
  else if a = R.UPD_STAT then some s.updStat
  else if a = R.UPD_GEN_OLD then some (w32 s.genOld)
  else if a = R.UPD_VER_RUN then some s.verRun
  else if a = R.UPD_VER_NEW then some s.verNew
  else if a = R.UPD_MOTION_AGO then some (w32 s.motionAgo)
  else none

/-- RSSI on the tuned channel: a free value from −128 to +10 dBm (R189). -/
def State.rssiView (s : State) : Word := w32 (unsigned 8 ((Config.freeWord s.free).toNat % 139 - 128 : Int))

/-- Registers of the other pages whose value is composed. STATE shows TX_RAMP while a power amplifier ramps down (R169, log 86). -/
def State.viewRest (s : State) (a : Nat) : Option Word :=
  if inArr (R.INT_PENDn 0) 4 3 a then some (s.intPend (idxOf (R.INT_PENDn 0) 4 a))
  else if a = R.INT_CLAIM_A then some (w32 ((s.claimLine .a).getD 0x7F))
  else if a = R.INT_CLAIM_B then some (w32 ((s.claimLine .b).getD 0x7F))
  else if inArr (R.HRT_Qn_STAT 0) 0x20 32 a then some (wSetField (s.rd a) 15 8 (s.heldCount (idxOf (R.HRT_Qn_STAT 0) 0x20 a)))
  else if a = R.PWR_STAT then some s.pwrStat
  else if a = R.PWR_RET then some (w32 s.retBanks)
  else if a = R.PWR_WFAIL then some (s.rd R.EMB_REG30)
  else if a = R.CLK_REQ then some s.clkReq
  else if a = R.SUP_CHG_MON then some s.chgMon
  else if a = R.HST_STAT then some (wSetField (s.rd a) 28 28 (b2n !s.hst.port.out.isEmpty))
  else if a = R.SVC_STAT then some s.svcStat
  else if a = R.LUM_DALI_RX then some s.daliRx
  else if a = R.LUM_DALI_RXT then some s.daliRxt
  else if inArr (R.SEn_RXD 0) 0x1000 4 a then some (s.seRxd (idxOf (R.SEn_RXD 0) 0x1000 a))
  else if inArr (R.TMR_CNTt 0) 0x40 4 a ∧ s.tmrRuns (idxOf (R.TMR_CNTt 0) 0x40 a) ∧ s.tmrEdges (idxOf (R.TMR_CNTt 0) 0x40 a) = false then
    let t := idxOf (R.TMR_CNTt 0) 0x40 a
    some (w32 ((Config.freeWord s.free).toNat % ((s.rd (R.TMR_TOPt t)).toNat + 1)))
  else if a = R.RFA_RSSI ∧ s.radioState .a = rRxSc then some s.rssiView
  else if a = R.RFA_RSSI + Tl.b.radio ∧ s.radioState .b = rRxSc then some s.rssiView
  else if a = R.RFA_STAT ∧ (s.rad .a).ramp.isSome then some (wSetField (s.rd a) 31 28 7)
  else if a = R.RFA_STAT + Tl.b.radio ∧ (s.rad .b).ramp.isSome then some (wSetField (s.rd a) 31 28 7)
  else if inArr (R.RFA_FBL_OUTc 0) 4 140 a ∧ s.radioState .a = rFbl then some (wSetField (s.rd a) 7 0 (Config.freeWord s.free).toNat)
  else if inArr (R.RFA_FBL_OUTc 0 + Tl.b.radio) 4 16 a ∧ s.radioState .b = rFbl then some (wSetField (s.rd a) 7 0 (Config.freeWord s.free).toNat)
  else none

/-- The group registers of the pins show their reader its own pins' bits, and 0 for the others (R477, R483, R485, R486; log 36). -/
def State.viewPad (s : State) (own : Nat) (sec : Bool) (a : Nat) : Option Word :=
  if a = R.PAD_IN0 then some (s.padIn 0 &&& s.pinMask own sec 0)
  else if a = R.PAD_IN1 then some (s.padIn 1 &&& s.pinMask own sec 1)
  else if a = R.PAD_OUT0 ∨ a = R.PAD_EDGE0 then some (s.rd a &&& s.pinMask own sec 0)
  else if a = R.PAD_OUT1 ∨ a = R.PAD_EDGE1 then some (s.rd a &&& s.pinMask own sec 1)
  else none

/-- What a read of a register returns, without what the read changes. -/
def State.regView (s : State) (own : Nat) (sec : Bool) (a : Nat) : Word :=
  if a / 0x1000 = 0x40006 then (s.viewPad own sec a).getD (s.rd a)
  else match s.viewSys own sec a with
    | some w => w
    | none => (s.viewRest a).getD (s.rd a)

/-- The read draws a free value (log 3, DESIGN CHOICE). -/
def State.freeView (s : State) (a : Nat) : Bool :=
  (a == R.FLC_STAT && s.flc.running.isSome) || (inArr (R.TMR_CNTt 0) 0x40 4 a && s.tmrRuns (idxOf (R.TMR_CNTt 0) 0x40 a) && !s.tmrEdges (idxOf (R.TMR_CNTt 0) 0x40 a)) ||
  (a == R.RFA_RSSI && s.radioState .a == rRxSc) || (a == R.RFA_RSSI + Tl.b.radio && s.radioState .b == rRxSc) ||
  (inArr (R.RFA_FBL_OUTc 0) 4 140 a && s.radioState .a == rFbl) || (inArr (R.RFA_FBL_OUTc 0 + Tl.b.radio) 4 16 a && s.radioState .b == rFbl) ||
  (a == R.SUP_CHG_MON && s.fg F.SUP_STAT_CHG == 3)

/-! ## Captured groups -/

/-- Low and high words of multi-word counters: one read of the high word returns the captured value (R37). -/
def counterPairs : List (Nat × Nat) :=
  [(R.RTC_EMB_LO, R.RTC_EMB_HI), (R.HRT_ASN_A_LO, R.HRT_ASN_A_HI), (R.HRT_ASN_B_LO, R.HRT_ASN_B_HI), (R.MET_E1_LO, R.MET_E1_HI),
    (R.MET_E2_LO, R.MET_E2_HI)]

/-- The registers from one address to another. -/
def regSpan (a b : Nat) : List Nat := (List.range ((b - a) / 4 + 1)).map (fun i => a + 4 * i)

/-- Groups captured as a whole by a read of their first register (R43). -/
def captureSets : List (Nat × List Nat) :=
  [(R.RTC_WC_LO, [R.RTC_WC_HI, R.RTC_TRIM_ACT]), (R.HRT_SF_As 0, regSpan (R.HRT_SF_As 1) (R.HRT_SF_Bs 7)),
    (R.HRT_TPL_A, regSpan R.HRT_TPL_B R.HRT_PROF), (R.RFA_TEMP, [R.RFA_SUPPLY]), (R.RFA_TEMP + Tl.b.radio, [R.RFA_SUPPLY + Tl.b.radio]),
    (R.FLU_STAMP_ASN_LO, regSpan R.FLU_STAMP_ASN_HI R.FLU_STAMP_EMB), (R.FLC_SEL, [R.FLC_SEL_SEQ]), (R.ASH_STAT, [R.ASH_NEXT, R.ASH_OLDEST]),
    (R.MET_VRMS, regSpan R.MET_IRMS1 R.MET_P2), (R.MET_CAL_ACT_V, [R.MET_CAL_ACT_I1, R.MET_CAL_ACT_I2]),
    (R.SUP_CHG_STG, [R.SUP_CHG_COMMIT, R.SUP_CHG_CASN]), (R.LUM_DALI_RX, [R.LUM_DALI_RXT])] ++
  (List.range 7).map (fun k => (R.FLC_QRYs k, [R.FLC_QCNTs k]))

/-- The members captured by a read of `a`. -/
def capMembers (a : Nat) : List Nat :=
  (counterPairs.filter (fun p => p.1 == a)).map (fun p => p.2) ++ ((captureSets.filter (fun p => p.1 == a)).flatMap (fun p => p.2))

/-- The register is captured for the next read only. -/
def capOnce (a : Nat) : Bool := counterPairs.any (fun p => p.2 == a)

/-- A read of `a` captures its group for the reading initiator `key` (R37, R43). -/
def State.capture (s : State) (key own : Nat) (sec : Bool) (a : Nat) : State :=
  let l := (capMembers a).map (fun m => (m, s.regView own sec m))
  s.forEach l (fun s p => s.mCaps (fun c => alSet c (key, p.1) p.2))

/-! ## What a read changes -/

/-- The command set whose result register this is. -/
def resSet (a : Nat) : Option CsId := CsId.all.find? (fun c => c.res == a)

/-- The read of a result by its writer releases the set, but for an update's set, which its operation keeps (R163, R355). -/
def State.resultRead (s : State) (own a : Nat) : State := match resSet a with
  | some c => if c = .upd ∧ s.upd.keep then s else s.csRelease c own
  | none => s

/-- What else a read changes, and what it returns where that is decided with it. -/
def State.readEffect (s : State) (own a : Nat) (v : Word) : Word × State :=
  if a = R.INT_CLAIM_A then s.intClaim .a
  else if a = R.INT_CLAIM_B then s.intClaim .b
  else if a = R.HRT_BUF_ALLOC then
    let r := s.bufAlloc own
    (match r.1 with
      | some b => w32 (0x80000000 + b)
      | none => 0, r.2)
  else if a = R.VLT_TRNG_DATA then s.trngTake
  else if inArr (R.SEn_RXD 0) 0x1000 4 a then (v, s.seRxPop (idxOf (R.SEn_RXD 0) 0x1000 a))
  else
    let s := s.resultRead own a
    (v, match rowOf a with
      | some r => s.wr a (s.rd a &&& ~~~ r.rc)
      | none => s)

/-- A permitted read of a register by the initiator `key` (`State.capKey`) with the identity `own`. -/
def State.regRead (s : State) (key own : Nat) (sec : Bool) (a : Nat) : Word × State :=
  match alGet s.caps (key, a) with
  | some w => (w, if capOnce a then s.mCaps (fun c => alDel c (key, a)) else s)
  | none =>
    let v := s.regView own sec a
    let s := s.capture key own sec a
    let s := if s.freeView a then s.mFree (fun n => n + 1) else s
    s.readEffect own a v

end Sys2Proof.Machine
end

