-- ==== Sys2Proof/Machine/Writes.lean ====
section
/-! DEFINITION. Writing a register: for every block, which register has an effect beyond the access types of its fields, and which
operation gives it. Access rights are judged before, in Bus.lean. -/

namespace Sys2Proof.Machine

/-- A write of one register of a command set that holds an argument (R163). -/
def State.argWrite (s : State) (x : CsId) (own : Nat) (a : Nat) (v : Word) : State :=
  s.csWrite x own false (fun s => s.regStore a v)

/-- WERR of a command set, written as 1, clears (Table 0-2). -/
def State.werrClear (s : State) (x : CsId) (v : Word) : State := if wBit v 16 then s.fclr x.werr else s

/-- A write of a staged set's CASN or staged value register (R39). -/
def State.stgStore (s : State) (x : SetId) (own : Nat) (a : Nat) (v : Word) : State :=
  s.stgWrite x own (fun s => s.regStore a v)

/-- INT (Table 1-9). -/
def State.writeInt (s : State) (own a : Nat) (v : Word) : State :=
  if a = R.INT_DONE_A then s.intDone .a (v.toNat % 128)
  else if a = R.INT_DONE_B then s.intDone .b (v.toNat % 128)
  else if a = R.INT_DOORBELL then s.doorbell v
  else if inArr (R.INT_CFGn 0) 4 96 a then s.intCfg own (idxOf (R.INT_CFGn 0) 4 a) v
  else s.regStore a v

/-- DMA (Table 1-10). -/
def State.writeDma (s : State) (own : Nat) (sec : Bool) (a : Nat) (v : Word) : State :=
  if inArr (R.DMA_CHn_CFG 0) 0x20 16 a then s.dmaCfgWrite own sec (idxOf (R.DMA_CHn_CFG 0) 0x20 a) v
  else if inArr (R.DMA_CHn_CTL 0) 0x20 16 a then s.dmaCtl (idxOf (R.DMA_CHn_CTL 0) 0x20 a) v
  else s.regStore a v

/-- A write of RTC_ALARM_LO is held for the initiator that made it (R494). -/
def State.alarmLo (s : State) (key : Nat) (v : Word) : State := s.mRtc (fun x => { x with held := alSet x.held key v })

/-- A write of RTC_ALARM_HI takes effect with the low word its writer holds, and the condition is evaluated (R494). -/
def State.alarmHi (s : State) (key : Nat) (v : Word) : State :=
  let s := match alGet s.rtc.held key with
    | some lo => s.wr R.RTC_ALARM_LO lo
    | none => s
  ((s.mRtc (fun x => { x with held := alDel x.held key })).regStore R.RTC_ALARM_HI v).alarmEval

/-- RTC (Table 1-11). -/
def State.writeRtc (s : State) (key own a : Nat) (v : Word) : State :=
  if a = R.RTC_WC_STG_LO ∨ a = R.RTC_WC_STG_HI ∨ a = R.RTC_TRIM_STG ∨ a = R.RTC_CASN then s.stgStore .wall own a v
  else if a = R.RTC_COMMIT then s.stgCommitWrite .wall own v State.wallGo
  else if a = R.RTC_ALARM_LO then s.alarmLo key v
  else if a = R.RTC_ALARM_HI then s.alarmHi key v
  else s.regStore a v

/-- GO of HRT_Qn_FLUSH asks for a flush at the next boundary of the queue's timeline, until which GO reads 1 (R62, R87). -/
def State.flushAsk (s : State) (q : Nat) (v : Word) : State :=
  if wBit v 0 ∧ s.hrt.flush.contains q = false then (s.mHrt (fun h => { h with flush := h.flush ++ [q] })).fset (F.HRT_Qn_FLUSH_GO q) else s

/-- A write of HRT_BUF_RET: the holder returns its buffer (R71). -/
def State.bufReturn (s : State) (own : Nat) (v : Word) : State :=
  if v.toNat < 64 ∧ s.holder v.toNat = own then s.setHolder v.toNat ownNone else s

/-- A write of HRT_Qn_PROD by the owner: of an RX queue, whose index Hearth writes, it is ignored and sets IERR (R58). A failed radio completes
what an immediate queue has enqueued (R173). -/
def State.prodReg (s : State) (q : Nat) (v : Word) : State :=
  if q < 16 then (let s := s.prodWrite q (v.toNat % 128); s.immClk (s.qTl q)) else s.fset (F.HRT_Qn_STAT_IERR q)

/-- A write of HRT_Qn_CFG by the owner: IRQ, and EARLY of an RX queue (R72). -/
def State.qCfgWrite (s : State) (q : Nat) (v : Word) : State :=
  let s := s.fp (F.HRT_Qn_CFG_IRQ q) (wField v 0 0)
  if 16 ≤ q then s.fp (F.HRT_Qn_CFG_EARLY q) (wField v 12 12) else s

/-- A write of HRT_SNAP_REQ (R46). -/
def State.snapReqWrite (s : State) (own : Nat) (v : Word) : State :=
  let s := s.regStore R.HRT_SNAP_REQ v
  if wBit v 31 then s.snapGo own else s

/-- A write of HRT_SCH_COMMIT (R39, R112): a cancelled set drops its edits. -/
def State.schCommit (s : State) (own : Nat) (v : Word) : State :=
  let held := s.fg SetId.schedule.writer == own
  let s := s.stgCommitWrite .schedule own v State.scheduleGo
  if wBit v 30 && held then s.editsClear else s

/-- The edit that a write of HRT_SCH_HI appends. -/
def State.cellEdit (s : State) (v : Word) : SchEdit :=
  .cell (s.rd R.HRT_SCH_IDX).toNat ((s.rd R.HRT_SCH_LO).toNat + 0x100000000 * v.toNat)

/-- A write of HRT_SCH_HI (R112). -/
def State.schHi (s : State) (own : Nat) (v : Word) : State :=
  s.stgWrite .schedule own (fun s => (s.regStore R.HRT_SCH_HI v).editAdd (s.cellEdit v))

/-- A write of HRT_SCH_SF (R112). -/
def State.schSf (s : State) (own : Nat) (v : Word) : State :=
  s.stgWrite .schedule own (fun s => (s.regStore R.HRT_SCH_SF v).editAdd (.sf (wField v 19 19) (wField v 18 16) (wField v 15 0)))

/-- A write of HRT_NBR_CMD (R157, R163). -/
def State.nbrCmd (s : State) (own : Nat) (v : Word) : State :=
  if wBit v 31 then s.nbrGo own v else s.argWrite .nbr own R.HRT_NBR_CMD v

/-- HRT (Tables 2-12, 2-13, 3-15, 4-9). -/
def State.writeHrt (s : State) (own a : Nat) (v : Word) : State :=
  if R.HRT_Qn_CFG 0 ≤ a ∧ a < R.HRT_Qn_CFG 32 then
    let q := (a - R.HRT_Qn_CFG 0) / 0x20
    if a = R.HRT_Qn_CFG q then s.qCfgWrite q v
    else if a = R.HRT_Qn_PROD q then s.prodReg q v
    else if a = R.HRT_Qn_RECL q then s.reclWrite q (v.toNat % 128)
    else if a = R.HRT_Qn_FLUSH q then s.flushAsk q v
    else s.regStore a v
  else if a = R.HRT_BUF_RET then s.bufReturn own v
  else if a = R.HRT_SNAP_REQ then s.snapReqWrite own v
  else if a = R.HRT_SNAP_REL then (if wBit v 0 then s.snapRelease own else s)
  else if a = R.HRT_SCH_IDX ∨ a = R.HRT_SCH_LO ∨ a = R.HRT_SCH_CASN then s.stgStore .schedule own a v
  else if a = R.HRT_SCH_HI then s.schHi own v
  else if a = R.HRT_SCH_SF then s.schSf own v
  else if a = R.HRT_SCH_COMMIT then s.schCommit own v
  else if a = R.HRT_NBR_CMD then s.nbrCmd own v
  else if a = R.HRT_NBR_ADDR_LO ∨ a = R.HRT_NBR_ADDR_HI ∨ a = R.HRT_NBR_SHORT then s.argWrite .nbr own a v
  else if a = R.HRT_NBR_RES then s.werrClear .nbr v
  else s.regStore a v

/-- RFA and RFB (Table 5-14). -/
def State.writeRadio (s : State) (t : Tl) (a : Nat) (v : Word) : State :=
  if a = R.RFA_TEST + t.radio then s.testWrite t v else s.regStore a v

/-- The key pages (Table 7-12). -/
def State.writePage (s : State) (a : Nat) (v : Word) : State :=
  let n := (a - 0x40020000) / 0x1000
  let o := a % 0x1000
  if o < 0x100 then s.keyWord n (o / 0x20) (o % 0x20 / 4) v
  else if inArr (R.VLT_PGn_SLOTs n 0) 4 8 a then s.slotWrite n (idxOf (R.VLT_PGn_SLOTs n 0) 4 a) v
  else if a = R.VLT_PGn_CTL n then s.pageCtl n v
  else s

/-- VLT (Table 7-13). -/
def State.writeVlt (s : State) (own : Nat) (sec : Bool) (a : Nat) (v : Word) : State :=
  if a = R.VLT_CMD ∨ a = R.VLT_CMD_IN ∨ a = R.VLT_CMD_LEN ∨ a = R.VLT_CMD_OUT then s.vaultWrite own sec a v
  else if R.VLT_PK_CTLc 0 ≤ a ∧ a < R.VLT_PK_CTLc 2 ∧ (a - R.VLT_PK_CTLc 0) % 0x10 < 8 then s.pkWrite own sec ((a - R.VLT_PK_CTLc 0) / 0x10) a v
  else s.regStore a v

/-- LCE (Table 7-14). -/
def State.writeLce (s : State) (own : Nat) (sec : Bool) (a : Nat) (v : Word) : State :=
  if R.LCE_JOB_CTL ≤ a ∧ a ≤ R.LCE_JOB_IVn 3 then s.lceWrite own sec a v else s.regStore a v

/-- FLU (Table 8-3). -/
def State.writeFlu (s : State) (own : Nat) (sec : Bool) (a : Nat) (v : Word) : State :=
  if inArr (R.FLU_CHc_CFG 0) 0x10 48 a then s.flueCfgWrite own (idxOf (R.FLU_CHc_CFG 0) 0x10 a) v
  else if inArr (R.FLU_CHc_TSK 0) 0x10 48 a then s.flueTskWrite (idxOf (R.FLU_CHc_TSK 0) 0x10 a) v
  else if a = R.FLU_WATCH0 ∨ a = R.FLU_WATCH1 ∨ a = R.FLU_LOOP0 ∨ a = R.FLU_LOOP1 then s.flueFlagClear own sec a v
  else s.regStore a v

/-- PWR (Table 9-9): a LIMIT outside 200-2,000 is ignored and sets ERR; while an update can still be rolled back, PWR_RET keeps the old
partition's bits (R372). -/
def State.writePwr (s : State) (a : Nat) (v : Word) : State :=
  if a = R.PWR_BUDGET ∧ (wField v 10 0 < 200 ∨ 2000 < wField v 10 0) then s.fset F.PWR_EVT_ERR
  else if a = R.PWR_RET ∧ (s.uState = uProbation ∨ s.uState = uRollback) then
    s.regStore a (v ||| (s.rd a &&& w32 (partBanks s.upd.oldCore)))
  else s.regStore a v

/-- CLK (Table 9-10). -/
def State.writeClk (s : State) (a : Nat) (v : Word) : State :=
  if a = R.CLK_SEL then s.clockSelect v else if a = R.CLK_PERF then s.perfChange v else s.regStore a v

/-- RST (Table 10-4). -/
def State.writeRst (s : State) (own a : Nat) (v : Word) : State :=
  if a = R.RST_SOFT then s.softReset v
  else if a = R.RST_SECPG0 then s.secpgSet own 0 v
  else if a = R.RST_SECPG1 then s.secpgSet own 1 v
  else if a = R.RST_SECPG2 then s.secpgSet own 2 v
  else if a = R.RST_WDT_A_CFG then s.wdtCfgWrite .a v
  else if a = R.RST_WDT_A_KICK then s.wdtKick .a v
  else if a = R.RST_WDT_B_CFG then s.wdtCfgWrite .b v
  else if a = R.RST_WDT_B_KICK then s.wdtKick .b v
  else s.regStore a v

/-- GO of the option writer: 192 octets of token at its address, read as the writer can (R318). -/
def State.optCmd (s : State) (own : Nat) (sec : Bool) (v : Word) : State :=
  s.csWrite .knd own (wBit v 31) (fun s => if wBit v 31 then s.optGo own (s.lcsArg own sec (s.rd R.KND_OPT_ARG).toNat 192) else s)

/-- KND (Table 10-8). -/
def State.writeKnd (s : State) (own : Nat) (sec : Bool) (a : Nat) (v : Word) : State :=
  if inArr (R.KND_OPT_STGm 0) 4 8 a ∨ a = R.KND_OPT_ARG then s.argWrite .knd own a v
  else if a = R.KND_OPT_CMD then s.optCmd own sec v
  else if a = R.KND_OPT_RES then s.werrClear .knd v
  else s.regStore a v

/-! ### Flash slots (R339-R341, R345, R353) -/

/-- QUERY answers at once (Table 11-4). -/
def State.flcQuery (s : State) (k : Nat) : State :=
  let a := (s.rd (R.FLC_ADDRs k)).toNat
  let c : FlashCmd := ⟨k, .erase (blockOf a), false, k, 0, false, false, false, false⟩
  if isFlash a = false then s.slotEnd c 1
  else
    let b := s.blk (blockOf a)
    let erasing := s.flc.queue.any (fun x => x.begun && x.op == .erase (blockOf a)) || s.flc.running.any (fun r => r.cmd.begun && r.cmd.op == .erase (blockOf a))
    let st := if b.suspect || erasing then 3 else if b.ptr = 0 then 0 else if b.ptr < 256 then 1 else 2
    let prot := s.protectedFrom k (blockOf a)
    let locked := s.rbit (R.FLC_ULOCKn (blockOf a / 32)) (blockOf a % 32)
    ((s.wr (R.FLC_QRYs k) (w32 (st * 0x40000000 + b2n prot * 0x20000000 + b2n locked * 0x10000000 + b2n b.worn * 0x8000000 + b.ptr * 0x10000 + blockOf a))).wr
      (R.FLC_QCNTs k) (w32 (b.count % 0x1000000))).slotEnd c 0

/-- GO of PROGRAM copies the page (R340). -/
def State.flcProgramGo (s : State) (own : Nat) (k : Nat) : State :=
  let a := (s.rd (R.FLC_ADDRs k)).toNat
  let src := (s.rd (R.FLC_SRCs k)).toNat
  let t := s.busSeen own true src 256
  if s.busOk own true src 256 false then t.flcEnqueue k (.program a (s.bytes src 256)) false k
  else t.slotEnd ⟨k, .program a [], false, k, 0, false, false, false, false⟩ 6

/-- GO of ERASE; an address that is no block start, or an invalid OP, is refused at the first step (Table 11-5). -/
def State.flcEraseGo (s : State) (k : Nat) (valid : Bool) : State :=
  let a := (s.rd (R.FLC_ADDRs k)).toNat
  s.flcEnqueue k (.erase (if valid && isFlash a && a % 0x10000 == 0 then blockOf a else 999)) false k

/-- CANCEL of a slot (R341). -/
def State.flcCancelSlot (s : State) (k : Nat) : State :=
  let mark (r : FlashStep) : FlashStep := if r.cmd.req = k ∧ r.cmd.op.isErase then { r with cmd := { r.cmd with cancel := true } } else r
  let gone := s.flc.queue.filter (fun c => c.req == k)
  let s := s.mFlc (fun x => { x with
    queue := x.queue.filter (fun c => c.req != k)
    running := x.running.map mark
    suspended := x.suspended.map mark })
  s.forEach gone (fun s c => s.flcEnd c 7)

/-- A write of FLC_CMDs (R339-R341). -/
def State.flcCmd (s : State) (own : Nat) (k : Nat) (v : Word) : State :=
  let s := if wBit v 30 ∧ s.fg (F.FLC_RESs_STATE k) = 1 then s.flcCancelSlot k else s
  let op := wField v 27 24
  if wBit v 31 = false then s.fp (F.FLC_CMDs_OP k) op
  else if s.fg (F.FLC_RESs_STATE k) = 1 then s.fset (F.FLC_RESs_WERR k)
  else
    let s := (s.fp (F.FLC_CMDs_OP k) op).fp (F.FLC_RESs_STATE k) 1
    let s := (s.fp (F.FLC_RESs_CODE k) 0).fp (F.FLC_RESs_STEPS k) 0
    if op = 1 then s.flcProgramGo own k
    else if op = 3 then s.flcQuery k
    else s.flcEraseGo k (op == 2)

/-- A write of FLC_PAUSE sets the writer's own bits (R345). -/
def State.flcPauseWrite (s : State) (own : Nat) (v : Word) : State :=
  s.mFlc (fun x => { x with pause := if v.toNat % 4 = 0 then alDel x.pause own else alSet x.pause own (wBit v 0, wBit v 1) })

/-- A write of FLC_PROT: UNIT while LOCK is 0; LOCK stays set (R351). -/
def State.flcProtWrite (s : State) (v : Word) : State :=
  let s := if s.fb F.FLC_PROT_LOCK then s else s.fp F.FLC_PROT_UNIT (wField v 0 0)
  if wBit v 31 then s.fset F.FLC_PROT_LOCK else s

/-- The user blocks of FLC_ULOCKn (Table 11-1): the others' bits are ignored. -/
def userBlocks (n : Nat) : Word :=
  w32 ((List.range 32).foldl (fun m i => let b := 32 * n + i; if 26 ≤ b ∧ b < 64 ∨ 74 ≤ b then m + 2 ^ i else m) 0)

/-- FLC (Table 11-9). -/
def State.writeFlc (s : State) (own : Nat) (a : Nat) (v : Word) : State :=
  if flcHole a then s
  else if inArr (R.FLC_CMDs 0) 0x20 7 a then s.flcCmd own (idxOf (R.FLC_CMDs 0) 0x20 a) v
  else if a = R.FLC_DONE then s.wr a (s.rd a &&& ~~~ (v &&& w32 (2 ^ own)))
  else if a = R.FLC_PAUSE then s.flcPauseWrite own v
  else if a = R.FLC_PROT then s.flcProtWrite v
  else if inArr (R.FLC_ULOCKn 0) 4 4 a then s.wr a (s.rd a ||| (v &&& userBlocks (idxOf (R.FLC_ULOCKn 0) 4 a)))
  else s.regStore a v

/-! ### UPD and ASH -/

/-- A write of UPD_HAND: ASK, ACCEPT and DECLINE of the new core, EXPORTED of the old one (R364, R365). -/
def State.handWrite (s : State) (own : Nat) (v : Word) : State :=
  let s := if wBit v 0 then s.handBit own true 0 State.handAsk else s
  let s := if wBit v 1 then s.handBit own false 1 State.handExported else s
  let s := if wBit v 2 then s.handBit own true 2 State.handAccept else s
  if wBit v 3 then s.handBit own true 3 State.handDecline else s

/-- UPD (Table 12-11). -/
def State.writeUpd (s : State) (own a : Nat) (v : Word) : State :=
  if a = R.UPD_CMD then s.updCmdWrite own v
  else if a = R.UPD_SRC ∨ a = R.UPD_OFF ∨ a = R.UPD_LEN then s.argWrite .upd own a v
  else if a = R.UPD_RES then s.werrClear .upd v
  else if a = R.UPD_HAND then s.handWrite own v
  else if a = R.UPD_BOOTFAIL then (if wBit v 8 then s.fset F.UPD_BOOTFAIL_ALIVE else s)
  else if a = R.UPD_CFG_CASN then s.stgStore .config own a v
  else if a = R.UPD_CFG_COMMIT then s.stgCommitWrite .config own v State.cfgGo
  else s.regStore a v

/-- A read-port request (R402). -/
def State.ashReadGo (s : State) (own : Nat) (v : Word) : State :=
  s.csWrite .ashRd own true (fun s => ((s.regStore R.ASH_RD_SEQ v).csRun .ashRd).mAsh (fun x => { x with readReq := some v.toNat }))

/-- A clear is asked for with a token (R401): 1 STATE, 5 SUPPLY, a token's code, 0 where it runs. -/
def State.ashClearAsk (s : State) (own : Nat) (sec : Bool) : State :=
  if s.ash.clr.isSome then (s.csRun .ashClr).csEnd .ashClr 1
  else if s.uLow then (s.csRun .ashClr).csEnd .ashClr 5
  else
    let r := s.tokenUse (s.lcsArg own sec (s.rd R.ASH_CLR_TOKEN).toNat 192) 6 zeroArg
    let s := r.2.csRun .ashClr
    if r.1 ≠ 0 then s.csEnd .ashClr r.1 else s.ashClear own false

/-- A write of ASH_CLR_CMD (R163, R401). -/
def State.ashClearGo (s : State) (own : Nat) (sec : Bool) (v : Word) : State :=
  s.csWrite .ashClr own (wBit v 31) (fun s => if wBit v 31 then s.ashClearAsk own sec else s)

/-- A write of ASH_WR_CODE (R403). -/
def State.ashCodeWrite (s : State) (own : Nat) (v : Word) : State :=
  if 0x8000 ≤ v.toNat % 0x10000 then s.ashSoft own (v.toNat % 0x10000) else s.fset F.ASH_EVT_WERR

/-- ASH (Table 13-5). -/
def State.writeAsh (s : State) (own : Nat) (sec : Bool) (a : Nat) (v : Word) : State :=
  if a = R.ASH_FLUSH then (if wBit v 0 then s.ashFlushStart false none else s)
  else if inArr (R.ASH_WR_Dn 0) 4 3 a then s.mAsh (fun x => { x with wrD := alSet x.wrD (own, idxOf (R.ASH_WR_Dn 0) 4 a) v })
  else if a = R.ASH_WR_CODE then s.ashCodeWrite own v
  else if a = R.ASH_RD_SEQ then s.ashReadGo own v
  else if a = R.ASH_RD_STAT then s.werrClear .ashRd v
  else if a = R.ASH_CLR_TOKEN then s.argWrite .ashClr own a v
  else if a = R.ASH_CLR_CMD then s.ashClearGo own sec v
  else if a = R.ASH_CLR_RES then s.werrClear .ashClr v
  else s.regStore a v

/-! ### The lamp, metrology and general blocks -/

/-- LUM (Table 15-11). -/
def State.writeLum (s : State) (a : Nat) (v : Word) : State :=
  if a = R.LUM_DALI_CFG then s.daliCfg v
  else if a = R.LUM_DALI_CTL then s.daliCtl v
  else if a = R.LUM_DIM_CTL then s.dimCtl v
  else if a = R.LUM_RLY_CFG then s.rlyCfg v
  else if a = R.LUM_RLY_CTL then s.rlyCtl v
  else if a = R.LUM_MOT_REPORT then (if wBit v 0 then s.motion else s)
  else s.regStore a v

/-- MET (Table 15-12). -/
def State.writeMet (s : State) (own a : Nat) (v : Word) : State :=
  if a = R.MET_CTL then s.metCtl v
  else if a = R.MET_CAL_STG_V ∨ a = R.MET_CAL_STG_I1 ∨ a = R.MET_CAL_STG_I2 ∨ a = R.MET_CAL_CASN then s.stgStore .metCal own a v
  else if a = R.MET_CAL_COMMIT then s.stgCommitWrite .metCal own v State.metGo
  else s.regStore a v

/-- SE0 to SE3 (Table 15-15). -/
def State.writeSe (s : State) (a : Nat) (v : Word) : State :=
  let n := (a - 0x40090000) / 0x1000
  if a = R.SEn_CFG n then s.seCfg n v
  else if a = R.SEn_RATE n then s.seRate n v
  else if a = R.SEn_TXD n then s.seTx n (BitVec.ofNat 8 v.toNat)
  else if a = R.SEn_CTL n then s.seCtl n v
  else s.regStore a v

/-- A write of TMR_CTLt; the count at the write is the outside world's, so STOP and CAPTURE take `count`. -/
def State.tmrCtl (s : State) (t : Nat) (v : Word) (count : Nat) : State :=
  let s := if wBit v 2 then s.tmrCapture t count else s
  let s := if wBit v 1 then s.tmrStop t count else s
  if wBit v 0 then s.tmrStart t none else s

/-- TMR (Table 15-14). A plain write that stops or captures a running timer meets a count that is a free value. -/
def State.writeTmr (s : State) (a : Nat) (v : Word) : State :=
  if inArr (R.TMR_CTLt 0) 0x40 4 a then
    let r := s.draw
    if v.toNat % 8 < 2 then s.tmrCtl (idxOf (R.TMR_CTLt 0) 0x40 a) v 0 else r.2.tmrCtl (idxOf (R.TMR_CTLt 0) 0x40 a) v r.1.toNat
  else s.regStore a v

/-- ADC (Table 15-13). -/
def State.writeAdc (s : State) (a : Nat) (v : Word) : State :=
  if a = R.ADC_CFG then s.adcCfg v else if a = R.ADC_CTL then (if wBit v 0 then s.adcSample none else s) else s.regStore a v

/-- SUP (Table 16-10). -/
def State.writeSup (s : State) (own a : Nat) (v : Word) : State :=
  if a = R.SUP_PFW_THR then s.pfwWrite v
  else if a = R.SUP_CHG_STG ∨ a = R.SUP_CHG_CASN then s.stgStore .charger own a v
  else if a = R.SUP_CHG_COMMIT then s.stgCommitWrite .charger own v State.chgSetGo
  else if a = R.SUP_CHG_NTC then s.ntcWrite a v
  else if a = R.SUP_VREG_CFG then (s.regStore a v).fp F.SUP_STAT_VREG_OK (wField v 0 0)
  else s.regStore a v

/-- PAD (Table 17-8): its operations judge the writer themselves. -/
def State.writePad (s : State) (who : Initiator) (a : Nat) (v : Word) : State :=
  if a = R.PAD_OUT0 then s.padOutWrite who 0 v outStore
  else if a = R.PAD_OUT1 then s.padOutWrite who 1 v outStore
  else if a = R.PAD_OUTSET0 then s.padOutWrite who 0 v outSet
  else if a = R.PAD_OUTSET1 then s.padOutWrite who 1 v outSet
  else if a = R.PAD_OUTCLR0 then s.padOutWrite who 0 v outClr
  else if a = R.PAD_OUTCLR1 then s.padOutWrite who 1 v outClr
  else if a = R.PAD_OUTTGL0 then s.padOutWrite who 0 v outTgl
  else if a = R.PAD_OUTTGL1 then s.padOutWrite who 1 v outTgl
  else if a = R.PAD_EDGE0 then s.padEdgeClear who 0 v
  else if a = R.PAD_EDGE1 then s.padEdgeClear who 1 v
  else if a = R.PAD_RELEASE then s.forEach [0, 1, 2] (fun s b => if wBit v b then s.padReleaseWrite who b else s)
  else if inArr (R.PAD_TSKk 0) 4 8 a then s.padTskWrite who (idxOf (R.PAD_TSKk 0) 4 a) v
  else if inArr (R.PAD_CFGn 0) 4 64 a then s.padCfgWrite who (idxOf (R.PAD_CFGn 0) 4 a) v
  else if a = R.PAD_WAKE_EDGE ∨ a = R.PAD_EVT then
    let x := sharedSyn (s.owner who) (s.secure who)
    if x = 0 then s.regStore a v else s.forbid who a true x
  else s

/-- A permitted write of a register. -/
def State.regWrite (s : State) (who : Initiator) (a : Nat) (v : Word) : State :=
  let own := s.owner who
  let sec := s.secure who
  match a / 0x1000 with
  | 0x400B0 => s.writeInt own a v
  | 0x400A0 => s.writeDma own sec a v
  | 0x40007 => s.writeRtc (s.capKey who) own a v
  | 0x40040 => s.writeHrt own a v
  | 0x40050 => s.writeRadio .a a v
  | 0x40060 => s.writeRadio .b a v
  | 0x40028 => s.writeVlt own sec a v
  | 0x40030 => s.writeLce own sec a v
  | 0x400D0 => if R.LCS_CMD ≤ a ∧ a ≤ R.LCS_CMD_RES then (if a = R.LCS_CMD then s.lcsWrite own sec v none else s.regStore a v) else s.regStore a v
  | 0x40008 => s.writeFlu own sec a v
  | 0x40000 => s.writePwr a v
  | 0x40004 => s.writeClk a v
  | 0x40001 => s.writeRst own a v
  | 0x40002 => s.writeKnd own sec a v
  | 0x40010 => s.writeFlc own a v
  | 0x40011 => s.writeUpd own a v
  | 0x40009 => s.writeAsh own sec a v
  | 0x40080 => s.writeLum a v
  | 0x40081 => s.writeMet own a v
  | 0x40090 => s.writeSe a v
  | 0x40091 => s.writeSe a v
  | 0x40092 => s.writeSe a v
  | 0x40093 => s.writeSe a v
  | 0x40098 => s.writeTmr a v
  | 0x4009A => s.writeAdc a v
  | 0x40005 => s.writeSup own a v
  | 0x40006 => s.writePad who a v
  | p => if 0x40020 ≤ p ∧ p ≤ 0x40027 then s.writePage a v else s.regStore a v

end Sys2Proof.Machine
end

