-- ==== Sys2Proof/Machine/Bus.lean ====
section
/-! DEFINITION. The bus: which initiators can make accesses, the checks every access meets in order, accesses to registers and to memory
(R6-R8, R16-R20, R26, R27), and the beats of a DMA channel (R32, R33). -/

namespace Sys2Proof.Machine

/-- The initiator can make accesses: the device runs, Kindling is done, and no deferred reset stops it (R306, R315). -/
def State.live (s : State) (who : Initiator) : Bool :=
  let up := decide (s.pwr.state = .run) && s.fb F.KND_STAT_DONE
  match who with
  | .coreA _ => up && s.coreRuns .a
  | .coreB _ => up && s.coreRuns .b
  | .dma c => up && s.dmaActive c && s.rst.deferred.isEmpty
  | .debug => up
  | _ => up && s.rst.deferred.isEmpty

/-! ## Registers -/

/-- An access that has passed alignment and decoding: the ownership check, then the read or the write. Radio B's registers do not exist on
a DNL-7210 (R1, R2): they read zero and ignore writes. Alignment and the owner model come first there as in every block, so an access of HOST
or a write that R191 forbids faults on that part too (log 79, DESIGN CHOICE). -/
def State.regPermitted (s : State) (who : Initiator) (a : Nat) (acc : Access) : State :=
  let own := s.owner who
  let sec := s.secure who
  match acc with
  | .write v =>
    let x := s.regSyn own sec a true
    if x ≠ 0 then s.forbid who a true x
    else
      let s := s.answer 0
      if a / 0x1000 = 0x40060 ∧ s.hasB = false then s
      else if a % 0x1000 = 0xFFC ∧ assignPages.contains (a / 0x1000) then s.blockOwnWrite who a v
      else if a % 0x1000 = 0xFFC ∧ 0x40020 ≤ a / 0x1000 ∧ a / 0x1000 ≤ 0x40027 then s.pageOwnWrite who (a / 0x1000 - 0x40020) v
      else s.regWrite who a v
  | _ =>
    let x := s.regSyn own sec a false
    if x ≠ 0 then s.forbid who a false x
    else if a / 0x1000 = 0x40060 ∧ s.hasB = false then s.answer 0
    else
      let r := s.regRead (s.capKey who) own sec a
      r.2.answer r.1

/-- An access to a block's registers (R6, R7): words only. An access that fails two checks gets the syndrome of the first of: EXEC for a
fetch, ALIGN, the owner model (log 79, DESIGN CHOICE). -/
def State.regAccess (s : State) (who : Initiator) (a : Nat) (sz : Size) (acc : Access) : State :=
  if acc = .fetch then s.forbid who a false synExec
  else if a % sz.octets ≠ 0 ∨ sz ≠ .word then s.busFault who a acc.isWrite synAlign
  else s.regPermitted who a acc

/-! ## Memory -/

/-- A core fetches here (R17). -/
def fetchOk (who : Initiator) (a : Nat) : Bool := match who.core, regionOf a with
  | some _, .rom => true
  | some .a, .sram b => decide (b < 4)
  | some .b, .sram b => decide (4 ≤ b) && decide (b < 8)
  | _, _ => false

/-- The memory that carries ECC: its unit is the aligned word, and 16 octets in flash (R19, R332). -/
def eccUnit (a : Nat) : List Nat :=
  if isFlash a then (List.range 4).map (fun i => a / 16 * 16 + 4 * i) else [a / 4 * 4]

/-- An octet of flash no program has reached since the block's erase: it reads 0xFF without an ECC error (R332). -/
def State.unwritten (s : State) (a : Nat) : Bool :=
  !(s.blk (blockOf a)).suspect && decide ((s.blk (blockOf a)).ptr ≤ pageOf a % 256)

/-- An error that the access meets: a single one is corrected, and counted in flash; a double one makes the unit uncorrectable. Erased flash
reads without an error. -/
def State.eccUpset (s : State) (a : Nat) (u : Upset) : State := match regionOf a with
  | .rom => s
  | .flash => if s.unwritten a then s else match u with
    | .none => s
    | .single => s.fsat F.FLC_ECC_CNT_COR
    | .double => s.mEccBad (fun l => eccUnit a ++ l.filter (fun x => !(eccUnit a).contains x))
  | _ => if u = .double then s.mEccBad (fun l => eccUnit a ++ l.filter (fun x => !(eccUnit a).contains x)) else s

/-- An uncorrectable error on the bus (R19, R332): in flash its address and count are recorded. -/
def State.eccFault (s : State) (who : Initiator) (a : Nat) (wr : Bool) : State :=
  (s.eccNote a).busFault who a wr synEcc

/-- The descriptor whose word an address of link RAM is: queue, index and word. -/
def descAt (a : Nat) : Option (Nat × (Nat × Nat)) :=
  if 0x30079000 ≤ a ∧ a < 0x3007D000 then some ((a - 0x30079000) / 0x200, (a % 0x200 / 8, a % 8 / 4)) else none

/-- An owner's write to a descriptor (R65, R67, R69): an RX descriptor keeps what Hearth wrote; a TX descriptor takes the owner's fields,
and ST and CODE stay between RECL and PROD and become zero elsewhere. -/
def State.descFix (s0 s : State) (q i : Nat) : State :=
  let a := 0x30079000 + 0x200 * q + 8 * i
  if 16 ≤ q then s0
  else
    let old := s0.lw a
    let new := s.lw a
    let keep := s0.descHeld q i
    let w := wSetField (wSetField new 31 30 (if keep then wField old 31 30 else 0)) 23 16 (if keep then wField old 23 16 else 0)
    (s.sw a (wSetField w 13 11 0)).sw (a + 4) (wSetField (s.lw (a + 4)) 10 8 0)

/-- The store of a permitted write. -/
def State.memStore (s : State) (a : Nat) (sz : Size) (v : Word) : State :=
  let s' := (s.st a sz.octets v.toNat).eccFix a (a + sz.octets)
  match descAt a with
  | some (q, (i, _)) => s.descFix s' q i
  | none => s'

/-- An access that has passed alignment, decoding and ownership, and the flash bank's check. -/
def State.memPermitted (s : State) (who : Initiator) (a : Nat) (sz : Size) (acc : Access) : State :=
  let bad := (eccUnit a).any (fun x => s.eccBad.contains x)
  match acc with
  | .write v => if bad && sz != .word then s.eccFault who a true else (s.memStore a sz v).answer 0
  | _ => if bad then (s.suspectHit a).eccFault who a false else ((s.suspectHit a).answer (w32 (s.ld a sz.octets)))

/-- An access to memory: alignment, then fetch permission (a fetch from any other address, mapped or not, is EXEC: R17), the map, ownership,
flash and ECC (R16-R20, R26, R27). The order is the model's own where two checks fail (log 79, DESIGN CHOICE). -/
def State.memAccess (s : State) (who : Initiator) (a : Nat) (sz : Size) (acc : Access) (u : Upset) : State :=
  let wr := acc.isWrite
  if a % sz.octets ≠ 0 then s.busFault who a wr synAlign
  else if acc = .fetch ∧ fetchOk who a = false then s.forbid who a false synExec
  else if regionOf a = .unmapped then s.busFault who a wr synDecode
  else
    let x := s.memSynOf who a wr
    if x = synWrite then s.busFault who a wr x
    else if x ≠ 0 then s.forbid who a wr x
    else if isFlash a && s.bankBusy (blockOf a / 64) then s.busFault who a wr synBusy
    else (s.eccUpset a u).memPermitted who a sz acc

/-- Any access of an initiator. -/
def State.access (s : State) (who : Initiator) (a : Nat) (sz : Size) (acc : Access) (u : Upset) : State :=
  match regionOf a with
  | .periph _ => s.regAccess who a sz acc
  | _ => s.memAccess who a sz acc u

/-- A word access to a register, as the commands that name one make it. -/
def State.regTo (s : State) (who : Initiator) (a : Nat) (acc : Access) : State :=
  if s.live who then s.regAccess who a .word acc else s

/-! ## DMA beats (R32, R33) -/

/-- The width of a descriptor's transfers. -/
def dmaSize (ctl : Word) : Size := match wField ctl 29 28 with
  | 0 => .byte
  | 1 => .half
  | _ => .word

/-- A paced descriptor's transfer waits for its peripheral's request (R32). -/
def State.dmaPaced (s : State) (x : DmaCh) : Bool := wBit x.ctl 25 && !s.dmaReq (wField x.ctl 21 16)

/-- One transfer, of a paced descriptor for one request: read, write, then the addresses and the count; a failing access stops the channel. -/
def State.dmaBeat (s : State) (c : Nat) (u : Upset) : State :=
  let x := s.dch c
  if s.live (.dma c) = false ∨ x.waiting ∨ s.dmaPaced x then s
  else
    let s := if wBit x.ctl 25 then s.dmaServe (wField x.ctl 21 16) else s
    let sz := dmaSize x.ctl
    let s := s.access (.dma c) x.src sz .read u
    if s.bus.fault ≠ 0 then s.dmaError c (dmaCode s.bus.fault)
    else
      let s := s.access (.dma c) x.dst sz (.write s.bus.data) .none
      if s.bus.fault ≠ 0 then s.dmaError c (dmaCode s.bus.fault)
      else if s.dmaActive c = false then s
      else
        let s := s.mDma (fun l => modAt l c (fun y => { y with
          src := if wBit y.ctl 27 then (y.src + sz.octets) % 0x100000000 else y.src
          dst := if wBit y.ctl 26 then (y.dst + sz.octets) % 0x100000000 else y.dst }))
        let n := s.fg (F.DMA_CHn_STAT_REM c)
        let s := s.fp (F.DMA_CHn_STAT_REM c) (n - 1)
        if n ≤ 1 then s.dmaDescEnd c else s

end Sys2Proof.Machine
end

