-- ==== Sys2Proof/Machine/Access.lean ====
section
/-! DEFINITION. Accesses, interrupts and DMA: the commands of Tables 1-1 to 1-9 (R6-R37, R43). -/

namespace Sys2Proof.Machine

/-- A write of a register. -/
def State.reg (s : State) (who : Initiator) (a : Nat) (v : Word) : State := s.regTo who a (.write v)

/-- A command word: the operation `op` in its field, and GO. -/
def cmdWord (v : Word) (hi lo op : Nat) : Word := wSetField (wSetField v 31 31 1) hi lo op

/-- An operation on one of a block's registers, with an operand that no register holds: `f` stands for the write's effect. -/
def State.regGuard (s : State) (who : Initiator) (a : Nat) (f : State → State) : State :=
  if s.live who = false then s
  else
    let x := s.regSyn (s.owner who) (s.secure who) a true
    if x ≠ 0 then s.forbid who a true x else f (s.answer 0)

/-- REGISTER_WRITE (R6). -/
def execRegisterWrite (who : Initiator) (a : Nat) (sz : Size) (v : Word) (s : State) : Result :=
  (if s.live who then s.regAccess who a sz (.write v) else s).done

/-- MEMORY_ACCESS (R19). -/
def execMemoryAccess (who : Initiator) (a : Nat) (sz : Size) (acc : Access) (u : Upset) (s : State) : Result :=
  (if s.live who then s.access who a sz acc u else s).done

/-- OWNERSHIP_WRITE (R24). -/
def execOwnershipWrite (who : Initiator) (a : Nat) (v : Word) (s : State) : Result := (s.reg who a v).done

/-- CLEAR_ON_READ (R10). -/
def execClearOnRead (who : Initiator) (a : Nat) (s : State) : Result := (s.regTo who a .read).done

/-- COUNTER_LOW_READ (R37). -/
def execCounterLowRead (who : Initiator) (a : Nat) (s : State) : Result := (s.regTo who a .read).done

/-- ACTIVE_SET_CAPTURE_READ (R43). -/
def execActiveSetCaptureRead (who : Initiator) (a : Nat) (s : State) : Result := (s.regTo who a .read).done

/-! ## Interrupts -/

/-- A core's claim register. -/
def claimReg : CoreId → Nat
  | .a => R.INT_CLAIM_A
  | .b => R.INT_CLAIM_B

/-- A core's end-of-service register. -/
def doneReg : CoreId → Nat
  | .a => R.INT_DONE_A
  | .b => R.INT_DONE_B

/-- INT_CLAIM (R30). -/
def execIntClaim (who : Initiator) (c : CoreId) (s : State) : Result := (s.regTo who (claimReg c) .read).done

/-- INT_DONE (R30). -/
def execIntDone (who : Initiator) (c : CoreId) (v : Word) (s : State) : Result := (s.reg who (doneReg c) v).done

/-- INT_DOORBELL (R30). -/
def execIntDoorbell (who : Initiator) (v : Word) (s : State) : Result := (s.reg who R.INT_DOORBELL v).done

/-- INT_CFG_WRITE (R29). -/
def execIntCfgWrite (who : Initiator) (n : Fin 96) (v : Word) (s : State) : Result := (s.reg who (R.INT_CFGn n) v).done

/-! ## DMA -/

/-- DMA_CLAIM (R31). -/
def execDmaClaim (who : Initiator) (c : Fin 16) (v : Word) (s : State) : Result := (s.reg who (R.DMA_CHn_CFG c) v).done

/-- DMA_START (R32). -/
def execDmaStart (who : Initiator) (c : Fin 16) (s : State) : Result := (s.reg who (R.DMA_CHn_CTL c) 1).done

/-- DMA_STOP (R33). -/
def execDmaStop (who : Initiator) (c : Fin 16) (s : State) : Result := (s.reg who (R.DMA_CHn_CTL c) 2).done

/-- DMA_ABORT (R33). -/
def execDmaAbort (who : Initiator) (c : Fin 16) (s : State) : Result := (s.reg who (R.DMA_CHn_CTL c) 4).done

/-- DMA_BEAT (R32): `u` is what the ECC of the source finds. -/
def execDmaBeat (c : Fin 16) (u : Upset) (s : State) : Result := (s.dmaBeat c u).done

end Sys2Proof.Machine
end

