-- ==== Sys2Proof/Machine/FlashCmds.lean ====
section
/-! DEFINITION. The flash controller's commands (R339-R345) and the Ash log's (R389-R405). -/

namespace Sys2Proof.Machine

/-- GO of a flash slot with an operation. -/
def State.flashOp (s : State) (who : Initiator) (k : Fin 7) (op : Nat) : State := s.reg who (R.FLC_CMDs k) (cmdWord 0 27 24 op)

/-- FLASH_PROGRAM (R340). -/
def execFlashProgram (who : Initiator) (k : Fin 7) (s : State) : Result := (s.flashOp who k 1).done

/-- FLASH_ERASE (R339). -/
def execFlashErase (who : Initiator) (k : Fin 7) (s : State) : Result := (s.flashOp who k 2).done

/-- FLASH_QUERY (R339). -/
def execFlashQuery (who : Initiator) (k : Fin 7) (s : State) : Result := (s.flashOp who k 3).done

/-- FLASH_CANCEL (R341); the other fields of the command register are written with it. -/
def execFlashCancel (who : Initiator) (k : Fin 7) (v : Word) (s : State) : Result := (s.reg who (R.FLC_CMDs k) (wSetField v 31 30 1)).done

/-- FLASH_STEP_END (R343). -/
def execFlashStepEnd (e : StepEnd) (s : State) : Result := (s.flcStepEnd e).done

/-- FLASH_PAUSE (R345). -/
def execFlashPause (who : Initiator) (v : Word) (s : State) : Result := (s.reg who R.FLC_PAUSE v).done

/-- An identity's pause request for a bank lapses, and PAUSE_EXP is set; nothing happens where it holds none (R345). -/
def State.pauseLapse (s : State) (id bank : Nat) : State :=
  let p := s.flcPauseOf id
  if (if bank = 0 then p.1 else p.2) = false then s
  else
    let q := if bank = 0 then (false, p.2) else (p.1, false)
    (s.mFlc (fun f => { f with pause := if q = (false, false) then alDel f.pause id else alSet f.pause id q })).fset F.FLC_EVT_PAUSE_EXP

/-- PAUSE_EXPIRY (R345): 20 ms after identity `id` set its request for a bank. -/
def execPauseExpiry (id : Nat) (bank : Fin 2) (s : State) : Result := (s.pauseLapse id bank).done

/-! ## The Ash log -/

/-- ASH_SOFTWARE_RECORD (R403). -/
def execAshSoftwareRecord (who : Initiator) (v : Word) (s : State) : Result := (s.reg who R.ASH_WR_CODE v).done

/-- ASH_FLUSH (R394): GO; the flue's task and the engine's own causes start a flush within their own commands. -/
def execAshFlush (who : Initiator) (s : State) : Result := (s.reg who R.ASH_FLUSH 1).done

/-- ASH_REBUILD (R400). -/
def execAshRebuild (s : State) : Result := s.ashRebuild.done

/-- ASH_CLEAR (R401). -/
def execAshClear (who : Initiator) (s : State) : Result := (s.reg who R.ASH_CLR_CMD 0x80000000).done

/-- ASH_READ_REQUEST (R402). -/
def execAshReadRequest (who : Initiator) (v : Word) (s : State) : Result := (s.reg who R.ASH_RD_SEQ v).done

/-- The read port answers the request it holds, once the ring is rebuilt (R400). -/
def State.ashReadEnd (s : State) : State := match s.ash.readReq with
  | some q => if s.ash.ready = false then s else ((s.mAsh (fun x => { x with readReq := none })).ashRead q).fp (CsId.ashRd).state 2
  | none => s

/-- ASH_READ_DONE (R402). -/
def execAshReadDone (s : State) : Result := s.ashReadEnd.done

end Sys2Proof.Machine
end

