-- ==== Sys2Proof/Machine/HearthCmds.lean ====
section
/-! DEFINITION. Hearth's start, slots, recovery, queues and buffers (R51-R91), its schedule and profiles (R112-R130), and join windows. -/

namespace Sys2Proof.Machine

/-! ## Start, slots, recovery -/

/-- HEARTH_START (R54); it waits while the TRNG gives no word for the salt (R254), and while a step runs in bank 0, whose reservation area and
configuration it reads (R342, R347). -/
def execHearthStart (s : State) : Result := (if s.trngFail || s.bankBusy 0 then s.hearthWait else s.hearthStart).done

/-- SEQUENCER_VOTE (R51). -/
def execSequencerVote (threeWay : Bool) (s : State) : Result := (s.seqVote threeWay).done

/-- SLOT_BOUNDARY (R90): what it finds outside the registers (R78, R114, R370), and the µs to the radio's next armed action. -/
def execSlotBoundary (t : Tl) (e : SlotEdge) (gap : Nat) (s : State) : Result := (s.boundary t e.ripe e.joint e.lateGo gap).done

/-- SLOT_ARM (R80): the record is in time; a calibration may take the slot's place (R178). -/
def execSlotArm (t : Tl) (inTime cal : Bool) (s : State) : Result := (s.slotArm t inTime cal).done

/-- LOCKSTEP_MISMATCH (R81). -/
def execLockstepMismatch (s : State) : Result := s.mismatch.done

/-- LOCKSTEP_RECOVERY (R81). -/
def execLockstepRecovery (crcOk : Bool) (us : Nat) (s : State) : Result := (s.recoverEnd crcOk us).done

/-- HEARTH_FATAL (R85). -/
def execHearthFatal (s : State) : Result := s.hearthFatal.done

/-! ## Queues and buffers -/

/-- QUEUE_PROD_WRITE (R58). -/
def execQueueProdWrite (who : Initiator) (q : Fin 32) (v : Word) (s : State) : Result := (s.reg who (R.HRT_Qn_PROD q) v).done

/-- QUEUE_RECL_WRITE (R58). -/
def execQueueReclWrite (who : Initiator) (q : Fin 32) (v : Word) (s : State) : Result := (s.reg who (R.HRT_Qn_RECL q) v).done

/-- QUEUE_FLUSH (R62). -/
def execQueueFlush (who : Initiator) (q : Fin 32) (s : State) : Result := (s.reg who (R.HRT_Qn_FLUSH q) 1).done

/-- BUFFER_ALLOC (R71). -/
def execBufferAlloc (who : Initiator) (s : State) : Result := (s.regTo who R.HRT_BUF_ALLOC .read).done

/-- BUFFER_RETURN (R71). -/
def execBufferReturn (who : Initiator) (v : Word) (s : State) : Result := (s.reg who R.HRT_BUF_RET v).done

/-- DESCRIPTOR_WRITE (R69): word `w` of descriptor `i` of queue `q`. -/
def execDescriptorWrite (who : Initiator) (q : Fin 32) (k : Fin 64) (w : Fin 2) (v : Word) (s : State) : Result :=
  (if s.live who then s.memAccess who (descAddr q k + 4 * w) .word (.write v) .none else s).done

/-! ## Schedule -/

/-- SCHEDULE_CELL_EDIT (R112). -/
def execScheduleCellEdit (who : Initiator) (v : Word) (s : State) : Result := (s.reg who R.HRT_SCH_HI v).done

/-- SCHEDULE_SF_EDIT (R112). -/
def execScheduleSfEdit (who : Initiator) (v : Word) (s : State) : Result := (s.reg who R.HRT_SCH_SF v).done

/-! ## Clock models, profiles, the ledger, exclusion lists -/

/-- MODEL_AGE_CHECK (R136). -/
def execModelAgeCheck (s : State) : Result := (s.pairDo .modelAges).done

/-- DIE_SAMPLE (R115): `temp` in 1/16 °C. In BANKED the budget and the charger follow it (R292, R460). -/
def execDieSample (temp : Int) (s : State) : Result := ((s.dieSample temp).budgetRecheck temp).done

/-- VIN_DEBOUNCE_EXPIRY (R127): a debounce that an interruption restarted, or that began before Hearth's start, has no expiry of its own. -/
def execVinDebounceExpiry (s : State) : Result := s.vinSteady.done

/-- Every sub-band's oldest bucket leaves the window. -/
def State.ledgerSecond (s : State) : State := s.mHrt (fun h => { h with ledger := h.ledger.map ledgerShift })

/-- LEDGER_SECOND (R130). -/
def execLedgerSecond (s : State) : Result := s.ledgerSecond.done

/-- EXCL_HOLD_EXPIRY (R99). -/
def execExclHoldExpiry (t : Tl) (ch : Nat) (s : State) : Result := (s.exclExpire t ch).done

/-- EXCLUSION_VERSION_CREATE (R100). -/
def execExclusionVersionCreate (t : Tl) (s : State) : Result := (s.exclVersion t).done

/-! ## Joining, polling -/

/-- JOIN_COLLECT_EXPIRY (R110). -/
def execJoinCollectExpiry (t : Tl) (s : State) : Result := (s.pairDo (.collect t)).done

/-- JOIN_WINDOW_OPEN (R111). -/
def execJoinWindowOpen (t : Tl) (s : State) : Result := (s.joinOpen t).done

/-- JOIN_WINDOW_CLOSE (R111). -/
def execJoinWindowClose (t : Tl) (s : State) : Result := (s.joinClose t).done

/-- OPEN_POLL_REPOLL (R125). -/
def execOpenPollRepoll (t : Tl) (s : State) : Result := (s.repoll t).done

end Sys2Proof.Machine
end

