-- ==== Sys2Proof/Machine/Lamp.lean ====
section
/-! DEFINITION. The lamp outputs, metrology, the ADC, motion, timers and serial engines (R426-R451). What the bus, the
board or an engine does while the domain PER is off reaches no block (`perDo`, R15); the motion detector is in AON. -/

namespace Sys2Proof.Machine

/-! ## DALI -/

/-- DALI_SEND (R428). -/
def execDaliSend (who : Initiator) (s : State) : Result := (s.reg who R.LUM_DALI_CTL 1).done

/-- DALI_ABORT (R428). -/
def execDaliAbort (who : Initiator) (s : State) : Result := (s.reg who R.LUM_DALI_CTL 2).done

/-- DALI_COLLISION (R429). -/
def execDaliCollision (s : State) : Result := (s.perDo State.daliCollision).done

/-- DALI_SEND_END (R428): what came back: nothing, a backward frame that is no frame, or its octet. -/
def execDaliSendEnd (heard : Option (Option Nat)) (s : State) : Result := (s.perDo (fun s => s.daliSent heard)).done

/-- DALI_FRAME_RECEIVED (R430): its type (0 16-bit, 1 24-bit, 2 backward, 3 framing error) and data. -/
def execDaliFrameReceived (ty data : Nat) (s : State) : Result := (s.perDo (fun s => s.daliReceived ty data)).done

/-- DALI_RX_POP (R430). -/
def execDaliRxPop (who : Initiator) (s : State) : Result := (s.reg who R.LUM_DALI_CTL 4).done

/-- DALI_BUS_DOWN (R430). -/
def execDaliBusDown (s : State) : Result := (s.perDo State.daliDown).done

/-- DALI_BUS_UP (R430). -/
def execDaliBusUp (s : State) : Result := (s.perDo State.daliUp).done

/-! ## Dimming and relays -/

/-- DIM_APPLY (R431). -/
def execDimApply (who : Initiator) (v : Word) (s : State) : Result := (s.reg who R.LUM_DIM_CTL (wSetField v 0 0 1)).done

/-- DIM_RAMP_STEP (R431). -/
def execDimRampStep (s : State) : Result := (s.perDo State.dimStep).done

/-- DIM_FAULT (R432). -/
def execDimFault (s : State) : Result := (s.perDo State.dimFault).done

/-- RELAY_PULSE (R433): relay A is 0, relay B is 1. -/
def execRelayPulse (who : Initiator) (r : Fin 2) (v : Word) (s : State) : Result := (s.reg who R.LUM_RLY_CTL (wSetField v r r 1)).done

/-- RELAY_SWITCH (R433). -/
def execRelaySwitch (who : Initiator) (v : Word) (s : State) : Result := (s.reg who R.LUM_RLY_CTL (wSetField v 1 0 0)).done

/-- RELAY_PULSE_END (R433). -/
def execRelayPulseEnd (r : Fin 2) (s : State) : Result := (s.perDo (fun s => s.rlyPulseEnd r)).done

/-- RELAY_FAULT (R435). -/
def execRelayFault (r : Fin 2) (s : State) : Result := (s.perDo (fun s => s.rlyTrip r)).done

/-! ## Metrology, ADC, motion -/

/-- MET_PUBLISH (R438). -/
def execMetPublish (m : MetVals) (s : State) : Result := (s.perDo (fun s => s.metPublish m)).done

/-- MET_ZERO_CROSS (R438). -/
def execMetZeroCross (s : State) : Result := (s.perDo State.metZero).done

/-- MET_SNAPSHOT (R439). -/
def execMetSnapshot (who : Initiator) (s : State) : Result := (s.reg who R.MET_CTL 1).done

/-- MET_CLEAR_ENERGY (R439). -/
def execMetClearEnergy (who : Initiator) (s : State) : Result := (s.reg who R.MET_CTL 2).done

/-- ADC_SAMPLE (R441). -/
def execAdcSample (who : Initiator) (s : State) : Result := (s.reg who R.ADC_CTL 1).done

/-- ADC_SEQUENCE_DONE (R441): the next results, in the order of the sequence; with the last of them it is done. -/
def execAdcSequenceDone (results : List Nat) (s : State) : Result := (s.perDo (fun s => s.adcDone results)).done

/-- MOTION_EDGE (R443): an edge of MOT_IN that has passed its debounce. -/
def execMotionEdge (rising : Bool) (s : State) : Result := (s.motionEdge rising).done

/-- MOTION_REPORT_WRITE (R443). -/
def execMotionReportWrite (who : Initiator) (s : State) : Result := (s.reg who R.LUM_MOT_REPORT 1).done

/-! ## Timers -/

/-- TMR_START (R444). -/
def execTmrStart (who : Initiator) (t : Fin 4) (s : State) : Result := (s.reg who (R.TMR_CTLt t) 1).done

/-- TMR_STOP (R444): `count`, the count of a running timer. -/
def execTmrStop (who : Initiator) (t : Fin 4) (count : Nat) (s : State) : Result :=
  (s.regGuard who (R.TMR_CTLt t) (fun s => s.tmrCtl t 2 count)).done

/-- TMR_CAPTURE (R444). -/
def execTmrCapture (who : Initiator) (t : Fin 4) (count : Nat) (s : State) : Result :=
  (s.regGuard who (R.TMR_CTLt t) (fun s => s.tmrCtl t 4 count)).done

/-- TMR_CAPTURE_EDGE (R444): an edge on one of the pins that can carry TMRt_IO1. -/
def execTmrCaptureEdge (io : TmrIo) (count : Nat) (rising : Bool) (s : State) : Result := (s.perDo (fun s => s.tmrPinEdge io count rising)).done

/-- TMR_COMPARE (R444). -/
def execTmrCompare (t : Fin 4) (k : Fin 2) (s : State) : Result := (s.perDo (fun s => s.tmrCompare t k)).done

/-- TMR_OVERFLOW (R444). -/
def execTmrOverflow (t : Fin 4) (s : State) : Result := (s.perDo (fun s => s.tmrOverflow t)).done

/-! ## Serial engines -/

/-- SE_START (R446). -/
def execSeStart (who : Initiator) (n : Fin 4) (s : State) : Result := (s.reg who (R.SEn_CTL n) 1).done

/-- SE_ABORT (R451). -/
def execSeAbort (who : Initiator) (n : Fin 4) (s : State) : Result := (s.reg who (R.SEn_CTL n) 2).done

/-- SE_FLUSH (R451). -/
def execSeFlush (who : Initiator) (n : Fin 4) (s : State) : Result := (s.reg who (R.SEn_CTL n) 4).done

/-- SE_TRANSFER_END (R446): octets sent from the TX FIFO, octets received, and how it went; a transfer with octets left goes on. -/
def execSeTransferEnd (n : Fin 4) (sent : Nat) (got : List Byte) (e : SeEnd) (s : State) : Result := (s.perDo (fun s => s.seEnd n sent got e)).done

/-- SE_RX_OCTET (R445). -/
def execSeRxOctet (n : Fin 4) (o : Byte) (parity framing : Bool) (s : State) : Result := (s.perDo (fun s => s.seRx n o parity framing)).done

/-- SE_TXD_WRITE (R451). -/
def execSeTxdWrite (who : Initiator) (n : Fin 4) (v : Word) (s : State) : Result := (s.reg who (R.SEn_TXD n) v).done

/-- SE_RXD_READ (R451). -/
def execSeRxdRead (who : Initiator) (n : Fin 4) (s : State) : Result := (s.regTo who (R.SEn_RXD n) .read).done

end Sys2Proof.Machine
end

