-- ==== Sys2Proof/Machine/Neighbours.lean ====
section
/-! DEFINITION. Neighbour commands and command sets (R143, R145, R147, R158, R162-R164). -/

namespace Sys2Proof.Machine

/-- GO of HRT_NBR_CMD with operation `op` (Table 4-10). -/
def State.nbrOp (s : State) (who : Initiator) (op : Nat) (v : Word) : State := s.reg who R.HRT_NBR_CMD (cmdWord v 30 27 op)

/-- NBR_ADD (R162). -/
def execNbrAdd (who : Initiator) (v : Word) (s : State) : Result := (s.nbrOp who 1 v).done

/-- NBR_REMOVE (R147). -/
def execNbrRemove (who : Initiator) (v : Word) (s : State) : Result := (s.nbrOp who 2 v).done

/-- NBR_PIN (R162). -/
def execNbrPin (who : Initiator) (v : Word) (s : State) : Result := (s.nbrOp who 3 v).done

/-- NBR_UNPIN (R162). -/
def execNbrUnpin (who : Initiator) (v : Word) (s : State) : Result := (s.nbrOp who 4 v).done

/-- NBR_BLOCK (R162). -/
def execNbrBlock (who : Initiator) (v : Word) (s : State) : Result := (s.nbrOp who 5 v).done

/-- NBR_LOOKUP (R162). -/
def execNbrLookup (who : Initiator) (v : Word) (s : State) : Result := (s.nbrOp who 6 v).done

/-- NBR_SET_SHORT (R145). -/
def execNbrSetShort (who : Initiator) (v : Word) (s : State) : Result := (s.nbrOp who 7 v).done

/-- NBR_ADD_CHILD (R158). -/
def execNbrAddChild (who : Initiator) (v : Word) (s : State) : Result := (s.nbrOp who 8 v).done

/-- NBR_DEL_CHILD (R158). -/
def execNbrDelChild (who : Initiator) (v : Word) (s : State) : Result := (s.nbrOp who 9 v).done

/-- The registers of a command set that hold its arguments, its command register last (R163). -/
def csRegs : CsId → List Nat
  | .nbr => [R.HRT_NBR_ADDR_LO, R.HRT_NBR_ADDR_HI, R.HRT_NBR_SHORT, R.HRT_NBR_CMD]
  | .vlt => [R.VLT_CMD_IN, R.VLT_CMD_LEN, R.VLT_CMD_OUT, R.VLT_CMD]
  | .pk c => [R.VLT_PK_ARGc c, R.VLT_PK_CTLc c]
  | .lce => [R.LCE_JOB_SRC, R.LCE_JOB_DST, R.LCE_JOB_LEN, R.LCE_JOB_IVn 0, R.LCE_JOB_IVn 1, R.LCE_JOB_IVn 2, R.LCE_JOB_IVn 3, R.LCE_JOB_CTL]
  | .knd => (List.range 8).map (fun i => R.KND_OPT_STGm i) ++ [R.KND_OPT_ARG, R.KND_OPT_CMD]
  | .upd => [R.UPD_SRC, R.UPD_OFF, R.UPD_LEN, R.UPD_CMD]
  | .ashRd => [R.ASH_RD_SEQ]
  | .ashClr => [R.ASH_CLR_TOKEN, R.ASH_CLR_CMD]

/-- COMMAND_SET_WRITE (R163): the `i`-th register of the set; commands without GO. -/
def execCommandSetWrite (who : Initiator) (x : CsId) (k : Nat) (v : Word) (s : State) : Result :=
  (s.reg who (nth (csRegs x) k x.res) v).done

/-- COMMAND_RESULT_READ (R163). -/
def execCommandResultRead (who : Initiator) (x : CsId) (s : State) : Result := (s.regTo who x.res .read).done

/-- COMMAND_SET_LAPSE (R163): 10 ms have passed since the holder's last write. -/
def execCommandSetLapse (x : CsId) (s : State) : Result := (s.csLapse x).done

/-- NEIGHBOUR_AGE_CHECK (R147). -/
def execNeighbourAgeCheck (s : State) : Result := (s.pairDo .nbrAges).done

/-- CHILD_TIMEOUT_CHECK (R158). -/
def execChildTimeoutCheck (s : State) : Result := (s.pairDo .childAges).done

/-- CAM places move into ways that have come free, in both indices (R143). -/
def State.camMoves (s : State) : State :=
  (s.mHrt (fun h => { h with
    extIdx := camMove h.extIdx (fun n => s.bucketExt (s.nbrExt n) (s.nbrTl n))
    shortIdx := camMove h.shortIdx (fun n => s.bucketShort (s.mg (N.SHORT n)) (s.nbrTl n)) })).camShow

/-- INDEX_CAM_MOVE (R143). -/
def execIndexCamMove (s : State) : Result := s.camMoves.done

end Sys2Proof.Machine
end

