-- ==== Sys2Proof/Machine/Pins.lean ====
section
/-! DEFINITION. Supplies, the charger, I/O banks (R455-R465) and pins (R481-R487, R298). Levels are in mV. -/

namespace Sys2Proof.Machine

/-- VIN_UNDERVOLTAGE (R455). -/
def execVinUndervoltage (mv : Nat) (s : State) : Result := (s.vinDown mv).done

/-- VIN_RELEASE (R455). -/
def execVinRelease (mv : Nat) (s : State) : Result := (s.vinUp mv).done

/-- POWER_FAIL_WARNING (R456). -/
def execPowerFailWarning (mv : Nat) (s : State) : Result := (s.powerFail mv).done

/-- PFW_DEASSERT (R456). -/
def execPfwDeassert (mv : Nat) (s : State) : Result := (s.pfwOff mv).done

/-- VSYS_LOW (R457). -/
def execVsysLow (mv gap : Nat) (s : State) : Result := (s.vsysLow mv gap).done

/-- SUPPLY_SAMPLE (R458). -/
def execSupplySample (vin vkeep vsys : Nat) (s : State) : Result := (s.supplySample vin vkeep vsys).done

/-- CHARGER_PRE_TIMEOUT (R460). -/
def execChargerPreTimeout (s : State) : Result := s.chgPreTimeout.done

/-- CHARGER_TERMINATE (R460). -/
def execChargerTerminate (s : State) : Result := s.chgTerminate.done

/-- CHARGER_VKEEP_LEVEL (R460). -/
def execChargerVkeepLevel (mv : Nat) (s : State) : Result := (s.chgVkeep mv).done

/-- NTC_WINDOW_CHANGE (R461): the ratio at WAKE3 in 1/256. -/
def execNtcWindowChange (ratio : Nat) (s : State) : Result := (s.ntcRatio ratio).done

/-- A bank's number. -/
def ioBankNo : IoBank → Nat
  | .a => 0
  | .b => 1

/-- IO_BANK_LOW (R464). -/
def execIoBankLow (bank : IoBank) (s : State) : Result := (s.ioBankLow (ioBankNo bank)).done

/-- VIO_RETURN (R464). -/
def execVioReturn (bank : IoBank) (s : State) : Result := (s.ioBankBack (ioBankNo bank)).done

/-! ## Pins -/

/-- PAD_CONFIG_WRITE (R481). -/
def execPadConfigWrite (who : Initiator) (n : Fin 64) (v : Word) (s : State) : Result := (s.reg who (R.PAD_CFGn n) v).done

/-- PAD_OUT_SET (R485). -/
def execPadOutSet (who : Initiator) (g : Fin 2) (v : Word) (s : State) : Result := (s.reg who (R.PAD_OUTSET0 + 4 * g) v).done

/-- PAD_OUT_CLEAR (R485). -/
def execPadOutClear (who : Initiator) (g : Fin 2) (v : Word) (s : State) : Result := (s.reg who (R.PAD_OUTCLR0 + 4 * g) v).done

/-- PAD_OUT_TOGGLE (R485). -/
def execPadOutToggle (who : Initiator) (g : Fin 2) (v : Word) (s : State) : Result := (s.reg who (R.PAD_OUTTGL0 + 4 * g) v).done

/-- PAD_RELEASE_BANK (R298). -/
def execPadReleaseBank (who : Initiator) (g : Fin 2) (s : State) : Result := (s.reg who R.PAD_RELEASE (w32 (2 ^ g.val))).done

/-- PAD_RELEASE_LAMP (R298). -/
def execPadReleaseLamp (who : Initiator) (s : State) : Result := (s.reg who R.PAD_RELEASE 4).done

/-- PAD_EDGE (R486): the board moves the pin. -/
def execPadEdge (n : Fin 64) (rising : Bool) (s : State) : Result := (s.padEdge n rising).done

/-- WAKE_PIN_EDGE (R486, Table 9-5): pin WAKEn meets a trigger (the codes of PWR_WAKE_PIN); `n` = 4 is SVC_RX, of which a falling edge (3) counts. -/
def execWakePinEdge (n : Fin 5) (trig : Nat) (s : State) : Result :=
  (if n.val = 4 then (if trig = 3 then s.svcRxFall else s) else s.wakePin n trig).done

end Sys2Proof.Machine
end

