-- ==== Sys2Proof/Machine/Ports.lean ====
section
/-! DEFINITION. The commands of the host and service ports (R406-R423; Tables 14-1 to 14-6). A command comes with the SEQ of its frame and
its whole payload; its frame's checks have passed, but for LEN against Tables 14-4 and 14-6. -/

namespace Sys2Proof.Machine

/-- What a command comes to: a STATUS with its body, or a wait. -/
inductive PortAns where
  | done (status : Nat) (body : List Byte)
  | wait (on : WaitOn)
  deriving DecidableEq, Repr

/-- A STATUS without a body. -/
abbrev PortAns.st (n : Nat) : PortAns := .done n []

/-! ## Accesses -/

/-- A refused access, as FAULT tells it. -/
def State.portFault (s : State) (a : Nat) : PortAns := .done stFault (leBytes 1 s.bus.fault ++ leBytes 4 a)

/-- `n` accesses from address `a` up; the first that fails ends them. -/
def portReads (who : Initiator) (sz : Size) : Nat → Nat → List Byte → State → PortAns × State
  | 0, _, acc, s => (.done stOk acc, s)
  | n + 1, a, acc, s =>
    let s := s.access who a sz .read .none
    if s.bus.fault ≠ 0 then (s.portFault a, s)
    else portReads who sz n (a + sz.octets) (acc ++ leBytes sz.octets s.bus.data.toNat) s

/-- The words or octets of `l` are written from address `a` up; the first access that fails ends them. -/
def portWrites (who : Initiator) (sz : Size) : List Word → Nat → State → PortAns × State
  | [], _, s => (.st stOk, s)
  | v :: t, a, s =>
    let s := s.access who a sz (.write v) .none
    if s.bus.fault ≠ 0 then (s.portFault a, s)
    else portWrites who sz t (a + sz.octets) s

/-- Octets taken as words, each least significant octet first. -/
def wordsOf : Nat → List Byte → List Word
  | 0, _ => []
  | n + 1, l => w32 (ofLe (l.take 4)) :: wordsOf n (l.drop 4)

/-- RD32. -/
def State.portRd32 (s : State) (who : Initiator) (p : List Byte) : PortAns × State :=
  let n := octs p 4 2
  if 1 ≤ n ∧ n ≤ 256 then portReads who .word n (octs p 0 4) [] s else (.st stBadLen, s)

/-- WR32. -/
def State.portWr32 (s : State) (who : Initiator) (p : List Byte) : PortAns × State :=
  portWrites who .word (wordsOf ((p.length - 4) / 4) (p.drop 4)) (octs p 0 4) s

/-- RDMEM. -/
def State.portRdMem (s : State) (who : Initiator) (p : List Byte) : PortAns × State :=
  let n := octs p 4 2
  if 1 ≤ n ∧ n ≤ 2048 then portReads who .byte n (octs p 0 4) [] s else (.st stBadLen, s)

/-- WRMEM. -/
def State.portWrMem (s : State) (who : Initiator) (p : List Byte) : PortAns × State :=
  portWrites who .byte ((p.drop 4).map (fun b => w32 b.toNat)) (octs p 0 4) s

/-- LEN of the four access commands. -/
def accessLen (code n : Nat) : Bool := match code with
  | 0x08 | 0x0A => n == 6
  | 0x09 => decide (8 ≤ n) && decide (n ≤ 1028) && n % 4 == 0
  | _ => decide (5 ≤ n) && decide (n ≤ 2052)

/-! ## The host port -/

/-- LEN lies in the range of Table 14-4. -/
def hostLen (code n : Nat) : Bool := match code with
  | 0x01 | 0x14 => decide (n ≤ 2)
  | 0x02 => n == 4
  | 0x11 => n == 1
  | 0x08 | 0x09 | 0x0A | 0x0B => accessLen code n
  | 0x12 => decide (10 ≤ n) && decide (n ≤ 2056)
  | 0x13 | 0x15 => n == 2
  | 0x16 => n == 20 || n == 36
  | _ => false

/-- The host port's commands. -/
def hostCodes : List Nat := [0x01, 0x02, 0x08, 0x09, 0x0A, 0x0B, 0x11, 0x12, 0x13, 0x14, 0x15, 0x16]

/-- The host port receives: it is on, and a command's accesses can run. -/
def State.hostUp (s : State) : Bool := s.hostOn && s.fb F.HST_STAT_READY && s.live .host

/-- A command's answer goes out, or the port waits. -/
def State.portAnswer (s : State) (svc : Bool) (seq code : Nat) (a : PortAns) : State := match a with
  | .done st body => s.portRespond svc seq code st body
  | .wait on => s.mPort svc (fun p => { p with wait := some (seq, (code, on)) })

/-- The cached response goes out again (R409). -/
def State.portAgain (s : State) (svc : Bool) : State := match (s.port svc).cache with
  | some f => s.mPort svc (fun p => { p with out := p.out ++ [f] })
  | none => s

/-- A host command (R407, R409): `f` executes it, and `after` follows its response where STATUS is OK. By its arrival the frames of before have been sent
(log 95); where that brings a reset the port answers nothing more (R414). -/
def State.hostCmd (s : State) (code seq : Nat) (p : List Byte) (f : State → PortAns × State) (after : State → State) : State :=
  if s.hostUp = false then s
  else
    let s := s.uartSent false
    if s.hostUp = false then s
    else if s.hst.port.last = some (seq, code) then s.portAgain false
    else if hostLen code p.length = false then s.portBadLen false seq code
    else
      let s := ((s.rinc R.HST_CMD_CNT).fp F.HST_STAT_SEQ seq).mPort false (fun x => { x with last := some (seq, code), cache := none })
      let r := f s
      let s := r.2.portAnswer false seq code r.1
      if (match r.1 with
        | .done st _ => st == stOk
        | .wait _ => false) then after s else s

/-- PING. -/
def State.hostPing (s : State) : PortAns × State :=
  (.done stOk (leBytes 4 (s.rd R.LCS_PART_ID).toNat ++ leBytes 4 (s.rd R.HRT_ID).toNat ++ leBytes 2 1), s)

/-- SET_BAUD (R413). -/
def State.hostBaud (s : State) (p : List Byte) : PortAns × State :=
  let b := octs p 0 4
  if 9600 ≤ b ∧ b ≤ 4000000 then (.st stOk, s.wr R.HST_BAUD (w32 b)) else (.st stBadLen, s)

/-- The reset that follows a RESET response once that has been sent (R325). -/
def State.portReset (s : State) (svc cold : Bool) : State := s.mPort svc (fun p => { p with reset := some cold })

/-- The syndrome that HOST, a non-secure owner, meets at a queue: none at a queue of its own whose SEC is 0 (R23, R414). -/
def State.hostSyn (s : State) (q : Nat) : Nat := ownedSyn ownHost false (s.fg (F.HRT_Qn_CFG_OWNER q)) (s.fb (F.HRT_Qn_CFG_SEC q))

/-- A queue that HOST does not reach: the access to its register at `a` is forbidden. -/
def State.hostForbid (s : State) (q a : Nat) : PortAns × State :=
  let s := s.forbid .host a true (s.hostSyn q)
  (s.portFault a, s)

/-- TX_FRAME (R415). -/
def State.hostTx (s : State) (p : List Byte) : PortAns × State :=
  let q := oct p 0
  let area := p.drop 9
  if 16 ≤ q ∨ 2047 < area.length then (.st stBadLen, s)
  else if s.hostSyn q ≠ 0 then s.hostForbid q (R.HRT_Qn_PROD q)
  else match s.bufAlloc ownHost with
    | (none, s) => (.st stNoBuffer, s)
    | (some b, s) =>
      let k := s.fg (F.HRT_Qn_PROD_IDX q)
      let i := k % 64
      let w0 := wSetField (wSetField (wSetField (wSetField (w32 (octs p 1 4)) 31 30 0) 29 24 b) 23 16 0) 13 11 0
      let s := s.putBytes (bufAddr b + 64) area
      let s := (s.sw (descAddr q i) w0).sw (descAddr q i + 4) (wSetField (w32 (octs p 5 4)) 10 8 0)
      let s := s.prodReg q (w32 ((k + 1) % 128))
      if s.fg (F.HRT_Qn_PROD_IDX q) = (k + 1) % 128 then (.done stOk (leBytes 1 i ++ leBytes 1 b), s)
      else (.st stRefused, s.setHolder b ownNone)

/-- RECLAIM (R415, R58). -/
def State.hostReclaim (s : State) (p : List Byte) : PortAns × State :=
  let q := oct p 0
  if 32 ≤ q then (.st stBadLen, s)
  else if s.hostSyn q ≠ 0 then s.hostForbid q (R.HRT_Qn_RECL q)
  else
    let s := s.reclWrite q (oct p 1)
    (.st (if s.fg (F.HRT_Qn_RECL_IDX q) = oct p 1 % 128 then stOk else stRefused), s)

/-- GET_RX: what it answers; the RX_FRAME notification follows. -/
def State.hostGetRx (s : State) (p : List Byte) : PortAns × State :=
  let q := oct p 0
  let i := oct p 1
  if p.length < 2 ∨ q < 16 ∨ 32 ≤ q ∨ 64 ≤ i then (.st stBadLen, s)
  else if s.hostSyn q ≠ 0 then s.hostForbid q (R.HRT_Qn_PROD q)
  else if s.inRing q i && s.mb (D.VERDICT q i) then (.st stOk, s)
  else (.st stState, s)

/-- KEYPAGE (R416). -/
def State.hostKeyPage (s : State) (p : List Byte) : PortAns × State :=
  let n := oct p 0
  if n ≠ 6 ∧ n ≠ 7 then (.st stBadLen, s)
  else if s.fb ⟨R.VLT_PGn_OWN n, 31, 31⟩ then (.st stState, s)
  else if oct p 1 % 2 = 1 then
    if s.pageOwner n = ownHost then (.st stOk, (s.pageWipe n).fp (F.VLT_PGn_OWN_OWNER n) ownNone) else (.st stState, s)
  else if s.pageOwner n = ownNone then (.st stOk, ((s.pageWipe n).fp (F.VLT_PGn_OWN_OWNER n) ownHost).fp ⟨R.VLT_PGn_OWN n, 4, 4⟩ 0)
  else (.st stState, s)

/-- KEY_LOAD (R416, R223). -/
def State.hostKeyLoad (s : State) (p : List Byte) : PortAns × State :=
  let n := oct p 0
  let k := oct p 1
  let c := oct p 2
  let key := p.drop 4
  if (n ≠ 6 ∧ n ≠ 7) ∨ s.pageOwner n ≠ ownHost then (.st stState, s)
  else if 8 ≤ k ∨ key.length ≠ (if 128 ≤ c then 32 else 16) then (.st stBadLen, s)
  else
    let s := ((s.fp (F.VLT_PGn_SLOTs_SIZE n k) (c / 128)).fp (F.VLT_PGn_SLOTs_USE n k) (c % 4)).fp (F.VLT_PGn_SLOTs_KEYIDX n k) (oct p 3)
    let s := s.keyActive n k key
    (.done stOk (leBytes 4 (s.rd (R.VLT_PGn_KCVs n k)).toNat), s)

/-- A transaction of the SPI port ended (R412) in which `n` octets of the device frame that was oldest at its start were clocked out: with its last octet
the frame is consumed. A host frame that is still coming in is cut; the rest of a transaction is ignored no longer (R407). A reset that waited
for its response follows. -/
def State.hostTransEnd (s : State) (n : Nat) : State :=
  if s.hostOn = false ∨ s.fg F.HST_STAT_MODE = 1 then s
  else
    let s := if s.hst.port.rx.isEmpty then s else s.portErr false .overrun
    let s := s.mPort false (fun p => { p with rx := [], skip := 0, deaf := false, out := match p.out with
      | f :: t => if (f.octets false).length ≤ n then t else p.out
      | [] => [] })
    match s.hst.port.reset with
    | some cold => if s.hst.port.out.all (fun f => f.note) then (s.mPort false (fun p => { p with reset := none })).resetWant 11 cold else s
    | none => s

/-! ## The service port -/

/-- LEN lies in the range of Table 14-6, which leaves out the tag. -/
def svcLen (code n : Nat) : Bool := match code with
  | 0x01 | 0x03 | 0x05 | 0x10 | 0x1A | 0x1B | 0x1C | 0x1D | 0x1E | 0x1F | 0x29 => n == 0
  | 0x02 => n == 0 || n == 192
  | 0x04 => n == 4
  | 0x08 | 0x09 | 0x0A | 0x0B => accessLen code n
  | 0x11 => n == 1
  | 0x18 => n == 1 || n == 2
  | 0x19 => decide (260 ≤ n) && decide (n ≤ 2052)
  | 0x20 => n == 34
  | 0x21 | 0x28 => n == 5
  | 0x30 => n == 193
  | 0x31 => n == 224
  | 0x38 => decide (1 ≤ n)
  | _ => false

/-- The service port's commands. -/
def svcCodes : List Nat :=
  [0x01, 0x02, 0x03, 0x04, 0x05, 0x08, 0x09, 0x0A, 0x0B, 0x10, 0x11, 0x18, 0x19, 0x1A, 0x1B, 0x1C, 0x1D, 0x1E, 0x1F, 0x20, 0x21, 0x28, 0x29, 0x30, 0x31, 0x38]

/-- The commands also accepted in RETIRED. -/
def svcRt : List Nat := [0x01, 0x02, 0x03, 0x04, 0x05, 0x10, 0x11, 0x28, 0x38]

/-- The column Needs of Table 14-6 is met. -/
def State.svcMay (s : State) (code : Nat) : Bool :=
  let n := s.session
  let m := n == 3 || (n == 2 && s.lifeCycle == lcMfg)
  (s.lifeCycle != lcRetired || svcRt.contains code) &&
  (match code with
    | 0x01 => true
    | 0x02 => decide (1 ≤ n)
    | 0x20 => m || (n == 2 && s.fg F.HRT_STAT_STATE == hNoConfig)
    | 0x08 | 0x09 | 0x0A | 0x0B | 0x1D | 0x1E | 0x1F | 0x21 | 0x29 => m
    | _ => decide (2 ≤ n))

/-- A frame counts as valid: the silence ends, and the counter of the direction to the device advances. -/
def State.svcValid (s : State) (seq code : Nat) : State :=
  s.mSvc (fun x => { x with
    lastAt := s.rtc.ember, tagFails := 0, rxCtr := (x.rxCtr + 1) % 0x100000000
    port := { x.port with last := some (seq, code), cache := none } })

/-- A frame whose tag is wrong (R420, R421). -/
def State.svcBadTag (s : State) : State :=
  let s := (s.fset F.SVC_EVT_TAG_FAIL).mSvc (fun x => { x with tagFails := x.tagFails + 1 })
  if 3 ≤ s.svc.tagFails then s.svcEnd else s

/-- The tag a frame of a MAC session must carry. -/
def State.svcTagOk (s : State) (code seq : Nat) (p : List Byte) : Bool :=
  let n := p.length - 8
  p.drop n == s.portTag 0 s.svc.rxCtr code seq p.length (p.take n)

/-- The service port receives. -/
def State.svcUp (s : State) : Bool := s.live .svc

/-- A service command (R407, R409, R420, R422): `f` executes it on its payload without the tag, and `after` follows its response where STATUS
is OK. -/
def State.svcCmd (s : State) (code seq : Nat) (p : List Byte) (f : State → List Byte → PortAns × State) (after : State → State) : State :=
  if s.svcUp = false then s
  else
    let s := s.uartSent true
    if s.svcUp = false then s
    else
    let mac := s.session == 3
    let tag := if mac then 8 else 0
    if s.svc.port.wait.isSome then s.portErr true .overrun
    else if s.svc.port.last = some (seq, code) then
      let s := if mac then s else s.mSvc (fun x => { x with lastAt := s.rtc.ember })
      s.portAgain true
    else if p.length < tag ∨ svcLen code (p.length - tag) = false then s.portBadLen true seq code
    else if mac && !s.svcTagOk code seq p then s.svcBadTag
    else
      let s := s.svcValid seq code
      if s.svcMay code = false then s.portRespond true seq code stState []
      else
        let r := f s (p.take (p.length - tag))
        if r.2.rst.running.isSome then r.2
        else
          let s := r.2.portAnswer true seq code r.1
          if (match r.1 with
            | .done st _ => st == stOk
            | .wait _ => false) then after s else s

/-- HELLO (R419): the current challenge, drawn where none stands. -/
def State.svcHello (s : State) : PortAns × State :=
  let s := if s.fb F.LCS_DBG_CHAL_VALID then s
    else
      let s := s.newChallenge
      s.mSvc (fun x => { x with drew := s.chalNow })
  if s.fb F.LCS_DBG_CHAL_VALID = false then (.st stState, s)
  else
    let s := if s.session = 0 then s.fp F.SVC_STAT_SESSION 1 else s
    (.done stOk (leBytes 4 (s.rd R.LCS_UID_LO).toNat ++ leBytes 4 (s.rd R.LCS_UID_HI).toNat ++ leBytes 4 (s.rd R.LCS_STATE).toNat ++ s.chalNow), s)

/-- A session opens (R419, R420): with tags where the service blob of the copy in use gives page 4 slot 0 its key; without them in NOCONFIG and
under OPTFAIL. -/
def State.svcOpen (s : State) (x : List Byte) : State :=
  let s := ((s.keyClear 4 0).keyClear 4 1).cfgKeyTake 0x40 4 0 ownSvc
  let mac := !x.isEmpty && !s.optFail && !s.noCopy && s.fb (F.VLT_PGn_SLOTs_VALID 4 0)
  let s := if mac then s.keyActive 4 1 (cmac (s.key 4 0).active x) else s
  let s := (s.fp F.SVC_STAT_SESSION (if mac then 3 else 2)).fset F.SVC_EVT_OPENED
  (s.fsat F.SVC_AUTH_CNT_OK).mSvc (fun y => { y with rxCtr := 0, txCtr := 0, tagFails := 0 })

/-- AUTH (R419). -/
def State.svcAuth (s : State) (p : List Byte) : PortAns × State :=
  if p.isEmpty ∧ s.lifeCycle = lcMfg ∧ s.fb F.LCS_STATE_OWNER_SET = false then
    let s := s.svcOpen []
    (.done stOk (leBytes 1 s.session), s)
  else
    let tool := (p.drop 0x20).take 16
    let x := s.chalNow ++ tool
    let r := s.tokenUse p 7 (tool ++ List.replicate 16 0)
    if r.1 ≠ 0 then (.done stAuth (leBytes 1 r.1), (r.2.fset F.SVC_EVT_AUTH_FAIL).fsat F.SVC_AUTH_CNT_FAIL)
    else
      let s := r.2.svcOpen x
      (.done stOk (leBytes 1 s.session), s)

/-- SET_BAUD (R418). -/
def State.svcSetBaud (s : State) (p : List Byte) : PortAns × State :=
  let b := octs p 0 4
  if 9600 ≤ b ∧ b ≤ 3000000 then (.st stOk, s.wr R.SVC_BAUD (w32 b)) else (.st stBadLen, s)

/-- CHALLENGE (R260). -/
def State.svcChallenge (s : State) : PortAns × State :=
  let s := s.newChallenge
  if s.fb F.LCS_DBG_CHAL_VALID then (.done stOk s.chalNow, s.mSvc (fun x => { x with drew := s.chalNow })) else (.st stState, s)

/-- An image command goes to UPD as SVC (R423). -/
def State.svcImg (s : State) (op kind off : Nat) (data : List Byte) : PortAns × State := match s.updGive ownSvc op kind off data with
  | some s => (.wait .upd, s)
  | none => (.st stBusy, s)

/-- IMG_BEGIN. -/
def State.svcImgBegin (s : State) (p : List Byte) : PortAns × State :=
  let b := oct p 0
  let kind := b / 2 % 2
  let k := oct p 1
  let op := if b % 2 = 1 then 2 else 1
  if kind = 0 then s.svcImg op 0 0 []
  else if p.length < 2 ∨ k < 2 ∨ 7 < k then (.st stBadLen, s)
  else
    let r := ((s.fp F.UPD_CFG_KEY_PAGE 4).fp F.UPD_CFG_KEY_SLOT k).svcImg op 1 0 []
    if r.1 = .st stBusy then (r.1, s) else r

/-- KEY_LOAD into page 4 (R423): in a MAC session the key comes encrypted under the session key with the frame's counter. -/
def State.svcKeyLoad (s : State) (p : List Byte) : PortAns × State :=
  let k := oct p 0
  let big := 128 ≤ oct p 1
  let raw := p.drop 2
  if k < 2 ∨ 7 < k then (.st stBadLen, s)
  else
    let ctr := s.svc.rxCtr + 0xFFFFFFFF
    let key := if s.session = 3 then ctrMode (s.key 4 1).active 2 (leBytes 4 (ctr % 0x100000000) ++ List.replicate 12 0) raw else raw
    let s := (s.fp (F.VLT_PGn_SLOTs_SIZE 4 k) (if big then 1 else 0)).keyActive 4 k (if big then key else key.take 16)
    (.done stOk (leBytes 4 (s.rd (R.VLT_PGn_KCVs 4 k)).toNat), s)

/-- CFG_COMMIT (R423, R378). -/
def State.svcCfgCommit (s : State) (p : List Byte) : PortAns × State :=
  if s.stgOk .config ownSvc = false then (.st stBusy, s)
  else
    let go := 0x80000000 + (if s.noCopy then 0 else 0x20000 + oct p 4)
    let s := if s.noCopy then s else s.wr R.UPD_CFG_CASN (w32 (octs p 0 4))
    (.wait .cfg, s.stgCommitWrite .config ownSvc (w32 go) State.cfgGo)

/-- ASH_READ (R402). -/
def State.svcAshRead (s : State) (p : List Byte) : PortAns × State :=
  let n := oct p 4
  if n = 0 ∨ 64 < n then (.st stBadLen, s)
  else match s.ashAsk ownSvc (octs p 0 4) with
    | some s => (.wait (.ash (octs p 0 4) n []), s)
    | none => (.st stBusy, s)

/-- ASH_CLEAR: the session clear of R401. -/
def State.svcAshClear (s : State) : PortAns × State :=
  if s.ash.clr.isSome then (.done stOk (leBytes 1 1), s)
  else if s.uLow then (.done stOk (leBytes 1 5), s)
  else (.wait .clr, s.ashClear ownSvc true)

/-- A port's token goes into the token window (R423). -/
def State.tokenPut (s : State) (t : List Byte) : State :=
  s.forEach (List.range 48) (fun s i => s.wr (R.LCS_TOKENn i) (w32 (ofBe ((t.drop (4 * i)).take 4))))

/-- LC (R258-R260): the token stands in the token window, and LCS_CMD_ARG names it there (log 95). -/
def State.svcLc (s : State) (p : List Byte) : PortAns × State :=
  let s := (s.tokenPut (p.drop 1)).wr R.LCS_CMD_ARG (w32 (R.LCS_TOKENn 0))
  let s := (s.fp F.LCS_CMD_OP (oct p 0 % 16)).lcsDo true (oct p 0) (p.drop 1) none
  (.done stOk (leBytes 1 (s.fg F.LCS_CMD_RES_CODE)), s)

/-- OPTIONS (R318): the token stands in the token window, and KND_OPT_ARG names it there (log 95). -/
def State.svcOptions (s : State) (p : List Byte) : PortAns × State :=
  if s.csOk .knd ownSvc true = false then (.st stBusy, s)
  else
    let s := s.csTake .knd ownSvc true
    let s := s.forEach (List.range 8) (fun s i => s.wr (R.KND_OPT_STGm i) (w32 (octs p (4 * i) 4)))
    (.wait .knd, ((s.tokenPut (p.drop 32)).wr R.KND_OPT_ARG (w32 (R.LCS_TOKENn 0))).optGo ownSvc (p.drop 32))

/-- PILOT: the local Pilot service, without a tag or the cache (R423). -/
def State.svcPilot (s : State) (p : List Byte) : PortAns × State :=
  if s.pilotRuns = false then (.st stState, s)
  else if s.pil.wait.isSome || s.pil.reset.isSome then (.done stOk (leBytes 1 pilBusy), s)
  else match s.pilotExec (oct p 0) (p.drop 1) with
    | (.done b r, s) => (.done stOk b, match r with
      | some c => s.mPil (fun x => { x with reset := some (c, none) })
      | none => s)
    | (.wait on, s) => (.wait on, s)

/-! ## The commands by their CODE (Tables 14-3, 14-6) -/

/-- A host command by its CODE, with its SEQ and payload. -/
def State.hostRun (s : State) (code seq : Nat) (pay : List Byte) : State := match code with
  | 0x01 => s.hostCmd 0x01 seq pay State.hostPing id
  | 0x02 => s.hostCmd 0x02 seq pay (fun s => s.hostBaud pay) id
  | 0x08 => s.hostCmd 0x08 seq pay (fun s => s.portRd32 .host pay) id
  | 0x09 => s.hostCmd 0x09 seq pay (fun s => s.portWr32 .host pay) id
  | 0x0A => s.hostCmd 0x0A seq pay (fun s => s.portRdMem .host pay) id
  | 0x0B => s.hostCmd 0x0B seq pay (fun s => s.portWrMem .host pay) id
  | 0x11 => s.hostCmd 0x11 seq pay (fun s => (.st stOk, s)) (fun s => s.portReset false (oct pay 0 % 2 == 1))
  | 0x12 => s.hostCmd 0x12 seq pay (fun s => s.hostTx pay) id
  | 0x13 => s.hostCmd 0x13 seq pay (fun s => s.hostReclaim pay) id
  | 0x14 => s.hostCmd 0x14 seq pay (fun s => s.hostGetRx pay) (fun s => s.hostNote 1 (s.rxNote (oct pay 0) (oct pay 1) 0))
  | 0x15 => s.hostCmd 0x15 seq pay (fun s => s.hostKeyPage pay) id
  | 0x16 => s.hostCmd 0x16 seq pay (fun s => s.hostKeyLoad pay) id
  | _ => s

/-- A service command by its CODE, with its SEQ and payload. -/
def State.svcRun (s : State) (code seq : Nat) (pay : List Byte) : State := match code with
  | 0x01 => s.svcCmd 0x01 seq pay (fun s _ => s.svcHello) id
  | 0x02 => s.svcCmd 0x02 seq pay (fun s p => s.svcAuth p) id
  | 0x03 => s.svcCmd 0x03 seq pay (fun s _ => (.st stOk, s)) State.svcEnd
  | 0x04 => s.svcCmd 0x04 seq pay (fun s p => s.svcSetBaud p) id
  | 0x05 => s.svcCmd 0x05 seq pay (fun s _ => s.svcChallenge) id
  | 0x08 => s.svcCmd 0x08 seq pay (fun s p => s.portRd32 .svc p) id
  | 0x09 => s.svcCmd 0x09 seq pay (fun s p => s.portWr32 .svc p) id
  | 0x0A => s.svcCmd 0x0A seq pay (fun s p => s.portRdMem .svc p) id
  | 0x0B => s.svcCmd 0x0B seq pay (fun s p => s.portWrMem .svc p) id
  | 0x10 => s.svcCmd 0x10 seq pay (fun s _ => (.done stOk s.statusBody, s)) id
  | 0x11 => s.svcCmd 0x11 seq pay (fun s _ => (.st stOk, s)) (fun s => s.portReset true (oct pay 0 % 2 == 1))
  | 0x18 => s.svcCmd 0x18 seq pay (fun s p => s.svcImgBegin p) id
  | 0x19 => s.svcCmd 0x19 seq pay (fun s p => s.svcImg 3 s.uKind (octs p 0 4) (p.drop 4)) id
  | 0x1A => s.svcCmd 0x1A seq pay (fun s _ => s.svcImg 4 s.uKind 0 []) id
  | 0x1B => s.svcCmd 0x1B seq pay (fun s _ => s.svcImg 5 s.uKind 0 []) id
  | 0x1C => s.svcCmd 0x1C seq pay (fun s _ => s.svcImg 6 s.uKind 0 []) id
  | 0x1D => s.svcCmd 0x1D seq pay (fun s _ => s.svcImg 8 s.uKind 0 []) id
  | 0x1E => s.svcCmd 0x1E seq pay (fun s _ => s.svcImg 9 s.uKind 0 []) id
  | 0x1F => s.svcCmd 0x1F seq pay (fun s _ => s.svcImg 7 s.uKind 0 []) id
  | 0x20 => s.svcCmd 0x20 seq pay (fun s p => s.svcKeyLoad p) id
  | 0x21 => s.svcCmd 0x21 seq pay (fun s p => s.svcCfgCommit p) id
  | 0x28 => s.svcCmd 0x28 seq pay (fun s p => s.svcAshRead p) id
  | 0x29 => s.svcCmd 0x29 seq pay (fun s _ => s.svcAshClear) id
  | 0x30 => s.svcCmd 0x30 seq pay (fun s p => s.svcLc p) id
  | 0x31 => s.svcCmd 0x31 seq pay (fun s p => s.svcOptions p) id
  | 0x38 => s.svcCmd 0x38 seq pay (fun s p => s.svcPilot p) id
  | _ => s

/-! ## The receiver (R407, R408) -/

/-- A port receives. -/
def State.portUp (s : State) (svc : Bool) : Bool := if svc then s.svcUp else s.hostUp

/-- LEN is too long or outside CODE's range: BAD_LEN at once; a service command that comes before its time is an overrun (R409). -/
def State.frameLong (s : State) (svc : Bool) (seq code : Nat) : State :=
  if svc && s.svc.port.wait.isSome then s.portErr true .overrun else s.portBadLen svc seq code

/-- CODE is not defined for the port: BAD_CODE. -/
def State.frameCode (s : State) (svc : Bool) (seq code : Nat) (p : List Byte) : State :=
    if svc then (if svcCodes.contains code then s else
      let mac := s.session == 3
      if s.svc.port.wait.isSome then s.portErr true .overrun
      else if s.svc.port.last = some (seq, code) then s.portAgain true
      else if mac && (decide (p.length < 8) || !s.svcTagOk code seq p) then s.svcBadTag
      else (s.svcValid seq code).portRespond true seq code stBadCode [])
    else (if hostCodes.contains code then s
      else if s.hst.port.last = some (seq, code) then s.portAgain false else
      ((s.fp F.HST_STAT_SEQ seq).mPort false (fun x => { x with last := some (seq, code), cache := none })).portRespond false seq code stBadCode [])

/-- LEN of a command is in the range of Table 14-4 or 14-6; the tag of a MAC session comes on top. A CODE that is not defined has no range. -/
def State.lenOk (s : State) (svc : Bool) (code len : Nat) : Bool :=
  if svc then
    let tag := if s.session = 3 then 8 else 0
    !svcCodes.contains code || (decide (tag ≤ len) && svcLen code (len - tag))
  else !hostCodes.contains code || hostLen code len

/-- A frame whose checks have passed: a command runs. DESIGN CHOICE (log 95): a frame with DIR or NOTE set is none to the device and is dropped. -/
def State.portRun (s : State) (svc : Bool) (type seq : Nat) (pay : List Byte) : State :=
  let code := type % 64
  if 64 ≤ type then s
  else if svc then (if svcCodes.contains code then s.svcRun code seq pay else s.frameCode true seq code pay)
  else if hostCodes.contains code then s.hostRun code seq pay else s.frameCode false seq code pay

/-- The receive buffer drops its first `n` octets. -/
def State.portDrop (s : State) (svc : Bool) (n : Nat) : State := s.mPort svc (fun p => { p with rx := p.rx.drop n })

/-- One step of the receiver on the octets it holds (R407); `none` where it needs more of them. -/
def State.portStep (s : State) (svc : Bool) : Option State :=
  let p := s.port svc
  let sof := fun (b : Byte) => b.toNat != portSof svc
  let l := p.rx
  let len := octs l 3 2
  let seq := oct l 2
  let code := oct l 1 % 64
  let full := 7 + len + (if len = 0 then 0 else 4)
  if l.isEmpty then none
  else if p.deaf then some (s.portDrop svc l.length)
  else if 0 < p.skip then some (s.mPort svc (fun p => { p with rx := p.rx.drop p.skip, skip := p.skip - p.rx.length }))
  else if sof (l.headD 0) then some (s.portDrop svc (l.takeWhile sof).length)
  else if l.length < 7 then none
  else if crc16 (l.take 5) ≠ octs l 5 2 then some ((s.portErr svc .header).portDrop svc 1)
  else if 2176 < len then
    let s := s.frameLong svc seq code
    some (if svc || s.fg F.HST_STAT_MODE == 1 then s.portDrop svc 7 else s.mPort svc (fun p => { p with rx := [], deaf := true }))
  else if s.lenOk svc code len = false then some (((s.frameLong svc seq code).portDrop svc 7).mPort svc (fun p => { p with skip := len + 4 }))
  else if l.length < full then none
  else
    let pay := (l.drop 7).take len
    let s := s.portDrop svc full
    some (if 0 < len ∧ crc32 pay ≠ octs l (7 + len) 4 then s.portErr svc .payload else s.portRun svc (oct l 1) seq pay)

/-- The receiver works on what it holds, as far as it gets. -/
def State.portSteps (s : State) (svc : Bool) : Nat → State
  | 0 => s
  | n + 1 => match s.portStep svc with
    | some s => s.portSteps svc n
    | none => s

/-- Octets arrive on a port, one after the other (R407). -/
def State.portHear (s : State) (svc : Bool) (l : List Byte) : State :=
  let s := s.mPort svc (fun p => { p with rx := p.rx ++ l })
  s.portSteps svc (2 * (s.port svc).rx.length)

/-- What a port meets that is no good frame: a frame whose HCRC or PCRC fails, whose LEN is too long or outside CODE's range, or whose CODE is not
defined; or octets as they arrive, from which the receiver finds its frames itself. -/
def State.frameBad (s : State) (svc : Bool) (e : FrameFault) : State :=
  if s.portUp svc = false then s
  else match e with
  | .header => s.portErr svc .header
  | .payload => s.portErr svc .payload
  | .oversize seq code => s.frameLong svc seq code
  | .badCode seq code p => s.frameCode svc seq code p
  | .octets l => s.portHear svc l

/-- A frame is cut: what had come in of it is dropped (R408, R412). -/
def State.frameCut (s : State) (svc : Bool) : State :=
  if s.portUp svc then (s.portErr svc .overrun).mPort svc (fun p => { p with rx := [], skip := 0 }) else s

end Sys2Proof.Machine
end

