-- ==== Sys2Proof/Machine/PortCmds.lean ====
section
/-! DEFINITION. The port commands of the table: the host port's (Table 14-3), the service port's (Table 14-6), and what the framing itself meets
(R407, R408, R412, R421). `seq` is the frame's SEQ and `pay` its whole payload. -/

namespace Sys2Proof.Machine

/-- PORT_FRAME_REJECT (R407): on the service port where `svc`. Octets as they arrive may hold good frames too, whose commands then run. -/
def execPortFrameReject (svc : Bool) (e : FrameFault) (s : State) : Result := (s.frameBad svc e).done

/-- FRAME_CUT (R408). -/
def execFrameCut (svc : Bool) (s : State) : Result := (s.frameCut svc).done

/-- HOST_TRANSACTION_END (R412): how many octets of the device's oldest frame it clocked out. -/
def execHostTransactionEnd (n : Nat) (s : State) : Result := (s.hostTransEnd n).done

/-! ## Host commands -/

/-- HOST_PING (R414). -/
def execHostPing (seq : Nat) (pay : List Byte) (s : State) : Result :=
  (s.hostRun 0x01 seq pay).done

/-- HOST_SET_BAUD (R413). -/
def execHostSetBaud (seq : Nat) (pay : List Byte) (s : State) : Result :=
  (s.hostRun 0x02 seq pay).done

/-- HOST_RD32 (R414). -/
def execHostRd32 (seq : Nat) (pay : List Byte) (s : State) : Result :=
  (s.hostRun 0x08 seq pay).done

/-- HOST_WR32 (R414). -/
def execHostWr32 (seq : Nat) (pay : List Byte) (s : State) : Result :=
  (s.hostRun 0x09 seq pay).done

/-- HOST_RDMEM (R414). -/
def execHostRdmem (seq : Nat) (pay : List Byte) (s : State) : Result :=
  (s.hostRun 0x0A seq pay).done

/-- HOST_WRMEM (R414). -/
def execHostWrmem (seq : Nat) (pay : List Byte) (s : State) : Result :=
  (s.hostRun 0x0B seq pay).done

/-- HOST_RESET (R325). -/
def execHostReset (seq : Nat) (pay : List Byte) (s : State) : Result :=
  (s.hostRun 0x11 seq pay).done

/-- HOST_TX_FRAME (R415). -/
def execHostTxFrame (seq : Nat) (pay : List Byte) (s : State) : Result :=
  (s.hostRun 0x12 seq pay).done

/-- HOST_RECLAIM (R415). -/
def execHostReclaim (seq : Nat) (pay : List Byte) (s : State) : Result :=
  (s.hostRun 0x13 seq pay).done

/-- HOST_GET_RX (R417). -/
def execHostGetRx (seq : Nat) (pay : List Byte) (s : State) : Result :=
  (s.hostRun 0x14 seq pay).done

/-- HOST_KEYPAGE (R416). -/
def execHostKeypage (seq : Nat) (pay : List Byte) (s : State) : Result :=
  (s.hostRun 0x15 seq pay).done

/-- HOST_KEY_LOAD (R416). -/
def execHostKeyLoad (seq : Nat) (pay : List Byte) (s : State) : Result :=
  (s.hostRun 0x16 seq pay).done

/-! ## Service commands -/

/-- SVC_HELLO (R419). -/
def execSvcHello (seq : Nat) (pay : List Byte) (s : State) : Result :=
  (s.svcRun 0x01 seq pay).done

/-- SVC_AUTH (R419). -/
def execSvcAuth (seq : Nat) (pay : List Byte) (s : State) : Result :=
  (s.svcRun 0x02 seq pay).done

/-- SVC_BYE (R421). -/
def execSvcBye (seq : Nat) (pay : List Byte) (s : State) : Result :=
  (s.svcRun 0x03 seq pay).done

/-- SVC_SET_BAUD (R418). -/
def execSvcSetBaud (seq : Nat) (pay : List Byte) (s : State) : Result :=
  (s.svcRun 0x04 seq pay).done

/-- SVC_CHALLENGE (R422). -/
def execSvcChallenge (seq : Nat) (pay : List Byte) (s : State) : Result :=
  (s.svcRun 0x05 seq pay).done

/-- SVC_RD32 (R422). -/
def execSvcRd32 (seq : Nat) (pay : List Byte) (s : State) : Result :=
  (s.svcRun 0x08 seq pay).done

/-- SVC_WR32 (R422). -/
def execSvcWr32 (seq : Nat) (pay : List Byte) (s : State) : Result :=
  (s.svcRun 0x09 seq pay).done

/-- SVC_RDMEM (R422). -/
def execSvcRdmem (seq : Nat) (pay : List Byte) (s : State) : Result :=
  (s.svcRun 0x0A seq pay).done

/-- SVC_WRMEM (R422). -/
def execSvcWrmem (seq : Nat) (pay : List Byte) (s : State) : Result :=
  (s.svcRun 0x0B seq pay).done

/-- SVC_STATUS (R422). -/
def execSvcStatus (seq : Nat) (pay : List Byte) (s : State) : Result :=
  (s.svcRun 0x10 seq pay).done

/-- SVC_RESET (R325). -/
def execSvcReset (seq : Nat) (pay : List Byte) (s : State) : Result :=
  (s.svcRun 0x11 seq pay).done

/-- SVC_IMG_BEGIN (R423). -/
def execSvcImgBegin (seq : Nat) (pay : List Byte) (s : State) : Result :=
  (s.svcRun 0x18 seq pay).done

/-- SVC_IMG_WRITE (R423). -/
def execSvcImgWrite (seq : Nat) (pay : List Byte) (s : State) : Result :=
  (s.svcRun 0x19 seq pay).done

/-- SVC_IMG_END (R423). -/
def execSvcImgEnd (seq : Nat) (pay : List Byte) (s : State) : Result :=
  (s.svcRun 0x1A seq pay).done

/-- SVC_IMG_START (R423). -/
def execSvcImgStart (seq : Nat) (pay : List Byte) (s : State) : Result :=
  (s.svcRun 0x1B seq pay).done

/-- SVC_IMG_INSTALL (R423). -/
def execSvcImgInstall (seq : Nat) (pay : List Byte) (s : State) : Result :=
  (s.svcRun 0x1C seq pay).done

/-- SVC_IMG_COMMIT (R423). -/
def execSvcImgCommit (seq : Nat) (pay : List Byte) (s : State) : Result :=
  (s.svcRun 0x1D seq pay).done

/-- SVC_IMG_ROLLBACK (R423). -/
def execSvcImgRollback (seq : Nat) (pay : List Byte) (s : State) : Result :=
  (s.svcRun 0x1E seq pay).done

/-- SVC_IMG_ABORT (R423). -/
def execSvcImgAbort (seq : Nat) (pay : List Byte) (s : State) : Result :=
  (s.svcRun 0x1F seq pay).done

/-- SVC_KEY_LOAD (R423). -/
def execSvcKeyLoad (seq : Nat) (pay : List Byte) (s : State) : Result :=
  (s.svcRun 0x20 seq pay).done

/-- SVC_CFG_COMMIT (R423). -/
def execSvcCfgCommit (seq : Nat) (pay : List Byte) (s : State) : Result :=
  (s.svcRun 0x21 seq pay).done

/-- SVC_ASH_READ (R423). -/
def execSvcAshRead (seq : Nat) (pay : List Byte) (s : State) : Result :=
  (s.svcRun 0x28 seq pay).done

/-- SVC_ASH_CLEAR (R423). -/
def execSvcAshClear (seq : Nat) (pay : List Byte) (s : State) : Result :=
  (s.svcRun 0x29 seq pay).done

/-- SVC_LC (R423). -/
def execSvcLc (seq : Nat) (pay : List Byte) (s : State) : Result :=
  (s.svcRun 0x30 seq pay).done

/-- SVC_OPTIONS (R423). -/
def execSvcOptions (seq : Nat) (pay : List Byte) (s : State) : Result :=
  (s.svcRun 0x31 seq pay).done

/-- SVC_PILOT (R423). -/
def execSvcPilot (seq : Nat) (pay : List Byte) (s : State) : Result :=
  (s.svcRun 0x38 seq pay).done

/-- SESSION_TIMEOUT (R421). -/
def execSessionTimeout (s : State) : Result := s.sessionTimeout.done

end Sys2Proof.Machine
end

