-- ==== Sys2Proof/Machine/PowerCmds.lean ====
section
/-! DEFINITION. The flue's events (R268-R280), power states (R281-R297), clocks (R299-R303) and starts of clocks. -/

namespace Sys2Proof.Machine

/-! ## The flue -/

/-- FLUE_EVENT (R268): the first `n` events that wait are delivered as those of one flue cycle. -/
def execFlueEvent (n : Nat) (env : FlueEnv) (s : State) : Result := ((s.flueCycle n env).flueSumShow).done

/-- FLUE_HELD_DELIVERY (R278). -/
def execFlueHeldDelivery (env : FlueEnv) (s : State) : Result := ((s.flueRelease env).flueSumShow).done

/-- FLUE_CHANNEL_CONFIG (R271). -/
def execFlueChannelConfig (who : Initiator) (c : Fin 48) (v : Word) (s : State) : Result := (s.reg who (R.FLU_CHc_CFG c) v).done

/-- FLUE_TASK_WRITE (R271). -/
def execFlueTaskWrite (who : Initiator) (c : Fin 48) (v : Word) (s : State) : Result := (s.reg who (R.FLU_CHc_TSK c) v).done

/-! ## Power states -/

/-- CORE_WFI_DOZE (R282). -/
def execCoreWfiDoze (c : CoreId) (s : State) : Result := (s.wfiDoze c).done

/-- CORE_JOIN (R283). -/
def execCoreJoin (c : CoreId) (env : DamperEnv) (s : State) : Result := (s.coreJoin c env).done

/-- DAMPER_GRANT (R284). -/
def execDamperGrant (code : Nat) (env : DamperEnv) (s : State) : Result := (s.damperGrant code env).done

/-- DAMPER_TIMEOUT (R284). -/
def execDamperTimeout (s : State) : Result := s.damperTimeout.done

/-- POWER_STATE_ENTERED (R287). -/
def execPowerStateEntered (s : State) : Result := s.powerEntered.done

/-- What a BANKED exit resumes: DMA and verify jobs that waited, and the host port, whose first frame is READY (R33, R252, R292, R411). -/
def State.bankedBack (s : State) (sched : Bool) : State :=
  let t := s.bankedWake sched
  if s.pwr.state = .banked ∧ t.pwr.state = .run then ((t.dmaGoOn).pkGoOn).hostReady else t

/-- BANKED_WAKE (R290): `sched`, Hearth's wake instant has come. -/
def execBankedWake (sched : Bool) (s : State) : Result := (s.bankedBack sched).done

/-- CINDER_WAKE (R294). -/
def execCinderWake (s : State) : Result := s.cinderWake.done

/-- WAKE_FAILURE (R295): the step that was not ready in time. -/
def execWakeFailure (step : WakeStep) (s : State) : Result := (s.wakeFailure step).done

/-- WAKE_RETRY (R295). -/
def execWakeRetry (s : State) : Result := s.wakeRetry.done

/-! ## Clocks -/

/-- CLOCK_SELECT (R300). -/
def execClockSelect (who : Initiator) (v : Word) (s : State) : Result := (s.reg who R.CLK_SEL v).done

/-- PERF_LEVEL_CHANGE (R300). -/
def execPerfLevelChange (who : Initiator) (v : Word) (s : State) : Result := (s.reg who R.CLK_PERF v).done

/-- PERF_LEVEL_DONE (R300). -/
def execPerfLevelDone (s : State) : Result := s.perfDone.done

/-- PLL_LOCK (R299). -/
def execPllLock (s : State) : Result := s.pllLock.done

/-- PLL_LOCK_LOSS (R301). -/
def execPllLockLoss (s : State) : Result := s.pllLost.done

/-- X32_FAIL (R301). -/
def execX32Fail (s : State) : Result := s.x32Fail.done

/-- X32_RETRY (R301): `ok`, the crystal runs again. -/
def execX32Retry (ok : Bool) (s : State) : Result := (s.x32Retry ok).done

/-- X32_READY (R34). -/
def execX32Ready (s : State) : Result := s.x32Ready.done

/-- XO_READY (R173). -/
def execXoReady (s : State) : Result := s.xoReady.done

end Sys2Proof.Machine
end

