-- ==== Sys2Proof/Machine/RadioRx.lean ====
section
/-! DEFINITION. What the radios receive (R73, R101, R142, R148-R157, R200-R218, R241-R245). `via` is the full-band output a frame comes by, none for the
single-channel receiver; `octets` are those received so far. -/

namespace Sys2Proof.Machine

/-- RX_WINDOW_OPEN (R101). -/
def execRxWindowOpen (t : Tl) (s : State) : Result := (s.winOpen t).done

/-- RX_WINDOW_CLOSE (R101). -/
def execRxWindowClose (t : Tl) (gap : Nat) (s : State) : Result := (s.winClose t gap).done

/-- PREAMBLE_DETECTED (R200): by an output's detector, for a PHY code, at a level in dBm, at `us` on a running count of µs (R202). -/
def execPreambleDetected (t : Tl) (out : Fin 140) (phy : Nat) (level : Int) (us : Nat) (s : State) : Result := (s.preamble t out phy level us).done

/-- SFD_DETECTED (R73): the level over the SHR in dBm, and the signal-to-noise ratio in 1/16 dB. -/
def execSfdDetected (t : Tl) (via : Option (Fin 140)) (phy tick : Nat) (rssi snr : Int) (s : State) : Result :=
  (s.sfdFound t (via.map Fin.val) phy tick rssi snr).done

/-- SFD_TIMEOUT (R211). -/
def execSfdTimeout (t : Tl) (out : Fin 140) (s : State) : Result := (s.sfdTimeout t out).done

/-- An output is heard again. -/
def State.muteExpiry (s : State) (t : Tl) (out : Nat) : State :=
  if out < s.fg (t.f F.RFA_FBL_CFG_NOUT) then s.fclr (t.f (F.RFA_FBL_OUTc_MUTED out)) else s

/-- MUTE_EXPIRY (R203). -/
def execMuteExpiry (t : Tl) (out : Fin 140) (s : State) : Result := (s.muteExpiry t out).done

/-- PHR_RECEIVED (R213): its length and PHY code, and whether it announces a mode switch, a 4-octet FCS, or fails its own check. -/
def execPhrReceived (t : Tl) (via : Option (Fin 140)) (len code : Nat) (modeSwitch fcs4 hcs : Bool) (gap : Nat) (s : State) : Result :=
  ((s.phr t (via.map Fin.val) len code modeSwitch fcs4 hcs).drainEnd t gap).done

/-- FRAME_CONTROL_RECEIVED (R148). -/
def execFrameControlReceived (t : Tl) (via : Option (Fin 140)) (o : HeaderIn) (s : State) : Result :=
  ((s.rxHeader t (via.map Fin.val) o.octets 2).drainEnd t o.gap).done

/-- DESTINATION_RECEIVED (R149). -/
def execDestinationReceived (t : Tl) (via : Option (Fin 140)) (o : HeaderIn) (s : State) : Result :=
  ((s.rxHeader t (via.map Fin.val) o.octets 3).drainEnd t o.gap).done

/-- SOURCE_LOOKUP (R142). -/
def execSourceLookup (t : Tl) (via : Option (Fin 140)) (o : HeaderIn) (s : State) : Result :=
  ((s.rxHeader t (via.map Fin.val) o.octets 4).drainEnd t o.gap).done

/-- AUX_HEADER_RECEIVED (R241). -/
def execAuxHeaderReceived (t : Tl) (via : Option (Fin 140)) (o : HeaderIn) (s : State) : Result :=
  ((s.rxAux t (via.map Fin.val) o.octets).drainEnd t o.gap).done

/-- EARLY_DELIVERY_POST (R242). -/
def execEarlyDeliveryPost (t : Tl) (via : Option (Fin 140)) (octets : List Byte) (s : State) : Result :=
  (s.rxEarly t (via.map Fin.val) octets).done

/-- FRAME_END (R148): all octets but the FCS, and whether the FCS is right. -/
def execFrameEnd (t : Tl) (via : Option (Fin 140)) (octets : List Byte) (fcsOk : Bool) (gap : Nat) (s : State) : Result :=
  ((s.frameEnd t (via.map Fin.val) octets fcsOk gap).drainEnd t gap).done

/-- LOSS_OF_SIGNAL (R242). -/
def execLossOfSignal (t : Tl) (via : Option (Fin 140)) (gap : Nat) (s : State) : Result :=
  ((s.signalLost t (via.map Fin.val) gap).drainEnd t gap).done

end Sys2Proof.Machine
end

