-- ==== Sys2Proof/Machine/RadioTx.lean ====
section
/-! DEFINITION. What the radios do to send, and around it: transmissions, CCA, acknowledgements (R89, R97-R107, R123, R174, R183, R187), the
crystal, calibration, test mode and gain (R173-R192, R214, R218). `gap` is the time in µs to the radio's next armed action. -/

namespace Sys2Proof.Machine

/-! ## Transmissions -/

/-- IMMEDIATE_TRANSMIT (R89): a gap long enough is there; the channel and mode are the environment's (log 44, DESIGN CHOICE). -/
def execImmediateTransmit (q : Fin 16) (ch mode : Nat) (s : State) : Result := (s.immStart q ch mode).done

/-- IMMEDIATE_LOCK_TIMEOUT (R89). -/
def execImmediateLockTimeout (t : Tl) (gap : Nat) (s : State) : Result := (s.immTimeout t gap).done

/-- RETUNE_START (R101). -/
def execRetuneStart (t : Tl) (s : State) : Result := (s.retune t).done

/-- SYNTH_LOCK (R174). -/
def execSynthLock (t : Tl) (s : State) : Result := (s.synthLock t).done

/-- CCA_START (R187). -/
def execCcaStart (t : Tl) (s : State) : Result := (s.ccaStart t).done

/-- CCA_COMPLETE (R187, R188). -/
def execCcaComplete (t : Tl) (l : CcaLevels) (gap : Nat) (s : State) : Result := (s.ccaEnd t l.pre l.parts gap).done

/-- TX_START (R102): `sfd`, the SFD instant in 25 ns ticks after slot start. -/
def execTxStart (t : Tl) (sfd gap : Nat) (m : PaMeas) (s : State) : Result := (s.txStart t sfd gap m).done

/-- TX_LOCK_TIMEOUT (R102). -/
def execTxLockTimeout (t : Tl) (gap : Nat) (s : State) : Result := (s.txLate t gap).done

/-- TX_END (R101). -/
def execTxEnd (t : Tl) (gap : Nat) (s : State) : Result := (s.txEnd t gap).done

/-- TX_POWER_CORRECTION (R183). -/
def execTxPowerCorrection (t : Tl) (m : PaMeas) (s : State) : Result := (s.txCorrect t m).done

/-- ACK_WINDOW_CLOSE (R97). -/
def execAckWindowClose (t : Tl) (gap : Nat) (s : State) : Result := (s.ackNone t gap).done

/-- ACK_TRANSMIT (R103): `clash`, an action of the timeline would overlap it. -/
def execAckTransmit (t : Tl) (clash : Bool) (m : PaMeas) (s : State) : Result := (s.ackSend t clash m).done

/-- PENDING_FRAME_TRANSMIT (R123). -/
def execPendingFrameTransmit (t : Tl) (clash : Bool) (sfd gap : Nat) (m : PaMeas) (s : State) : Result := (s.pendSend t clash sfd gap m).done

/-- GATHER_LIST_CLOSE (R106). -/
def execGatherListClose (s : State) : Result := s.gatherClose.done

/-- GATHERED_ACK_TRANSMIT (R107). -/
def execGatheredAckTransmit (m : PaMeas) (s : State) : Result := (s.gackSend m).done

/-! ## The crystal, calibration, test mode, gain -/

/-- XO_START_TIMEOUT (R173). -/
def execXoStartTimeout (s : State) : Result := s.xoFail.done

/-- XO_RESTART (R173): each second while the crystal has failed; `ok`, it starts this time. -/
def execXoRestart (ok : Bool) (s : State) : Result := (if ok && s.fb F.CLK_STAT_XO_FAIL then s.xoBack else s).done

/-- CALIBRATION_START (R177). -/
def execCalibrationStart (t : Tl) (item : Fin 5) (s : State) : Result := (s.calStart t item).done

/-- CALIBRATION_END (R179): `temp`, the item's temperature in °C. -/
def execCalibrationEnd (t : Tl) (ok : Bool) (temp : Int) (gap : Nat) (s : State) : Result := (s.calEnd t ok temp gap).done

/-- RADIO_TEST_WRITE (R192). -/
def execRadioTestWrite (who : Initiator) (t : Tl) (v : Word) (s : State) : Result := (s.reg who (R.RFA_TEST + t.radio) v).done

/-- FBL_LEAVE (R214). -/
def execFblLeave (t : Tl) (s : State) : Result := (s.leaveFbl t).done

/-- GAIN_STEP_DOWN (R218). -/
def execGainStepDown (t : Tl) (s : State) : Result := (s.gainDown t).done

/-- GAIN_STEP_UP (R218). -/
def execGainStepUp (t : Tl) (s : State) : Result := (s.gainUp t).done

end Sys2Proof.Machine
end

