-- ==== Sys2Proof/Machine/Resets.lean ====
section
/-! DEFINITION. Resets and Kindling (R304-R326), watchdogs, secure pages and the option writer, and power loss (R333). -/

namespace Sys2Proof.Machine

/-- POWER_ON_RESET (R311): the supplies in mV as the always-on supply rises. -/
def execPowerOnReset (vin vkeep vsys : Nat) (s : State) : Result := (s.powerOn vin vkeep vsys).done

/-- BROWN_OUT (R304). -/
def execBrownOut (src : BorSrc) (s : State) : Result := (s.brownOut src).done

/-- RESET_PIN (R304). -/
def execResetPin (s : State) : Result := s.resetPin.done

/-- WATCHDOG_EXPIRY (R324). -/
def execWatchdogExpiry (c : CoreId) (s : State) : Result := (s.watchdogExpiry c).done

/-- LOCKUP (R304). -/
def execLockup (c : CoreId) (s : State) : Result := (s.lockup c).done

/-- SOFT_RESET (R304). -/
def execSoftReset (who : Initiator) (v : Word) (s : State) : Result := (s.reg who R.RST_SOFT v).done

/-- DEFERRED_RESET_TAKEN (R306): the step in progress has ended, or `us` have passed since the first cause. -/
def execDeferredResetTaken (us : Nat) (s : State) : Result := (s.deferredTaken us).done

/-- KINDLING_SLOW_RETRY (R316). -/
def execKindlingSlowRetry (s : State) : Result := s.slowRetry.done

/-- KINDLING_DONE (R312): the run took `us`. -/
def execKindlingDone (us : Nat) (s : State) : Result := (s.kindlingDone us).done

/-- BOOT_START (R351). -/
def execBootStart (s : State) : Result := s.bootStart.done

/-- The KICK register of a core's watchdog. -/
def kickReg : CoreId → Nat
  | .a => R.RST_WDT_A_KICK
  | .b => R.RST_WDT_B_KICK

/-- WATCHDOG_KICK (R323). -/
def execWatchdogKick (who : Initiator) (c : CoreId) (v : Word) (s : State) : Result := (s.reg who (kickReg c) v).done

/-- SECURE_PAGE_SET (R309). -/
def execSecurePageSet (who : Initiator) (n : Fin 3) (v : Word) (s : State) : Result := (s.reg who (R.RST_SECPG0 + 4 * n) v).done

/-- OPTION_WRITE (R318). -/
def execOptionWrite (who : Initiator) (s : State) : Result := (s.reg who R.KND_OPT_CMD 0x80000000).done

/-- POWER_LOSS (R333). -/
def execPowerLoss (s : State) : Result := s.powerLoss.done

/-- RESET_CONDITION_END (R306). -/
def execResetConditionEnd (cause : Nat) (s : State) : Result := (s.conditionEnd cause).done

end Sys2Proof.Machine
end

