-- ==== Sys2Proof/Machine/Security.lean ====
section
/-! DEFINITION. Keys, link cipher jobs, the vault, the verify engine, the TRNG, alarms and the life cycle (R223-R267). -/

namespace Sys2Proof.Machine

/-! ## Keys -/

/-- KEY_WORD_WRITE (R223). -/
def execKeyWordWrite (who : Initiator) (page slot w : Fin 8) (v : Word) (s : State) : Result := (s.reg who (R.VLT_PGn_Ks_Ww page slot w) v).done

/-- KEY_LOAD (R223). -/
def execKeyLoad (who : Initiator) (page slot : Fin 8) (v : Word) (s : State) : Result :=
  (s.reg who (R.VLT_PGn_SLOTs page slot) (wSetField v 29 28 2)).done

/-- KEY_CLEAR (R223). -/
def execKeyClear (who : Initiator) (page slot : Fin 8) (v : Word) (s : State) : Result :=
  (s.reg who (R.VLT_PGn_SLOTs page slot) (wSetField v 28 28 1)).done

/-- KEY_PAGE_WIPE (R264). -/
def execKeyPageWipe (who : Initiator) (page : Fin 8) (s : State) : Result := (s.reg who (R.VLT_PGn_CTL page) 1).done

/-- RESERVATION_TIMEOUT (R240). -/
def execReservationTimeout (s : State) : Result := s.rsvTimeout.done

/-- RESERVATION_RETRY (R240). -/
def execReservationRetry (s : State) : Result := s.rsvRetry.done

/-! ## LCE -/

/-- GO of LCE with an operation (R246). -/
def State.lceOp (s : State) (who : Initiator) (op : Nat) (v : Word) : State := s.reg who R.LCE_JOB_CTL (cmdWord v 29 28 op)

/-- LCE_JOB_CTR (R246). -/
def execLceJobCtr (who : Initiator) (v : Word) (s : State) : Result := (s.lceOp who 1 v).done

/-- LCE_JOB_CBC_MAC (R246). -/
def execLceJobCbcMac (who : Initiator) (v : Word) (s : State) : Result := (s.lceOp who 2 v).done

/-- LCE_JOB_CMAC (R246). -/
def execLceJobCmac (who : Initiator) (v : Word) (s : State) : Result := (s.lceOp who 3 v).done

/-- LCE_JOB_END (R246). -/
def execLceJobEnd (s : State) : Result := s.lceEnd.done

/-! ## The vault -/

/-- GO of the vault with an operation (R248, Table 7-7). -/
def State.vaultOp (s : State) (who : Initiator) (op : Nat) (v : Word) : State := s.reg who R.VLT_CMD (cmdWord v 28 24 op)

/-- VAULT_GEN (R248). -/
def execVaultGen (who : Initiator) (v : Word) (s : State) : Result := (s.vaultOp who 1 v).done

/-- VAULT_VERIFY (R248). -/
def execVaultVerify (who : Initiator) (v : Word) (s : State) : Result := (s.vaultOp who 2 v).done

/-- VAULT_UNWRAP (R248). -/
def execVaultUnwrap (who : Initiator) (v : Word) (s : State) : Result := (s.vaultOp who 3 v).done

/-- VAULT_WRAP (R248). -/
def execVaultWrap (who : Initiator) (v : Word) (s : State) : Result := (s.vaultOp who 4 v).done

/-- VAULT_REWRAP (R248). -/
def execVaultRewrap (who : Initiator) (v : Word) (s : State) : Result := (s.vaultOp who 5 v).done

/-- VAULT_COMMAND_END (R250). -/
def execVaultCommandEnd (s : State) : Result := s.vaultEnd.done

/-! ## The verify engine and the TRNG -/

/-- PK_JOB_GO (R251). -/
def execPkJobGo (who : Initiator) (ctx : Fin 2) (v : Word) (s : State) : Result := (s.reg who (R.VLT_PK_CTLc ctx) (wSetField v 31 30 2)).done

/-- PK_ABORT (R252). -/
def execPkAbort (who : Initiator) (ctx : Fin 2) (s : State) : Result := (s.reg who (R.VLT_PK_CTLc ctx) 0x40000000).done

/-- PK_STEP_END (R252). -/
def execPkStepEnd (s : State) : Result := s.pkStepEnd.done

/-- TRNG_OUTPUT (R254): `ok`, the output passes its tests. -/
def execTrngOutput (ok : Bool) (s : State) : Result := (s.trngOutput ok).done

/-- TRNG_READ (R254). -/
def execTrngRead (who : Initiator) (s : State) : Result := (s.regTo who R.VLT_TRNG_DATA .read).done

/-- TRNG_RESTART (R254). -/
def execTrngRestart (s : State) : Result := s.trngRestart.done

/-! ## Alarms and the life cycle -/

/-- ALARM (R256): the bit of VLT_ALARM, and whether the temperature alarm is the over-temperature one of cause THERMAL. -/
def execAlarm (bit : Nat) (hot : Bool) (s : State) : Result := (s.alarm bit hot).done

/-- GO of LCS with an operation; `cut`: what ends a transition early, none where it completes (R259). -/
def State.lcsOp (s : State) (who : Initiator) (op : Nat) (cut : Option LcsCut) : State :=
  s.regGuard who R.LCS_CMD (fun s => s.lcsWrite (s.owner who) (s.secure who) (cmdWord 0 27 24 op) cut)

/-- SET_OWNER (R258). -/
def execSetOwner (who : Initiator) (s : State) : Result := (s.lcsOp who 1 none).done

/-- OPEN_FIELD (R259). -/
def execOpenField (who : Initiator) (cut : Option LcsCut) (s : State) : Result := (s.lcsOp who 2 cut).done

/-- SEAL (R259). -/
def execSeal (who : Initiator) (cut : Option LcsCut) (s : State) : Result := (s.lcsOp who 3 cut).done

/-- RETIRE (R259). -/
def execRetire (who : Initiator) (cut : Option LcsCut) (s : State) : Result := (s.lcsOp who 4 cut).done

/-- What the open debug port does to a core (R263): it halts it, lets it run, has it execute one instruction with the access that makes, or resets it.
It does so only while debug is open, and the andiron pair is out of its reach. A core that was not started, or is held, has nothing to halt or step; one
that is reset starts again at the address of its last start (log 89, DESIGN CHOICE). -/
def State.debugCore (s : State) (o : DebugOp) : State :=
  if s.live .debug = false ∨ s.secure .debug = false then s
  else match o with
    | .halt c => if (s.core c).started then s.setCore c { s.core c with halted := true } else s
    | .go c => s.setCore c { s.core c with halted := false }
    | .step c x =>
      if (s.core c).halted = false then s
      else
        let s := s.setCore c { s.core c with halted := false }
        let s := match x with
          | some b => let who := (match c with
              | .a => Initiator.coreA b.machine
              | .b => Initiator.coreB b.machine)
            if s.live who then s.access who b.addr b.size b.acc .none else s
          | none => s
        s.setCore c { s.core c with halted := true }
    | .reset c => if (s.core c).started then s.coreStart c (s.core c).entry (s.core c).pilot else s

/-- DEBUG_OPEN (R262): the command, and what the port so opened does to the cores (R263). -/
def execDebugOpen (req : DebugReq) (s : State) : Result := (match req with
  | .openBy who => s.lcsOp who 5 none
  | .core o => s.debugCore o).done

/-- NEW_CHALLENGE (R260). -/
def execNewChallenge (who : Initiator) (s : State) : Result := (s.lcsOp who 6 none).done

/-- CHALLENGE_EXPIRY (R260). -/
def execChallengeExpiry (s : State) : Result := s.challengeExpire.done

end Sys2Proof.Machine
end

