-- ==== Sys2Proof/Machine/Time.lean ====
section
/-! DEFINITION. Time, staged sets and snapshots: the ember timer's alarm and seconds (R34-R37, R494), sets under R38-R43, and Hearth's
snapshot (R46-R49). -/

namespace Sys2Proof.Machine

/-- RTC_ALARM_LO_WRITE (R494). -/
def execRtcAlarmLoWrite (who : Initiator) (v : Word) (s : State) : Result := (s.reg who R.RTC_ALARM_LO v).done

/-- RTC_ALARM_HI_WRITE (R494). -/
def execRtcAlarmHiWrite (who : Initiator) (v : Word) (s : State) : Result := (s.reg who R.RTC_ALARM_HI v).done

/-- RTC_ALARM_MATCH (R494): the timer has come to the enabled compare. -/
def State.alarmMatch (s : State) : State :=
  if s.fb F.RTC_ALARM_HI_EN && decide (s.rtc.ember < s.alarmCmp) then s.emberPass (s.alarmCmp - s.rtc.ember) else s

/-- RTC_ALARM_MATCH (R494). -/
def execRtcAlarmMatch (s : State) : Result := s.alarmMatch.done

/-- The checks of each second (R279), and the sample of the dissipation (R186). -/
def State.secondChecks (s : State) : State :=
  let s := ((s.emit 0x49 0).probSecond).pestSample
  s.forEach s.radios (fun s t => s.calSecond t)

/-- RTC_EV_SECOND (R279): the timer has come to the next second whose checks have not run. -/
def State.nextSecond (s : State) : State :=
  let n := s.rtc.second + 1
  let s := if s.rtc.ember < 32768 * n then s.emberPass (32768 * n - s.rtc.ember) else s
  (s.mRtc (fun x => { x with second := n })).secondChecks

/-- RTC_EV_SECOND (R279). -/
def execRtcEvSecond (s : State) : Result := s.nextSecond.done

/-- The staged registers of a set, its COMMIT last (R38). -/
def stagedRegs : SetId → List Nat
  | .wall => [R.RTC_WC_STG_LO, R.RTC_WC_STG_HI, R.RTC_TRIM_STG, R.RTC_CASN, R.RTC_COMMIT]
  | .schedule => [R.HRT_SCH_IDX, R.HRT_SCH_LO, R.HRT_SCH_CASN, R.HRT_SCH_COMMIT]
  | .config => [R.UPD_CFG_CASN, R.UPD_CFG_COMMIT]
  | .metCal => [R.MET_CAL_STG_V, R.MET_CAL_STG_I1, R.MET_CAL_STG_I2, R.MET_CAL_CASN, R.MET_CAL_COMMIT]
  | .charger => [R.SUP_CHG_STG, R.SUP_CHG_CASN, R.SUP_CHG_COMMIT]

/-- A staged register by its number, COMMIT for a number beyond them. -/
def stagedReg (x : SetId) (i : Nat) : Nat := nth (stagedRegs x) i x.commit

/-- STAGED_WRITE (R39): the fields of COMMIT come without GO and CANCEL. -/
def execStagedWrite (who : Initiator) (x : SetId) (k : Nat) (v : Word) (s : State) : Result :=
  (s.reg who (stagedReg x k) (if stagedReg x k = x.commit then wSetField v 31 30 0 else v)).done

/-- COMMIT_GO (R40). -/
def execCommitGo (who : Initiator) (x : SetId) (v : Word) (s : State) : Result := (s.reg who x.commit (wSetField v 31 30 2)).done

/-- COMMIT_CANCEL (R39). -/
def execCommitCancel (who : Initiator) (x : SetId) (s : State) : Result := (s.reg who x.commit 0x40000000).done

/-- STAGED_SET_APPLY (R41): a set armed without a slot is applied. -/
def execStagedSetApply (x : SetId) (s : State) : Result := (s.setNow x).done

/-- SNAPSHOT_REQUEST (R46). -/
def execSnapshotRequest (who : Initiator) (v : Word) (s : State) : Result := (s.reg who R.HRT_SNAP_REQ (wSetField v 31 31 1)).done

/-- SNAPSHOT_READY (R47). -/
def execSnapshotReady (s : State) : Result := s.snapReady.done

/-- SNAPSHOT_RELEASE (R49). -/
def execSnapshotRelease (who : Initiator) (s : State) : Result := (s.reg who R.HRT_SNAP_REL 1).done

/-- SNAPSHOT_LEASE_EXPIRY (R49). -/
def execSnapshotLeaseExpiry (s : State) : Result := s.snapExpire.done

end Sys2Proof.Machine
end

