-- ==== Sys2Proof/Machine/Updates.lean ====
section
/-! DEFINITION. The update engine's commands (R354-R380) and the Pilot service's requests (R381-R384, R436). -/

namespace Sys2Proof.Machine

/-- GO of UPD with an operation (Table 12-2). -/
def State.updOp (s : State) (who : Initiator) (op : Nat) (v : Word) : State := s.reg who R.UPD_CMD (cmdWord v 27 24 op)

/-- UPD_BEGIN (R359). -/
def execUpdBegin (who : Initiator) (v : Word) (s : State) : Result := (s.updOp who 1 v).done

/-- UPD_RESUME (R359). -/
def execUpdResume (who : Initiator) (v : Word) (s : State) : Result := (s.updOp who 2 v).done

/-- UPD_WRITE (R360). -/
def execUpdWrite (who : Initiator) (v : Word) (s : State) : Result := (s.updOp who 3 v).done

/-- UPD_END (R361). -/
def execUpdEnd (who : Initiator) (v : Word) (s : State) : Result := (s.updOp who 4 v).done

/-- UPD_START (R363). -/
def execUpdStart (who : Initiator) (v : Word) (s : State) : Result := (s.updOp who 5 v).done

/-- SHADOW_LOAD_DONE (R363). -/
def execShadowLoadDone (s : State) : Result := s.shadowLoaded.done

/-- UPD_INSTALL (R375). -/
def execUpdInstall (who : Initiator) (v : Word) (s : State) : Result := (s.updOp who 6 v).done

/-- UPD_ABORT (R366). -/
def execUpdAbort (who : Initiator) (v : Word) (s : State) : Result := (s.updOp who 7 v).done

/-- UPD_COMMIT (R374). -/
def execUpdCommit (who : Initiator) (v : Word) (s : State) : Result := (s.updOp who 8 v).done

/-- UPD_ROLLBACK (R373). -/
def execUpdRollback (who : Initiator) (v : Word) (s : State) : Result := (s.updOp who 9 v).done

/-- UPD_LOCK (R376). -/
def execUpdLock (who : Initiator) (v : Word) (s : State) : Result := (s.updOp who 10 v).done

/-- UPD_IDLE_TIMEOUT (R355). -/
def execUpdIdleTimeout (s : State) : Result := s.updIdleTimeout.done

/-- HANDOVER_ASK (R365). -/
def execHandoverAsk (who : Initiator) (s : State) : Result := (s.reg who R.UPD_HAND 1).done

/-- HANDOVER_EXPORTED (R365). -/
def execHandoverExported (who : Initiator) (s : State) : Result := (s.reg who R.UPD_HAND 2).done

/-- HANDOVER_ACCEPT (R370). -/
def execHandoverAccept (who : Initiator) (s : State) : Result := (s.reg who R.UPD_HAND 4).done

/-- HANDOVER_DECLINE (R366). -/
def execHandoverDecline (who : Initiator) (s : State) : Result := (s.reg who R.UPD_HAND 8).done

/-- HANDOVER_TIMEOUT (R366). -/
def execHandoverTimeout (s : State) : Result := s.handTimeout.done

/-- SWAP_BLOCKED (R370). -/
def execSwapBlocked (s : State) : Result := s.swapBlocked.done

/-- PROBATION_EXPIRY (R374). -/
def execProbationExpiry (s : State) : Result := s.probExpire.done

/-- COMMIT_RETRY (R374). -/
def execCommitRetry (s : State) : Result := s.commitRetry.done

/-! ## The Pilot service -/

/-- PILOT_STATUS (R384). -/
def execPilotStatus (s : State) : Result := (s.pilotServe 1).done

/-- PILOT_LAMP (R436). -/
def execPilotLamp (s : State) : Result := (s.pilotServe 2).done

/-- PILOT_REBOOT (R384). -/
def execPilotReboot (s : State) : Result := (s.pilotServe 3).done

/-- PILOT_IMG_BEGIN (R384). -/
def execPilotImgBegin (s : State) : Result := (s.pilotServe 4).done

/-- PILOT_IMG_WRITE (R384). -/
def execPilotImgWrite (s : State) : Result := (s.pilotServe 5).done

/-- PILOT_IMG_END (R384). -/
def execPilotImgEnd (s : State) : Result := (s.pilotServe 6).done

/-- PILOT_IMG_INSTALL (R384). -/
def execPilotImgInstall (s : State) : Result := (s.pilotServe 7).done

/-- PILOT_ASH_READ (R384). -/
def execPilotAshRead (s : State) : Result := (s.pilotServe 8).done

end Sys2Proof.Machine
end

