-- ==== Sys2Proof/Machine/Dispatch.lean ====
section
/-! DEFINITION. The one table of meanings: one arm for every command. -/

namespace Sys2Proof.Machine

def exec (i : Instr) (s : State) : Host.Outcome State Fault Refusal :=
  match i with
  | .registerWrite who a sz v => Sys2Proof.Machine.execRegisterWrite who a sz v s
  | .memoryAccess who a sz acc u => Sys2Proof.Machine.execMemoryAccess who a sz acc u s
  | .ownershipWrite who a v => Sys2Proof.Machine.execOwnershipWrite who a v s
  | .clearOnRead who a => Sys2Proof.Machine.execClearOnRead who a s
  | .counterLowRead who a => Sys2Proof.Machine.execCounterLowRead who a s
  | .activeSetCaptureRead who a => Sys2Proof.Machine.execActiveSetCaptureRead who a s
  | .intClaim who c => Sys2Proof.Machine.execIntClaim who c s
  | .intDone who c v => Sys2Proof.Machine.execIntDone who c v s
  | .intDoorbell who v => Sys2Proof.Machine.execIntDoorbell who v s
  | .intCfgWrite who n v => Sys2Proof.Machine.execIntCfgWrite who n v s
  | .dmaClaim who c v => Sys2Proof.Machine.execDmaClaim who c v s
  | .dmaStart who c => Sys2Proof.Machine.execDmaStart who c s
  | .dmaStop who c => Sys2Proof.Machine.execDmaStop who c s
  | .dmaAbort who c => Sys2Proof.Machine.execDmaAbort who c s
  | .dmaBeat c u => Sys2Proof.Machine.execDmaBeat c u s
  | .rtcAlarmLoWrite who v => Sys2Proof.Machine.execRtcAlarmLoWrite who v s
  | .rtcAlarmHiWrite who v => Sys2Proof.Machine.execRtcAlarmHiWrite who v s
  | .rtcAlarmMatch => Sys2Proof.Machine.execRtcAlarmMatch s
  | .rtcEvSecond => Sys2Proof.Machine.execRtcEvSecond s
  | .stagedWrite who x k v => Sys2Proof.Machine.execStagedWrite who x k v s
  | .commitGo who x v => Sys2Proof.Machine.execCommitGo who x v s
  | .commitCancel who x => Sys2Proof.Machine.execCommitCancel who x s
  | .stagedSetApply x => Sys2Proof.Machine.execStagedSetApply x s
  | .snapshotRequest who v => Sys2Proof.Machine.execSnapshotRequest who v s
  | .snapshotReady => Sys2Proof.Machine.execSnapshotReady s
  | .snapshotRelease who => Sys2Proof.Machine.execSnapshotRelease who s
  | .snapshotLeaseExpiry => Sys2Proof.Machine.execSnapshotLeaseExpiry s
  | .hearthStart => Sys2Proof.Machine.execHearthStart s
  | .sequencerVote threeWay => Sys2Proof.Machine.execSequencerVote threeWay s
  | .slotBoundary t e gap => Sys2Proof.Machine.execSlotBoundary t e gap s
  | .slotArm t inTime cal => Sys2Proof.Machine.execSlotArm t inTime cal s
  | .lockstepMismatch => Sys2Proof.Machine.execLockstepMismatch s
  | .lockstepRecovery crcOk us => Sys2Proof.Machine.execLockstepRecovery crcOk us s
  | .hearthFatal => Sys2Proof.Machine.execHearthFatal s
  | .queueProdWrite who q v => Sys2Proof.Machine.execQueueProdWrite who q v s
  | .queueReclWrite who q v => Sys2Proof.Machine.execQueueReclWrite who q v s
  | .queueFlush who q => Sys2Proof.Machine.execQueueFlush who q s
  | .bufferAlloc who => Sys2Proof.Machine.execBufferAlloc who s
  | .bufferReturn who v => Sys2Proof.Machine.execBufferReturn who v s
  | .descriptorWrite who q k w v => Sys2Proof.Machine.execDescriptorWrite who q k w v s
  | .immediateTransmit q ch mode => Sys2Proof.Machine.execImmediateTransmit q ch mode s
  | .immediateLockTimeout t gap => Sys2Proof.Machine.execImmediateLockTimeout t gap s
  | .retuneStart t => Sys2Proof.Machine.execRetuneStart t s
  | .synthLock t => Sys2Proof.Machine.execSynthLock t s
  | .ccaStart t => Sys2Proof.Machine.execCcaStart t s
  | .ccaComplete t l gap => Sys2Proof.Machine.execCcaComplete t l gap s
  | .txStart t sfd gap m => Sys2Proof.Machine.execTxStart t sfd gap m s
  | .txLockTimeout t gap => Sys2Proof.Machine.execTxLockTimeout t gap s
  | .txEnd t gap => Sys2Proof.Machine.execTxEnd t gap s
  | .txPowerCorrection t m => Sys2Proof.Machine.execTxPowerCorrection t m s
  | .ackWindowClose t gap => Sys2Proof.Machine.execAckWindowClose t gap s
  | .ackTransmit t clash m => Sys2Proof.Machine.execAckTransmit t clash m s
  | .rxWindowOpen t => Sys2Proof.Machine.execRxWindowOpen t s
  | .rxWindowClose t gap => Sys2Proof.Machine.execRxWindowClose t gap s
  | .preambleDetected t out phy level us => Sys2Proof.Machine.execPreambleDetected t out phy level us s
  | .sfdDetected t via phy tick rssi snr => Sys2Proof.Machine.execSfdDetected t via phy tick rssi snr s
  | .sfdTimeout t out => Sys2Proof.Machine.execSfdTimeout t out s
  | .muteExpiry t out => Sys2Proof.Machine.execMuteExpiry t out s
  | .phrReceived t via len code modeSwitch fcs4 hcs gap => Sys2Proof.Machine.execPhrReceived t via len code modeSwitch fcs4 hcs gap s
  | .frameControlReceived t via o => Sys2Proof.Machine.execFrameControlReceived t via o s
  | .destinationReceived t via o => Sys2Proof.Machine.execDestinationReceived t via o s
  | .sourceLookup t via o => Sys2Proof.Machine.execSourceLookup t via o s
  | .auxHeaderReceived t via o => Sys2Proof.Machine.execAuxHeaderReceived t via o s
  | .earlyDeliveryPost t via octets => Sys2Proof.Machine.execEarlyDeliveryPost t via octets s
  | .frameEnd t via octets fcsOk gap => Sys2Proof.Machine.execFrameEnd t via octets fcsOk gap s
  | .modelAgeCheck => Sys2Proof.Machine.execModelAgeCheck s
  | .dieSample temp => Sys2Proof.Machine.execDieSample temp s
  | .gatherListClose => Sys2Proof.Machine.execGatherListClose s
  | .gatheredAckTransmit m => Sys2Proof.Machine.execGatheredAckTransmit m s
  | .joinCollectExpiry t => Sys2Proof.Machine.execJoinCollectExpiry t s
  | .joinWindowOpen t => Sys2Proof.Machine.execJoinWindowOpen t s
  | .joinWindowClose t => Sys2Proof.Machine.execJoinWindowClose t s
  | .scheduleCellEdit who v => Sys2Proof.Machine.execScheduleCellEdit who v s
  | .scheduleSfEdit who v => Sys2Proof.Machine.execScheduleSfEdit who v s
  | .pendingFrameTransmit t clash sfd gap m => Sys2Proof.Machine.execPendingFrameTransmit t clash sfd gap m s
  | .openPollRepoll t => Sys2Proof.Machine.execOpenPollRepoll t s
  | .vinDebounceExpiry => Sys2Proof.Machine.execVinDebounceExpiry s
  | .ledgerSecond => Sys2Proof.Machine.execLedgerSecond s
  | .exclHoldExpiry t ch => Sys2Proof.Machine.execExclHoldExpiry t ch s
  | .exclusionVersionCreate t => Sys2Proof.Machine.execExclusionVersionCreate t s
  | .nbrAdd who v => Sys2Proof.Machine.execNbrAdd who v s
  | .nbrRemove who v => Sys2Proof.Machine.execNbrRemove who v s
  | .nbrPin who v => Sys2Proof.Machine.execNbrPin who v s
  | .nbrUnpin who v => Sys2Proof.Machine.execNbrUnpin who v s
  | .nbrBlock who v => Sys2Proof.Machine.execNbrBlock who v s
  | .nbrLookup who v => Sys2Proof.Machine.execNbrLookup who v s
  | .nbrSetShort who v => Sys2Proof.Machine.execNbrSetShort who v s
  | .nbrAddChild who v => Sys2Proof.Machine.execNbrAddChild who v s
  | .nbrDelChild who v => Sys2Proof.Machine.execNbrDelChild who v s
  | .commandSetWrite who x k v => Sys2Proof.Machine.execCommandSetWrite who x k v s
  | .commandResultRead who x => Sys2Proof.Machine.execCommandResultRead who x s
  | .commandSetLapse x => Sys2Proof.Machine.execCommandSetLapse x s
  | .neighbourAgeCheck => Sys2Proof.Machine.execNeighbourAgeCheck s
  | .childTimeoutCheck => Sys2Proof.Machine.execChildTimeoutCheck s
  | .indexCamMove => Sys2Proof.Machine.execIndexCamMove s
  | .xoStartTimeout => Sys2Proof.Machine.execXoStartTimeout s
  | .xoRestart ok => Sys2Proof.Machine.execXoRestart ok s
  | .calibrationStart t item => Sys2Proof.Machine.execCalibrationStart t item s
  | .calibrationEnd t ok temp gap => Sys2Proof.Machine.execCalibrationEnd t ok temp gap s
  | .radioTestWrite who t v => Sys2Proof.Machine.execRadioTestWrite who t v s
  | .fblLeave t => Sys2Proof.Machine.execFblLeave t s
  | .gainStepDown t => Sys2Proof.Machine.execGainStepDown t s
  | .gainStepUp t => Sys2Proof.Machine.execGainStepUp t s
  | .keyWordWrite who page slot w v => Sys2Proof.Machine.execKeyWordWrite who page slot w v s
  | .keyLoad who page slot v => Sys2Proof.Machine.execKeyLoad who page slot v s
  | .keyClear who page slot v => Sys2Proof.Machine.execKeyClear who page slot v s
  | .keyPageWipe who page => Sys2Proof.Machine.execKeyPageWipe who page s
  | .reservationTimeout => Sys2Proof.Machine.execReservationTimeout s
  | .reservationRetry => Sys2Proof.Machine.execReservationRetry s
  | .lceJobCtr who v => Sys2Proof.Machine.execLceJobCtr who v s
  | .lceJobCbcMac who v => Sys2Proof.Machine.execLceJobCbcMac who v s
  | .lceJobCmac who v => Sys2Proof.Machine.execLceJobCmac who v s
  | .lceJobEnd => Sys2Proof.Machine.execLceJobEnd s
  | .vaultGen who v => Sys2Proof.Machine.execVaultGen who v s
  | .vaultVerify who v => Sys2Proof.Machine.execVaultVerify who v s
  | .vaultUnwrap who v => Sys2Proof.Machine.execVaultUnwrap who v s
  | .vaultWrap who v => Sys2Proof.Machine.execVaultWrap who v s
  | .vaultRewrap who v => Sys2Proof.Machine.execVaultRewrap who v s
  | .vaultCommandEnd => Sys2Proof.Machine.execVaultCommandEnd s
  | .pkJobGo who ctx v => Sys2Proof.Machine.execPkJobGo who ctx v s
  | .pkAbort who ctx => Sys2Proof.Machine.execPkAbort who ctx s
  | .pkStepEnd => Sys2Proof.Machine.execPkStepEnd s
  | .trngOutput ok => Sys2Proof.Machine.execTrngOutput ok s
  | .trngRead who => Sys2Proof.Machine.execTrngRead who s
  | .trngRestart => Sys2Proof.Machine.execTrngRestart s
  | .alarm bit hot => Sys2Proof.Machine.execAlarm bit hot s
  | .setOwner who => Sys2Proof.Machine.execSetOwner who s
  | .openField who cut => Sys2Proof.Machine.execOpenField who cut s
  | .seal who cut => Sys2Proof.Machine.execSeal who cut s
  | .retire who cut => Sys2Proof.Machine.execRetire who cut s
  | .debugOpen req => Sys2Proof.Machine.execDebugOpen req s
  | .newChallenge who => Sys2Proof.Machine.execNewChallenge who s
  | .challengeExpiry => Sys2Proof.Machine.execChallengeExpiry s
  | .flueEvent n env => Sys2Proof.Machine.execFlueEvent n env s
  | .flueHeldDelivery env => Sys2Proof.Machine.execFlueHeldDelivery env s
  | .flueChannelConfig who c v => Sys2Proof.Machine.execFlueChannelConfig who c v s
  | .flueTaskWrite who c v => Sys2Proof.Machine.execFlueTaskWrite who c v s
  | .coreWfiDoze c => Sys2Proof.Machine.execCoreWfiDoze c s
  | .coreJoin c env => Sys2Proof.Machine.execCoreJoin c env s
  | .damperGrant code env => Sys2Proof.Machine.execDamperGrant code env s
  | .damperTimeout => Sys2Proof.Machine.execDamperTimeout s
  | .powerStateEntered => Sys2Proof.Machine.execPowerStateEntered s
  | .bankedWake sched => Sys2Proof.Machine.execBankedWake sched s
  | .cinderWake => Sys2Proof.Machine.execCinderWake s
  | .wakeFailure step => Sys2Proof.Machine.execWakeFailure step s
  | .wakeRetry => Sys2Proof.Machine.execWakeRetry s
  | .clockSelect who v => Sys2Proof.Machine.execClockSelect who v s
  | .perfLevelChange who v => Sys2Proof.Machine.execPerfLevelChange who v s
  | .perfLevelDone => Sys2Proof.Machine.execPerfLevelDone s
  | .pllLock => Sys2Proof.Machine.execPllLock s
  | .pllLockLoss => Sys2Proof.Machine.execPllLockLoss s
  | .x32Fail => Sys2Proof.Machine.execX32Fail s
  | .x32Retry ok => Sys2Proof.Machine.execX32Retry ok s
  | .powerOnReset vin vkeep vsys => Sys2Proof.Machine.execPowerOnReset vin vkeep vsys s
  | .brownOut src => Sys2Proof.Machine.execBrownOut src s
  | .resetPin => Sys2Proof.Machine.execResetPin s
  | .watchdogExpiry c => Sys2Proof.Machine.execWatchdogExpiry c s
  | .lockup c => Sys2Proof.Machine.execLockup c s
  | .softReset who v => Sys2Proof.Machine.execSoftReset who v s
  | .deferredResetTaken us => Sys2Proof.Machine.execDeferredResetTaken us s
  | .kindlingSlowRetry => Sys2Proof.Machine.execKindlingSlowRetry s
  | .kindlingDone us => Sys2Proof.Machine.execKindlingDone us s
  | .bootStart => Sys2Proof.Machine.execBootStart s
  | .watchdogKick who c v => Sys2Proof.Machine.execWatchdogKick who c v s
  | .securePageSet who n v => Sys2Proof.Machine.execSecurePageSet who n v s
  | .optionWrite who => Sys2Proof.Machine.execOptionWrite who s
  | .flashProgram who k => Sys2Proof.Machine.execFlashProgram who k s
  | .flashErase who k => Sys2Proof.Machine.execFlashErase who k s
  | .flashQuery who k => Sys2Proof.Machine.execFlashQuery who k s
  | .flashCancel who k v => Sys2Proof.Machine.execFlashCancel who k v s
  | .flashStepEnd e => Sys2Proof.Machine.execFlashStepEnd e s
  | .flashPause who v => Sys2Proof.Machine.execFlashPause who v s
  | .pauseExpiry id bank => Sys2Proof.Machine.execPauseExpiry id bank s
  | .updBegin who v => Sys2Proof.Machine.execUpdBegin who v s
  | .updResume who v => Sys2Proof.Machine.execUpdResume who v s
  | .updWrite who v => Sys2Proof.Machine.execUpdWrite who v s
  | .updEnd who v => Sys2Proof.Machine.execUpdEnd who v s
  | .updStart who v => Sys2Proof.Machine.execUpdStart who v s
  | .shadowLoadDone => Sys2Proof.Machine.execShadowLoadDone s
  | .updInstall who v => Sys2Proof.Machine.execUpdInstall who v s
  | .updAbort who v => Sys2Proof.Machine.execUpdAbort who v s
  | .updCommit who v => Sys2Proof.Machine.execUpdCommit who v s
  | .updRollback who v => Sys2Proof.Machine.execUpdRollback who v s
  | .updLock who v => Sys2Proof.Machine.execUpdLock who v s
  | .updIdleTimeout => Sys2Proof.Machine.execUpdIdleTimeout s
  | .handoverAsk who => Sys2Proof.Machine.execHandoverAsk who s
  | .handoverExported who => Sys2Proof.Machine.execHandoverExported who s
  | .handoverAccept who => Sys2Proof.Machine.execHandoverAccept who s
  | .handoverDecline who => Sys2Proof.Machine.execHandoverDecline who s
  | .handoverTimeout => Sys2Proof.Machine.execHandoverTimeout s
  | .swapBlocked => Sys2Proof.Machine.execSwapBlocked s
  | .probationExpiry => Sys2Proof.Machine.execProbationExpiry s
  | .commitRetry => Sys2Proof.Machine.execCommitRetry s
  | .pilotStatus => Sys2Proof.Machine.execPilotStatus s
  | .pilotLamp => Sys2Proof.Machine.execPilotLamp s
  | .pilotReboot => Sys2Proof.Machine.execPilotReboot s
  | .pilotImgBegin => Sys2Proof.Machine.execPilotImgBegin s
  | .pilotImgWrite => Sys2Proof.Machine.execPilotImgWrite s
  | .pilotImgEnd => Sys2Proof.Machine.execPilotImgEnd s
  | .pilotImgInstall => Sys2Proof.Machine.execPilotImgInstall s
  | .pilotAshRead => Sys2Proof.Machine.execPilotAshRead s
  | .ashSoftwareRecord who v => Sys2Proof.Machine.execAshSoftwareRecord who v s
  | .ashFlush who => Sys2Proof.Machine.execAshFlush who s
  | .ashRebuild => Sys2Proof.Machine.execAshRebuild s
  | .ashClear who => Sys2Proof.Machine.execAshClear who s
  | .ashReadRequest who v => Sys2Proof.Machine.execAshReadRequest who v s
  | .ashReadDone => Sys2Proof.Machine.execAshReadDone s
  | .portFrameReject svc e => Sys2Proof.Machine.execPortFrameReject svc e s
  | .frameCut svc => Sys2Proof.Machine.execFrameCut svc s
  | .hostPing seq pay => Sys2Proof.Machine.execHostPing seq pay s
  | .hostSetBaud seq pay => Sys2Proof.Machine.execHostSetBaud seq pay s
  | .hostRd32 seq pay => Sys2Proof.Machine.execHostRd32 seq pay s
  | .hostWr32 seq pay => Sys2Proof.Machine.execHostWr32 seq pay s
  | .hostRdmem seq pay => Sys2Proof.Machine.execHostRdmem seq pay s
  | .hostWrmem seq pay => Sys2Proof.Machine.execHostWrmem seq pay s
  | .hostReset seq pay => Sys2Proof.Machine.execHostReset seq pay s
  | .hostTxFrame seq pay => Sys2Proof.Machine.execHostTxFrame seq pay s
  | .hostReclaim seq pay => Sys2Proof.Machine.execHostReclaim seq pay s
  | .hostGetRx seq pay => Sys2Proof.Machine.execHostGetRx seq pay s
  | .hostKeypage seq pay => Sys2Proof.Machine.execHostKeypage seq pay s
  | .hostKeyLoad seq pay => Sys2Proof.Machine.execHostKeyLoad seq pay s
  | .svcHello seq pay => Sys2Proof.Machine.execSvcHello seq pay s
  | .svcAuth seq pay => Sys2Proof.Machine.execSvcAuth seq pay s
  | .svcBye seq pay => Sys2Proof.Machine.execSvcBye seq pay s
  | .svcSetBaud seq pay => Sys2Proof.Machine.execSvcSetBaud seq pay s
  | .svcChallenge seq pay => Sys2Proof.Machine.execSvcChallenge seq pay s
  | .svcRd32 seq pay => Sys2Proof.Machine.execSvcRd32 seq pay s
  | .svcWr32 seq pay => Sys2Proof.Machine.execSvcWr32 seq pay s
  | .svcRdmem seq pay => Sys2Proof.Machine.execSvcRdmem seq pay s
  | .svcWrmem seq pay => Sys2Proof.Machine.execSvcWrmem seq pay s
  | .svcStatus seq pay => Sys2Proof.Machine.execSvcStatus seq pay s
  | .svcReset seq pay => Sys2Proof.Machine.execSvcReset seq pay s
  | .svcImgBegin seq pay => Sys2Proof.Machine.execSvcImgBegin seq pay s
  | .svcImgWrite seq pay => Sys2Proof.Machine.execSvcImgWrite seq pay s
  | .svcImgEnd seq pay => Sys2Proof.Machine.execSvcImgEnd seq pay s
  | .svcImgStart seq pay => Sys2Proof.Machine.execSvcImgStart seq pay s
  | .svcImgInstall seq pay => Sys2Proof.Machine.execSvcImgInstall seq pay s
  | .svcImgCommit seq pay => Sys2Proof.Machine.execSvcImgCommit seq pay s
  | .svcImgRollback seq pay => Sys2Proof.Machine.execSvcImgRollback seq pay s
  | .svcImgAbort seq pay => Sys2Proof.Machine.execSvcImgAbort seq pay s
  | .svcKeyLoad seq pay => Sys2Proof.Machine.execSvcKeyLoad seq pay s
  | .svcCfgCommit seq pay => Sys2Proof.Machine.execSvcCfgCommit seq pay s
  | .svcAshRead seq pay => Sys2Proof.Machine.execSvcAshRead seq pay s
  | .svcAshClear seq pay => Sys2Proof.Machine.execSvcAshClear seq pay s
  | .svcLc seq pay => Sys2Proof.Machine.execSvcLc seq pay s
  | .svcOptions seq pay => Sys2Proof.Machine.execSvcOptions seq pay s
  | .svcPilot seq pay => Sys2Proof.Machine.execSvcPilot seq pay s
  | .sessionTimeout => Sys2Proof.Machine.execSessionTimeout s
  | .daliSend who => Sys2Proof.Machine.execDaliSend who s
  | .daliAbort who => Sys2Proof.Machine.execDaliAbort who s
  | .daliCollision => Sys2Proof.Machine.execDaliCollision s
  | .daliSendEnd heard => Sys2Proof.Machine.execDaliSendEnd heard s
  | .daliFrameReceived ty data => Sys2Proof.Machine.execDaliFrameReceived ty data s
  | .daliRxPop who => Sys2Proof.Machine.execDaliRxPop who s
  | .daliBusDown => Sys2Proof.Machine.execDaliBusDown s
  | .dimApply who v => Sys2Proof.Machine.execDimApply who v s
  | .dimRampStep => Sys2Proof.Machine.execDimRampStep s
  | .dimFault => Sys2Proof.Machine.execDimFault s
  | .relayPulse who r v => Sys2Proof.Machine.execRelayPulse who r v s
  | .relaySwitch who v => Sys2Proof.Machine.execRelaySwitch who v s
  | .relayPulseEnd r => Sys2Proof.Machine.execRelayPulseEnd r s
  | .relayFault r => Sys2Proof.Machine.execRelayFault r s
  | .metPublish m => Sys2Proof.Machine.execMetPublish m s
  | .metZeroCross => Sys2Proof.Machine.execMetZeroCross s
  | .metSnapshot who => Sys2Proof.Machine.execMetSnapshot who s
  | .metClearEnergy who => Sys2Proof.Machine.execMetClearEnergy who s
  | .adcSample who => Sys2Proof.Machine.execAdcSample who s
  | .adcSequenceDone results => Sys2Proof.Machine.execAdcSequenceDone results s
  | .motionEdge rising => Sys2Proof.Machine.execMotionEdge rising s
  | .motionReportWrite who => Sys2Proof.Machine.execMotionReportWrite who s
  | .tmrStart who t => Sys2Proof.Machine.execTmrStart who t s
  | .tmrStop who t count => Sys2Proof.Machine.execTmrStop who t count s
  | .tmrCapture who t count => Sys2Proof.Machine.execTmrCapture who t count s
  | .tmrCaptureEdge io count rising => Sys2Proof.Machine.execTmrCaptureEdge io count rising s
  | .tmrCompare t k => Sys2Proof.Machine.execTmrCompare t k s
  | .tmrOverflow t => Sys2Proof.Machine.execTmrOverflow t s
  | .seStart who n => Sys2Proof.Machine.execSeStart who n s
  | .seAbort who n => Sys2Proof.Machine.execSeAbort who n s
  | .seFlush who n => Sys2Proof.Machine.execSeFlush who n s
  | .seTransferEnd n sent got e => Sys2Proof.Machine.execSeTransferEnd n sent got e s
  | .seRxOctet n o parity framing => Sys2Proof.Machine.execSeRxOctet n o parity framing s
  | .seTxdWrite who n v => Sys2Proof.Machine.execSeTxdWrite who n v s
  | .seRxdRead who n => Sys2Proof.Machine.execSeRxdRead who n s
  | .vinUndervoltage mv => Sys2Proof.Machine.execVinUndervoltage mv s
  | .vinRelease mv => Sys2Proof.Machine.execVinRelease mv s
  | .powerFailWarning mv => Sys2Proof.Machine.execPowerFailWarning mv s
  | .pfwDeassert mv => Sys2Proof.Machine.execPfwDeassert mv s
  | .vsysLow mv gap => Sys2Proof.Machine.execVsysLow mv gap s
  | .supplySample vin vkeep vsys => Sys2Proof.Machine.execSupplySample vin vkeep vsys s
  | .chargerPreTimeout => Sys2Proof.Machine.execChargerPreTimeout s
  | .chargerTerminate => Sys2Proof.Machine.execChargerTerminate s
  | .ioBankLow bank => Sys2Proof.Machine.execIoBankLow bank s
  | .padConfigWrite who n v => Sys2Proof.Machine.execPadConfigWrite who n v s
  | .padOutSet who g v => Sys2Proof.Machine.execPadOutSet who g v s
  | .padOutClear who g v => Sys2Proof.Machine.execPadOutClear who g v s
  | .padOutToggle who g v => Sys2Proof.Machine.execPadOutToggle who g v s
  | .padReleaseBank who g => Sys2Proof.Machine.execPadReleaseBank who g s
  | .padReleaseLamp who => Sys2Proof.Machine.execPadReleaseLamp who s
  | .padEdge n rising => Sys2Proof.Machine.execPadEdge n rising s
  | .wakePinEdge n trig => Sys2Proof.Machine.execWakePinEdge n trig s
  | .powerLoss => Sys2Proof.Machine.execPowerLoss s
  | .resetConditionEnd cause => Sys2Proof.Machine.execResetConditionEnd cause s
  | .x32Ready => Sys2Proof.Machine.execX32Ready s
  | .xoReady => Sys2Proof.Machine.execXoReady s
  | .daliBusUp => Sys2Proof.Machine.execDaliBusUp s
  | .vioReturn bank => Sys2Proof.Machine.execVioReturn bank s
  | .chargerVkeepLevel mv => Sys2Proof.Machine.execChargerVkeepLevel mv s
  | .ntcWindowChange ratio => Sys2Proof.Machine.execNtcWindowChange ratio s
  | .lossOfSignal t via gap => Sys2Proof.Machine.execLossOfSignal t via gap s
  | .hostTransactionEnd n => Sys2Proof.Machine.execHostTransactionEnd n s

end Sys2Proof.Machine
end

