-- ==== Sys2Proof/Safety.lean ====
section
/-! DEFINITION. The terms claims are stated in: states in canonical form, states in which nothing follows a command at once, and what every step
leaves true. -/

namespace Sys2Proof.Machine

/-- Memory is in its canonical form: addresses rise, and no entry equals what an unlisted address reads as. -/
def Memory.wf (m : List Host.Cell) : Bool := Sparse.wf memDefault m

/-- The register file is in the same form. -/
def Registers.wf (r : List (Nat × Word)) : Bool := Sparse.wf regDefault r

/-- Both are. -/
def State.wf (s : State) : Bool := Memory.wf s.mem && Registers.wf s.regs

/-- A reset cause waits only for the flash step that runs (R306). -/
def State.resetsTaken (s : State) : Bool := s.rst.deferred.isEmpty || s.rst.waiting

/-- The host port, where it is on, has told the host of HRT_EVT and HRT_STAT as they are (R417). -/
def State.hostTold (s : State) : Bool := !s.hostOn || s.hst.told == (s.rd R.HRT_EVT, s.rd R.HRT_STAT)

/-- Every octet of memory reads as it did. -/
def State.sameMem (s t : State) : Prop := ∀ a, t.rb a = s.rb a

/-- Every register outside `l` holds what it did. -/
def State.sameRegs (s t : State) (l : List Nat) : Prop := ∀ a, a ∉ l → t.rd a = s.rd a

/-- `who` makes accesses now, and its write of the register at `a` is permitted (R26). -/
def State.mayWrite (s : State) (who : Initiator) (a : Nat) : Prop := s.live who = true ∧ s.regSyn (s.owner who) (s.secure who) a true = 0

/-- `who` makes accesses now, and its read of the register at `a` is permitted (R26). -/
def State.mayRead (s : State) (who : Initiator) (a : Nat) : Prop := s.live who = true ∧ s.regSyn (s.owner who) (s.secure who) a false = 0

/-- The command completes: it answers the state that follows at once (State.settle) from a state `u` with its effect `P u`. -/
def Gives (i : Instr) (s : State) (P : State → Prop) : Prop := ∃ u, exec i s = .next u.settle ∧ P u

end Sys2Proof.Machine
end

