-- ==== Sys2Proof/Certificates/Slice0/Obligations.lean ====
section
/-! DEFINITION. The statements for the provers. `Gives i s P`: the command `i` completes at `s`; it answers the state that follows at once
(State.settle) from a state `u`, and `P u` says what its effect left in `u`. -/

open Sys2Proof Sys2Proof.Machine

/-- One step runs the command at the front of the queue on the state with the queue's rest. The queue is the model's (log 60, DESIGN CHOICE). -/
def Obligations.StepRunsFront : Prop :=
  ∀ (c : Instr) (rest : List Instr) (s : State), step { s with pending := c :: rest } = exec c { s with pending := rest }

/-- A command answers `u.settle` for the `u` its effect leaves, and that is `u` itself where nothing follows at once. -/
def Obligations.CalmAnswersItself : Prop :=
  ∀ (c : Instr) (s : State), ∃ u : State, exec c s = .next u.settle ∧ (u.calm = true → exec c s = .next u)

/-- An empty queue stands for one tick of the ember timer (the model's choice, log 60, DESIGN CHOICE), which then counts modulo 2^48 (R34); a commit's
entries are written by then (R114, log 81). -/
def Obligations.EmptyQueueTicks : Prop :=
  ∀ s : State, s.pending = [] → s.sup.lost = false →
    ∃ u : State, step s = .next u.settle ∧ u.rtc.ember = (s.rtc.ember + 1) % 0x1000000000000 ∧ u.hrt.rewrite = [] ∧
      (s.hrt.rewrite = [] → s.sameMem u) ∧ u.pending = []

/-- A permitted word write of a register of PWR, EMB, HST or SVC, other than an ownership register, bit by bit (Table 0-2, R6-R8), with the
limits of PWR_BUDGET (Table 9-9) and PWR_RET (R372). -/
def Obligations.RegisterWriteByAccessType : Prop :=
  ∀ (who : Initiator) (a : Nat) (v : Word) (s : State),
    a / 0x1000 ∈ [0x40000, 0x40003, 0x400C0, 0x400C1] → a % 4 = 0 → a % 0x1000 ≠ 0xFFC → s.mayWrite who a →
      let written := fun (w : Word) (u : State) => s.sameRegs u [a] ∧ s.sameMem u ∧ u.bus = ⟨0, 0⟩ ∧
        match rowOf a with
        | none => u.rd a = s.rd a
        | some r => ∀ n, n < 32 →
            wBit (u.rd a) n = (if wBit r.w1c n && wBit w n then false else if wBit r.rw n then wBit w n else wBit (s.rd a) n)
      let badLimit := a = R.PWR_BUDGET ∧ (wField v 10 0 < 200 ∨ 2000 < wField v 10 0)
      let kept := a = R.PWR_RET ∧ (s.uState = uProbation ∨ s.uState = uRollback)
      (¬ badLimit → ¬ kept → Gives (.registerWrite who a .word v) s (written v)) ∧
      (badLimit → Gives (.registerWrite who a .word v) s (fun u => u.fg F.PWR_EVT_ERR = 1 ∧ s.sameRegs u [R.PWR_EVT] ∧ s.sameMem u)) ∧
      (kept → Gives (.registerWrite who a .word v) s (written (v ||| (s.rd a &&& w32 (partBanks s.upd.oldCore)))))

/-- R6: a register is accessed as an aligned word, or the access is a precise bus fault with syndrome ALIGN (Table 1-7, Table 1-9). -/
def Obligations.RegisterNeedsWord : Prop :=
  ∀ (m : Bool) (a : Nat) (sz : Size) (acc : Access) (s : State),
    s.live (.coreA m) = true → regionOf a = .periph (a / 0x1000) → (sz ≠ .word ∨ a % 4 ≠ 0) → acc ≠ .fetch →
      Gives (.memoryAccess (.coreA m) a sz acc .none) s (fun u =>
        u.bus = ⟨0, synAlign⟩ ∧ s.sameMem u ∧ s.sameRegs u [R.INT_FAULT_A_ADDR, R.INT_FAULT_A_SYN] ∧
        (s.fb ⟨R.INT_FAULT_A_SYN, 31, 31⟩ = false →
          u.rd R.INT_FAULT_A_ADDR = w32 a ∧ u.rd R.INT_FAULT_A_SYN = w32 (0x80000000 + b2n acc.isWrite * 256 + synAlign)) ∧
        (s.fb ⟨R.INT_FAULT_A_SYN, 31, 31⟩ = true →
          u.rd R.INT_FAULT_A_ADDR = s.rd R.INT_FAULT_A_ADDR ∧ u.fg ⟨R.INT_FAULT_A_SYN, 30, 30⟩ = 1))

/-- R26: a forbidden access has no effect; the core faults and its identity's bit of INT_VIOL is set. The record it may write is Ash's. -/
def Obligations.ForbiddenWriteHasNoEffect : Prop :=
  ∀ (m : Bool) (a x : Nat) (v : Word) (s : State),
    s.live (.coreB m) = true → a % 4 = 0 → s.regSyn (s.owner (.coreB m)) (s.secure (.coreB m)) a true = x → x ≠ 0 →
      Gives (.registerWrite (.coreB m) a .word v) s (fun u =>
        u.bus = ⟨0, x⟩ ∧ s.sameMem u ∧ u.rbit R.INT_VIOL (s.owner (.coreB m)) = true ∧
        ∀ b, b / 0x1000 ≠ 0x400B0 → b / 0x1000 ≠ 0x40009 → u.rd b = s.rd b)

/-- MEMORY_ACCESS to SRAM (R16, R19, R493): writes of every size and reads of every size. -/
def Obligations.MemoryAccessStoresAndLoads : Prop :=
  ∀ (who : Initiator) (a b : Nat) (sz : Size) (v : Word) (s : State),
    s.live who = true → regionOf a = .sram b → a % sz.octets = 0 →
      (s.memSynOf who a true = 0 → (sz = .word ∨ s.eccBad.contains (a / 4 * 4) = false) →
        Gives (.memoryAccess who a sz (.write v) .none) s (fun u =>
          (∀ i, i < sz.octets → u.rb (a + i) = BitVec.ofNat 8 (v.toNat / 256 ^ i)) ∧
          (∀ c, (c < a ∨ a + sz.octets ≤ c) → u.rb c = s.rb c) ∧ s.sameRegs u [] ∧ u.bus = ⟨0, 0⟩ ∧
          (sz = .word → u.eccBad.contains a = false))) ∧
      (s.memSynOf who a false = 0 → s.eccBad.contains (a / 4 * 4) = false →
        Gives (.memoryAccess who a sz .read .none) s (fun u =>
          u.bus.fault = 0 ∧ (∀ i, i < sz.octets → BitVec.ofNat 8 (u.bus.data.toNat / 256 ^ i) = s.rb (a + i)) ∧
          s.sameMem u ∧ s.sameRegs u []))

/-- The precise bus faults of R6, R16, R18 and R19, in the order in which an access meets them. -/
def Obligations.MemoryFaults : Prop :=
  ∀ (m : Bool) (a : Nat) (sz : Size) (acc : Access) (s : State), s.live (.coreA m) = true → (∀ p, regionOf a ≠ .periph p) → acc ≠ .fetch →
    (a % sz.octets ≠ 0 → Gives (.memoryAccess (.coreA m) a sz acc .none) s (fun u => u.bus = ⟨0, synAlign⟩ ∧ s.sameMem u)) ∧
    (a % sz.octets = 0 → regionOf a = .unmapped →
      Gives (.memoryAccess (.coreA m) a sz acc .none) s (fun u => u.bus = ⟨0, synDecode⟩ ∧ s.sameMem u)) ∧
    (a % sz.octets = 0 → regionOf a = .flash → acc.isWrite = true →
      Gives (.memoryAccess (.coreA m) a sz acc .none) s (fun u => u.bus = ⟨0, synWrite⟩ ∧ s.sameMem u)) ∧
    (∀ b, a % sz.octets = 0 → regionOf a = .sram b → s.memSynOf (.coreA m) a acc.isWrite = 0 →
      s.eccBad.contains (a / 4 * 4) = true → (acc.isWrite = true → sz ≠ .word) →
      Gives (.memoryAccess (.coreA m) a sz acc .none) s (fun u => u.bus = ⟨0, synEcc⟩ ∧ s.sameMem u))

/-- OWNERSHIP_WRITE at the nine ownership registers of the assignable blocks (R24). That LOCK stops a claim of an unowned block is DEDUCED (log 96). -/
def Obligations.OwnershipRegister : Prop :=
  ∀ (who : Initiator) (a : Nat) (v : Word) (s : State), a ∈ ownRegs → s.live who = true → s.secure who = true → isCore (s.owner who) = true →
    let own := s.owner who
    let takes := fun u : State => u.fg ⟨a, 2, 0⟩ = wField v 2 0 ∧ u.fg ⟨a, 4, 4⟩ = wField v 4 4 ∧
      u.fb ⟨a, 31, 31⟩ = (s.fb ⟨a, 31, 31⟩ || wBit v 31) ∧ s.sameRegs u [a] ∧ s.sameMem u
    (s.fg ⟨a, 2, 0⟩ = ownNone → wField v 2 0 = own → s.fb ⟨a, 31, 31⟩ = false → Gives (.ownershipWrite who a v) s takes) ∧
    (s.fg ⟨a, 2, 0⟩ = own → s.fb ⟨a, 31, 31⟩ = false → Gives (.ownershipWrite who a v) s takes) ∧
    ((s.fg ⟨a, 2, 0⟩ = ownNone ∧ wField v 2 0 ≠ own ∨ (s.fg ⟨a, 2, 0⟩ = ownNone ∨ s.fg ⟨a, 2, 0⟩ = own) ∧ s.fb ⟨a, 31, 31⟩ = true) →
      Gives (.ownershipWrite who a v) s (fun u => s.sameRegs u [] ∧ s.sameMem u))

/-- COUNTER_LOW_READ, ACTIVE_SET_CAPTURE_READ and CLEAR_ON_READ at RTC's and INT's registers (R10, R37, R43). -/
def Obligations.ReadsCaptureAndClear : Prop :=
  ∀ (who : Initiator) (a : Nat) (s : State), s.mayRead who a → alGet s.caps (s.capKey who, a) = none →
    (a = R.RTC_EMB_LO → Gives (.counterLowRead who a) s (fun u =>
      u.bus = ⟨w32 s.rtc.ember, 0⟩ ∧ alGet u.caps (s.capKey who, R.RTC_EMB_HI) = some (w32 (s.rtc.ember / 0x100000000 % 0x10000)) ∧
      s.sameRegs u [] ∧ s.sameMem u)) ∧
    (a = R.RTC_WC_LO → Gives (.activeSetCaptureRead who a) s (fun u =>
      u.bus = ⟨w32 s.rtc.wcMs, 0⟩ ∧
      alGet u.caps (s.capKey who, R.RTC_WC_HI) = some (w32 (s.rtc.wcEpoch % 0x10000 * 0x10000 + s.rtc.wcMs / 0x100000000 % 0x10000)) ∧
      alGet u.caps (s.capKey who, R.RTC_TRIM_ACT) = some (s.rd R.RTC_TRIM_ACT) ∧ s.sameRegs u [] ∧ s.sameMem u)) ∧
    (a = R.INT_FAULT_A_SYN ∨ a = R.INT_FAULT_B_SYN → Gives (.clearOnRead who a) s (fun u =>
      u.bus = ⟨s.rd a, 0⟩ ∧ u.fg ⟨a, 31, 30⟩ = 0 ∧ u.fg ⟨a, 8, 8⟩ = 0 ∧ u.fg ⟨a, 3, 0⟩ = 0 ∧ s.sameRegs u [a] ∧ s.sameMem u))

/-- R37: the captured high word, for the initiator that read the low word (State.capKey: a core in its identity, a DMA channel), and not disturbed by
another initiator's read. -/
def Obligations.CapturedWordIsReturned : Prop :=
  ∀ (who other : Initiator) (w : Word) (s : State), alGet s.caps (s.capKey who, R.RTC_EMB_HI) = some w →
    (s.mayRead who R.RTC_EMB_HI →
      Gives (.memoryAccess who R.RTC_EMB_HI .word .read .none) s (fun u => u.bus = ⟨w, 0⟩ ∧ s.sameRegs u [] ∧ s.sameMem u)) ∧
    (s.mayRead other R.RTC_EMB_LO → s.capKey other ≠ s.capKey who → alGet s.caps (s.capKey other, R.RTC_EMB_LO) = none →
      Gives (.counterLowRead other R.RTC_EMB_LO) s (fun u => alGet u.caps (s.capKey who, R.RTC_EMB_HI) = some w))

/-- INT_CLAIM, INT_DONE, INT_DOORBELL and INT_CFG_WRITE (R29, R30). The lines a claim chooses from are State.claimLine's. -/
def Obligations.InterruptController : Prop :=
  ∀ (who : Initiator) (c : CoreId) (v : Word) (s : State),
    (s.mayRead who (claimReg c) → alGet s.caps (s.capKey who, claimReg c) = none →
      Gives (.intClaim who c) s (fun u => match s.claimLine c with
        | none => u.bus = ⟨0x7F, 0⟩ ∧ u.int = s.int ∧ s.sameRegs u [] ∧ s.sameMem u
        | some n => u.bus = ⟨w32 n, 0⟩ ∧ (n, c) ∈ u.int.claimed ∧ u.lineFor c n = false ∧
            s.sameRegs u (if n = 95 then [R.INT_DOORBELL] else []) ∧ (n = 95 → u.rbit R.INT_DOORBELL c.bit = false) ∧ s.sameMem u)) ∧
    (s.mayWrite who (doneReg c) → Gives (.intDone who c v) s (fun u =>
      (v.toNat % 128, c) ∉ u.int.claimed ∧ (∀ p, p ≠ (v.toNat % 128, c) → (p ∈ u.int.claimed ↔ p ∈ s.int.claimed)) ∧ s.sameRegs u [] ∧ s.sameMem u)) ∧
    (s.mayWrite who R.INT_DOORBELL → Gives (.intDoorbell who v) s (fun u =>
      (∀ n, n < 2 → u.rbit R.INT_DOORBELL n = (s.rbit R.INT_DOORBELL n || wBit v n)) ∧ s.sameRegs u [R.INT_DOORBELL] ∧ s.sameMem u)) ∧
    (∀ n : Fin 96, s.mayWrite who (R.INT_CFGn n) → Gives (.intCfgWrite who n v) s (fun u =>
      u.fg (F.INT_CFGn_PRIO n) = wField v 2 0 ∧ s.sameRegs u [R.INT_CFGn n] ∧ s.sameMem u ∧
      ((s.owner who = ownA ∨ s.owner who = ownPilot) →
        u.fg (F.INT_CFGn_TGT_B n) = s.fg (F.INT_CFGn_TGT_B n) ∧ (wField v 4 4 = 0 → u.fg (F.INT_CFGn_TGT_A n) = 0) ∧
        (s.ownsSource (s.owner who) n = true → u.fg (F.INT_CFGn_TGT_A n) = wField v 4 4) ∧
        (s.ownsSource (s.owner who) n = false → wField v 4 4 = 1 → u.fg (F.INT_CFGn_TGT_A n) = s.fg (F.INT_CFGn_TGT_A n))) ∧
      (s.owner who = ownDebug → u.fg (F.INT_CFGn_TGT_A n) = wField v 4 4 ∧ u.fg (F.INT_CFGn_TGT_B n) = wField v 5 5) ∧
      (s.owner who = ownSvc → u.fg (F.INT_CFGn_TGT_A n) = s.fg (F.INT_CFGn_TGT_A n) ∧ u.fg (F.INT_CFGn_TGT_B n) = s.fg (F.INT_CFGn_TGT_B n))))

/-- DMA_CLAIM, DMA_START, DMA_STOP, DMA_ABORT and DMA_BEAT (R31-R33, Table 1-10). The beat is one of more than one left; a paced one has its request (State.dmaPaced, R32). -/
def Obligations.DmaChannel : Prop :=
  ∀ (who : Initiator) (c : Fin 16) (v : Word) (s : State),
    (s.mayWrite who (R.DMA_CHn_CFG c) → s.secure who = true → s.fg (F.DMA_CHn_CFG_OWNER c) = ownNone → wField v 26 24 = s.owner who →
      Gives (.dmaClaim who c v) s (fun u =>
        u.fg (F.DMA_CHn_CFG_OWNER c) = s.owner who ∧ u.fg (F.DMA_CHn_CFG_EN c) = wField v 31 31 ∧ u.fg (F.DMA_CHn_CFG_PRIO c) = wField v 29 28 ∧
        u.fg (F.DMA_CHn_CFG_SEC c) = wField v 20 20 ∧ u.fg (F.DMA_CHn_CFG_FLUE_START c) = wField v 16 16 ∧
        s.sameRegs u [R.DMA_CHn_CFG c] ∧ s.sameMem u)) ∧
    (s.mayWrite who (R.DMA_CHn_CTL c) →
      (∀ b, s.dmaActive c = false → s.fb (F.DMA_CHn_CFG_EN c) = true →
        regionOf ((s.rd (R.DMA_CHn_DESC c)).toNat / 16 * 16) = .sram b →
        s.memSyn (s.fg (F.DMA_CHn_CFG_OWNER c)) (s.fb (F.DMA_CHn_CFG_SEC c)) ((s.rd (R.DMA_CHn_DESC c)).toNat / 16 * 16) false = 0 → s.eccBad = [] →
        let ctl := s.lw ((s.rd (R.DMA_CHn_DESC c)).toNat / 16 * 16 + 8)
        wField ctl 29 28 ≠ 3 → wField ctl 15 0 ≠ 0 →
        Gives (.dmaStart who c) s (fun u =>
          u.fg (F.DMA_CHn_STAT_STATE c) = 1 ∧ u.fg (F.DMA_CHn_STAT_ERR c) = 0 ∧ u.fg (F.DMA_CHn_STAT_REM c) = wField ctl 15 0 ∧
          s.sameRegs u [R.DMA_CHn_STAT c, R.DMA_CHn_CUR c] ∧ s.sameMem u)) ∧
      (s.dmaActive c = true → (s.dch c).waiting = false → (c : Nat) < s.dma.length →
        Gives (.dmaStop who c) s (fun u => (u.dch c).stopReq = true ∧ u.dmaActive c = true ∧ s.sameRegs u [] ∧ s.sameMem u)) ∧
      (s.dmaActive c = true →
        Gives (.dmaAbort who c) s (fun u =>
          u.fg (F.DMA_CHn_STAT_STATE c) = 3 ∧ u.fg (F.DMA_CHn_STAT_ERR c) = 6 ∧ u.rbit R.DMA_ERR_STAT c = true ∧
          s.sameRegs u [R.DMA_CHn_STAT c, R.DMA_ERR_STAT] ∧ s.sameMem u))) ∧
    (∀ bs bd, s.live (.dma c) = true → (s.dch c).waiting = false → s.dmaPaced (s.dch c) = false → 2 ≤ s.fg (F.DMA_CHn_STAT_REM c) → s.eccBad = [] →
      let own := s.owner (.dma c)
      let sec := s.secure (.dma c)
      let src := (s.dch c).src
      let dst := (s.dch c).dst
      let w := (dmaSize (s.dch c).ctl).octets
      regionOf src = .sram bs → regionOf dst = .sram bd → src % w = 0 → dst % w = 0 → s.memSyn own sec src false = 0 → s.memSyn own sec dst true = 0 →
      Gives (.dmaBeat c .none) s (fun u =>
        (∀ i, i < w → u.rb (dst + i) = s.rb (src + i)) ∧ (∀ a, (a < dst ∨ dst + w ≤ a) → u.rb a = s.rb a) ∧
        u.fg (F.DMA_CHn_STAT_REM c) = s.fg (F.DMA_CHn_STAT_REM c) - 1 ∧ s.sameRegs u [R.DMA_CHn_STAT c]))

/-- RTC_ALARM_LO_WRITE, RTC_ALARM_HI_WRITE and RTC_ALARM_MATCH (R494, Table 1-11). -/
def Obligations.AlarmCompare : Prop :=
  ∀ (who : Initiator) (v : Word) (s : State),
    (s.mayWrite who R.RTC_ALARM_LO → Gives (.rtcAlarmLoWrite who v) s (fun u =>
      alGet u.rtc.held (s.capKey who) = some v ∧ s.sameRegs u [] ∧ s.sameMem u)) ∧
    (s.mayWrite who R.RTC_ALARM_HI → Gives (.rtcAlarmHiWrite who v) s (fun u =>
      u.fg F.RTC_ALARM_HI_EN = wField v 31 31 ∧ u.fg F.RTC_ALARM_HI_CMP = wField v 15 0 ∧
      u.rd R.RTC_ALARM_LO = (alGet s.rtc.held (s.capKey who)).getD (s.rd R.RTC_ALARM_LO) ∧ alGet u.rtc.held (s.capKey who) = none ∧
      u.rtc.ember = s.rtc.ember ∧ u.rtc.matched = u.alarmHolds ∧
      u.flue.events = s.flue.events ++ (if u.alarmHolds && !s.rtc.matched then [⟨0x48, 0⟩] else []) ∧
      s.sameRegs u [R.RTC_ALARM_LO, R.RTC_ALARM_HI] ∧ s.sameMem u)) ∧
    (s.fb F.RTC_ALARM_HI_EN = true → s.rtc.ember < s.alarmCmp → Gives .rtcAlarmMatch s (fun u =>
      u.rtc.ember = s.alarmCmp ∧ u.alarmHolds = true ∧ u.rtc.matched = true ∧
      u.flue.events = s.flue.events ++ (if s.rtc.matched then [] else [⟨0x48, 0⟩]) ∧ (s.hrt.rewrite = [] → s.sameMem u)))

/-- RTC_EV_SECOND (R279). That the command brings the timer forward to the second's start is the model's choice (log 60, DESIGN CHOICE). -/
def Obligations.EachSecondOnce : Prop :=
  ∀ s : State, Gives .rtcEvSecond s (fun u =>
    u.rtc.second = s.rtc.second + 1 ∧ (⟨0x49, 0⟩ : FlueEv) ∈ u.flue.events ∧ s.flue.events.length < u.flue.events.length ∧
    (s.rtc.ember < 32768 * (s.rtc.second + 1) → u.rtc.ember = 32768 * (s.rtc.second + 1) % 0x1000000000000) ∧ (s.hrt.rewrite = [] → s.sameMem u))

/-- STAGED_WRITE (R38, R39), for every set and every register of its staged part: the command answers a next state, whoever holds the set. -/
def Obligations.StagedWritesClaimTheSet : Prop :=
  ∀ (who : Initiator) (x : SetId) (k : Nat) (v : Word) (s : State), s.mayWrite who (stagedReg x k) →
    ∃ u : State, exec (.stagedWrite who x k v) s = .next u.settle ∧
    (s.stgOk x (s.owner who) = true →
      u.fg x.writer = s.owner who ∧ s.sameRegs u [stagedReg x k, x.commit] ∧ s.sameMem u ∧
      (stagedReg x k = x.commit → u.fg x.when = wField v 17 16 ∧ u.fg x.tl = wField v 8 8 ∧ u.fg x.asnHi = wField v 7 0 ∧ u.fg x.state = s.fg x.state) ∧
      (stagedReg x k ≠ x.commit → ∃ r, rowOf (stagedReg x k) = some r ∧ u.rd (stagedReg x k) = regWritten r (s.rd (stagedReg x k)) v)) ∧
    (s.stgOk x (s.owner who) = false →
      u.fb x.werr = true ∧ u.fg x.state = s.fg x.state ∧ u.fg x.writer = s.fg x.writer ∧ u.fg x.when = s.fg x.when ∧
      (stagedReg x k ≠ x.commit → u.rd (stagedReg x k) = s.rd (stagedReg x k)) ∧ s.sameRegs u [x.commit] ∧ s.sameMem u)

/-- COMMIT_GO (R39, R40, R35, R440). -/
def Obligations.GoChecksInOrder : Prop :=
  ∀ (who : Initiator) (x : SetId) (v : Word) (s : State), s.mayWrite who x.commit → s.stgOk x (s.owner who) = true →
    let t := Tl.ofBit (wField v 8 8)
    let w := wField v 17 16
    let n := (s.rd x.casn).toNat + 0x100000000 * wField v 7 0
    let badWhen := w = 3 ∨ s.tlThere t = false ∨ ((w = 1 ∨ w = 2) ∧ s.runs t = false)
    let past := w = 2 ∧ n ≤ s.asn t
    let rejected := fun (c : Nat) (u : State) => u.fg x.state = 3 ∧ u.fg x.reason = c ∧ u.fg x.writer = ownNone
    let armed := fun (u : State) => u.fg x.state = 1 ∧ u.fg x.reason = 0 ∧ u.fg x.writer = s.owner who ∧ s.sameRegs u [x.commit] ∧ s.sameMem u
    (badWhen → Gives (.commitGo who x v) s (rejected 2)) ∧
    (¬ badWhen → past → Gives (.commitGo who x v) s (rejected 1)) ∧
    (¬ badWhen → ¬ past → x = .wall →
      (s.wallValueOk = false → Gives (.commitGo who x v) s (rejected 3)) ∧ (s.wallValueOk = true → Gives (.commitGo who x v) s armed)) ∧
    (¬ badWhen → ¬ past → x = .metCal →
      let ok := metGainOk (s.rd R.MET_CAL_STG_V) && wField (s.rd R.MET_CAL_STG_V) 31 24 == 0 && metGainOk (s.rd R.MET_CAL_STG_I1) && metGainOk (s.rd R.MET_CAL_STG_I2)
      (ok = false → Gives (.commitGo who x v) s (rejected 3)) ∧ (ok = true → Gives (.commitGo who x v) s armed))

/-- COMMIT_CANCEL (R39). -/
def Obligations.CancelFreesTheSet : Prop :=
  ∀ (who : Initiator) (x : SetId) (s : State), s.mayWrite who x.commit →
    Gives (.commitCancel who x) s (fun u =>
      u.fg x.when = s.fg x.when ∧ u.fg x.tl = s.fg x.tl ∧ u.fg x.asnHi = s.fg x.asnHi ∧ s.sameMem u ∧
      (s.fg x.writer = s.owner who → s.owner who ≠ ownNone → u.fg x.state = 0 ∧ u.fg x.reason = 4 ∧ u.fg x.writer = ownNone) ∧
      (s.fg x.writer ≠ ownNone → s.fg x.writer ≠ s.owner who → u.fb x.werr = true ∧ u.fg x.state = s.fg x.state ∧ u.fg x.writer = s.fg x.writer) ∧
      (s.fg x.writer = ownNone → u.rd x.commit = s.rd x.commit))

/-- STAGED_SET_APPLY (R41, R114, R440, R459). -/
def Obligations.SetsApplyAtOneEdge : Prop :=
  ∀ (x : SetId) (s : State),
    ((s.fg x.state ≠ 1 ∨ s.fg x.when ≠ 0) → Gives (.stagedSetApply x) s (fun u => u = s)) ∧
    (s.recovering = true → x = .schedule ∨ x = .config → Gives (.stagedSetApply x) s (fun u => u = s)) ∧
    (s.fg x.state = 1 → s.fg x.when = 0 → (s.recovering = false ∨ (x ≠ .schedule ∧ x ≠ .config)) → Gives (.stagedSetApply x) s (fun u =>
      u.fg x.state = 2 ∧ u.fg x.writer = ownNone ∧
      (x = .wall → u.rtc.wcMs = s.wallStaged ∧ u.rd R.RTC_TRIM_ACT = s.rd R.RTC_TRIM_STG ∧
        u.stgAsn .wall = (if s.runs (s.stgTl .wall) then s.asn (s.stgTl .wall) else 0)) ∧
      (x = .metCal → u.rd R.MET_CAL_ACT_V = s.rd R.MET_CAL_STG_V ∧ u.rd R.MET_CAL_ACT_I1 = s.rd R.MET_CAL_STG_I1 ∧
        u.rd R.MET_CAL_ACT_I2 = s.rd R.MET_CAL_STG_I2) ∧
      (x = .charger → u.rd R.SUP_CHG_ACT = s.rd R.SUP_CHG_STG) ∧
      (x = .schedule → u.hrt.edits = [] ∧ (s.hrt.rewrite = [] →
        let l := cellEdits s.hrt.edits
        u.rd R.HRT_SCH_VER = s.rd R.HRT_SCH_VER + (if l.isEmpty then 2 else 1) ∧ u.hrt.rewrite = l))))

/-- R36. -/
def Obligations.WallClockStepBack : Prop :=
  ∀ s : State, s.fg SetId.wall.state = 1 → s.fg SetId.wall.when = 0 → s.wallStaged < s.rtc.wcMs →
    s.ash.ready = true → s.ash.buf.length < 223 → s.ash.lostFull = 0 → s.ash.ended = false → s.ash.next < 0xFFFFFFFF →
      Gives (.stagedSetApply .wall) s (fun u =>
        u.rtc.wcMs = s.wallStaged ∧ u.rtc.wcEpoch = (s.rtc.wcEpoch + 1) % 0x10000 ∧ u.fg F.RTC_STAT_STEP = 1 ∧
        ∃ r, u.ash.buf = s.ash.buf ++ [r] ∧ r.code = 0x0008 ∧ r.seq = s.ash.next ∧ r.d0 = w32 s.rtc.wcMs ∧
          r.d1 = w32 (s.rtc.wcMs / 0x100000000 + s.wallStaged % 0x10000 * 0x10000) ∧ r.d2 = w32 (s.wallStaged / 0x10000))

/-- SNAPSHOT_REQUEST, SNAPSHOT_READY, SNAPSHOT_RELEASE and SNAPSHOT_LEASE_EXPIRY (R46-R49). What a release by another than the holder does and what
HOLDER holds in EXPIRED are the model's choices (log 49, DESIGN CHOICE). -/
def Obligations.SnapshotLifeCycle : Prop :=
  ∀ (who : Initiator) (v : Word) (s : State),
    let st := s.fg F.HRT_SNAP_STAT_STATE
    let t := Tl.ofBit (wField v 8 8)
    let noPart := t = .b ∧ s.hasB = false
    let refused := fun (c : Nat) (u : State) => u.fg F.HRT_SNAP_STAT_REASON = c ∧ u.fg F.HRT_SNAP_STAT_REFUSED = min (s.fg F.HRT_SNAP_STAT_REFUSED + 1) 255 ∧
      u.fg F.HRT_SNAP_STAT_STATE = st ∧ u.fg F.HRT_SNAP_STAT_HOLDER = s.fg F.HRT_SNAP_STAT_HOLDER ∧ s.sameRegs u [R.HRT_SNAP_REQ, R.HRT_SNAP_STAT] ∧ s.sameMem u
    (s.mayWrite who R.HRT_SNAP_REQ →
      (wField v 3 0 = 0 → Gives (.snapshotRequest who v) s (refused 2)) ∧
      (wField v 3 0 ≠ 0 → noPart → Gives (.snapshotRequest who v) s (refused 3)) ∧
      (wField v 3 0 ≠ 0 → ¬ noPart → (st = 1 ∨ st = 2) → Gives (.snapshotRequest who v) s (refused 1)) ∧
      (wField v 3 0 ≠ 0 → ¬ noPart → st ≠ 1 → st ≠ 2 → s.runs t = false → Gives (.snapshotRequest who v) s (refused 4)) ∧
      (wField v 3 0 ≠ 0 → ¬ noPart → st ≠ 1 → st ≠ 2 → s.runs t = true → Gives (.snapshotRequest who v) s (fun u =>
        u.fg F.HRT_SNAP_STAT_STATE = 1 ∧ u.fg F.HRT_SNAP_STAT_HOLDER = s.owner who ∧ u.fg F.HRT_SNAP_STAT_SECT = wField v 3 0 ∧ u.hrt.snapTl = t ∧
        s.sameRegs u [R.HRT_SNAP_REQ, R.HRT_SNAP_STAT] ∧ s.sameMem u))) ∧
    (st = 1 → s.hrt.snapFrozen = true → Gives .snapshotReady s (fun u =>
      u.fg F.HRT_SNAP_STAT_STATE = 2 ∧ u.rd R.HRT_SNAP_VER = s.rd R.HRT_SNAP_VER + 1 ∧ u.fg F.HRT_SNAP_STAT_HOLDER = s.fg F.HRT_SNAP_STAT_HOLDER ∧ s.sameMem u)) ∧
    (s.mayWrite who R.HRT_SNAP_REL →
      (s.fg F.HRT_SNAP_STAT_HOLDER = s.owner who → Gives (.snapshotRelease who) s (fun u =>
        u.fg F.HRT_SNAP_STAT_STATE = 0 ∧ u.fg F.HRT_SNAP_STAT_HOLDER = ownNone ∧ s.sameRegs u [R.HRT_SNAP_STAT] ∧ s.sameMem u)) ∧
      (s.fg F.HRT_SNAP_STAT_HOLDER ≠ s.owner who → Gives (.snapshotRelease who) s (fun u => s.sameRegs u [] ∧ s.sameMem u))) ∧
    (st = 2 → Gives .snapshotLeaseExpiry s (fun u =>
      u.fg F.HRT_SNAP_STAT_STATE = 3 ∧ u.fg F.HRT_SNAP_STAT_HOLDER = s.fg F.HRT_SNAP_STAT_HOLDER ∧ s.sameRegs u [R.HRT_SNAP_STAT] ∧ s.sameMem u))

/-- HEARTH_START (R54, R55, R254, R342). The choice of a copy is State.cfgChosen's, after the salt is drawn. The wait in LOADING is log 58, DEDUCED. -/
def Obligations.HearthStartSequence : Prop :=
  ∀ s : State,
    let st := s.fg F.HRT_STAT_STATE
    (s.rst.released = false → Gives .hearthStart s (fun u => u = s)) ∧
    (s.rst.released = true → (s.trngFail = true ∨ s.bankBusy 0 = true) → st = hOff → Gives .hearthStart s (fun u =>
      u.fg F.HRT_STAT_STATE = hLoading ∧ s.sameRegs u [R.HRT_STAT] ∧ s.sameMem u)) ∧
    (s.rst.released = true → s.trngFail = false → s.bankBusy 0 = false → (st = hOff ∨ st = hLoading) →
      ((∀ c, c < 2 → s.cfgMark c = false) → Gives .hearthStart s (fun u =>
        u.fg F.HRT_STAT_STATE = hNoConfig ∧ u.fg F.HRT_EVT_NOCFG = 1 ∧ (∀ q : Fin 32, u.fg (F.HRT_Qn_CFG_EN q) = 0) ∧
        ∀ a, (a < scratchBase ∨ scratchBase + 0x1000 ≤ a) → u.rb a = s.rb a)) ∧
      (∀ c k, ((s.fp F.HRT_STAT_STATE hLoading).hearthFresh).cfgChosen = some (c, k) → c.root = false → Gives .hearthStart s (fun u =>
        u.fg F.HRT_STAT_STATE = hJoining ∧ u.hrt.cfg = c ∧ u.fg F.HRT_STAT_CFG_COPY = c.copy % 2 ∧ u.fg F.HRT_ID_CFG = c.version % 0x10000)))

/-- SEQUENCER_VOTE, LOCKSTEP_MISMATCH and LOCKSTEP_RECOVERY (R51, R81, R83, R84, Table 2-16). -/
def Obligations.LockstepFaultAndRecovery : Prop :=
  ∀ (s : State) (us : Nat),
    let st := s.fg F.HRT_STAT_STATE
    let soon := ∃ e, s.hrt.mismatchAt = some e ∧ s.rtc.ember ≤ e + 32768
    let halted := fun u : State => u.fg F.HRT_STAT_STATE = hRecovering ∧ u.hrt.saved = st ∧ u.hrt.fatal = s.hrt.fatal ∧ u.hrt.mismatchAt = some s.rtc.ember ∧
      (u.rd R.HRT_REC_ASN_LO, u.rd R.HRT_REC_ASN_HI) = asnData s.hrt.lastTl (s.asn s.hrt.lastTl) ∧
      s.sameRegs u [R.HRT_STAT, R.HRT_REC_ASN_LO, R.HRT_REC_ASN_HI] ∧ s.sameMem u
    Gives (.sequencerVote false) s (fun u =>
      u.rd R.HRT_SEQ_VOTE = w32 (min ((s.rd R.HRT_SEQ_VOTE).toNat + 1) 0xFFFFFFFF) ∧ s.sameRegs u [R.HRT_SEQ_VOTE] ∧ s.sameMem u) ∧
    ((st = hJoining ∨ st = hSynced) → ¬ soon → Gives (.sequencerVote true) s halted ∧ Gives .lockstepMismatch s halted) ∧
    ((st = hJoining ∨ st = hSynced ∨ st = hRecovering) → (soon ∨ st = hRecovering) → Gives .lockstepMismatch s (fun u =>
      u.hrt.fatal = true ∧ u.fg F.HRT_STAT_STATE = st ∧ s.sameRegs u [R.HRT_REC_ASN_LO, R.HRT_REC_ASN_HI] ∧ s.sameMem u)) ∧
    (st = hRecovering → s.hrt.fatal = false → s.hrt.deferred = [] → s.hrt.nbrJob = none → s.upd.due = false → (∀ y : SetId, s.fg y.state ≠ 1) → Gives (.lockstepRecovery true us) s (fun u =>
      u.fg F.HRT_STAT_STATE = s.hrt.saved % 8 ∧ u.fg F.HRT_REC_STAT_CNT = min (s.fg F.HRT_REC_STAT_CNT + 1) 65535 ∧
      u.fg F.HRT_REC_STAT_DUR = min us 65535 ∧ u.fg F.HRT_EVT_REC = 1 ∧ u.hrt.journal = [] ∧ s.sameMem u ∧
      ∀ b, b / 0x1000 ≠ 0x40009 → b ∉ [R.HRT_STAT, R.HRT_REC_STAT, R.HRT_EVT] → u.rd b = s.rd b)) ∧
    (st = hRecovering → s.hrt.fatal = false → Gives (.lockstepRecovery false us) s (fun u => u.hrt.fatal = true ∧ s.sameRegs u [] ∧ s.sameMem u))

/-- HEARTH_FATAL (R85, R86, R56). -/
def Obligations.HearthFatalRestart : Prop :=
  ∀ s : State,
    (s.hrt.fatal = false → Gives .hearthFatal s (fun u => u = s)) ∧
    (s.hrt.fatal = true → (∀ r ∈ s.hrt.radios, ∀ a, r.act = some a → a.phase ≠ .onAir) → Gives .hearthFatal s (fun u =>
      u.fg F.HRT_STAT_STATE = hRestarting ∧ u.hrt.fatal = false ∧
      (∀ a, 0x30040000 ≤ a → a < 0x30080000 → u.rb a = 0) ∧ (∀ a, a < 0x30000000 → u.rb a = s.rb a) ∧
      (∀ q : Fin 32, u.rd (R.HRT_Qn_PROD q) = 0 ∧ u.rd (R.HRT_Qn_DONE q) = 0 ∧ u.rd (R.HRT_Qn_RECL q) = 0 ∧ u.rd (R.HRT_Qn_CFG q) = s.rd (R.HRT_Qn_CFG q)) ∧
      u.fg F.RST_HRT_CNT = min (s.fg F.RST_HRT_CNT + 1) 65535 ∧
      ∀ a, a / 0x1000 ∉ [0x40030, 0x40040, 0x40050, 0x40060, 0x40020, 0x40001, 0x40009] → u.rd a = s.rd a))

/-- SLOT_BOUNDARY and SLOT_ARM (R77, R80, R85, R90, Table 8-1). -/
def Obligations.SlotBoundaryAdvances : Prop :=
  ∀ (t : Tl) (joint late : Bool) (gap : Nat) (s : State),
    let x := s.tlx t
    let quiet := s.hrt.fatal = false ∧ s.hrt.rewrite = [] ∧ s.groups t = [] ∧ (∀ c, c < s.fg (t.f F.RFA_FBL_CFG_NOUT) → s.fb (t.f (F.RFA_FBL_OUTc_BUSY c)) = false) ∧
      x.span = 0 ∧ x.cur = none ∧ x.exclNext = none ∧ x.newTs = none ∧ x.resync = none ∧ (∀ y : SetId, s.fg y.state ≠ 1) ∧ s.nbrs = [] ∧
      s.stoked t = s.vinOk ∧ s.hrt.flush = [] ∧ s.hrt.drop = [] ∧ s.rsv.failed = [] ∧ s.hrt.desc = [] ∧ s.coreA.pilot = false ∧
      s.fg F.HRT_SNAP_STAT_STATE ≠ 1 ∧ s.radioState t = rOff ∧ s.fb (t.f F.RFA_FBL_CFG_DRAIN) = false ∧ s.fb (t.f F.RFA_FBL_CFG_EN) = false ∧
      s.cellsOf t = []
    (s.runs t = false → Gives (.slotBoundary t ⟨false, joint, late⟩ gap) s (fun u => u = s)) ∧
    (s.runs t = true → s.hrt.fatal = true → Gives (.slotBoundary t ⟨false, joint, late⟩ gap) s (fun u =>
      u.asn t = (s.asn t + 1) % 2 ^ 40 ∧ u.flue.events = s.flue.events ++ [⟨0x50 + t.bit, 0⟩] ∧ u.hrt.radios = s.hrt.radios ∧ s.sameMem u ∧
      s.sameRegs u [R.HRT_ASN_A_LO, R.HRT_ASN_A_HI, R.HRT_ASN_B_LO, R.HRT_ASN_B_HI])) ∧
    (s.runs t = true → quiet → (x.arm = none ∨ ∃ a, x.arm = some a ∧ a.done = true ∧ a.cal = false ∧ a.listen = false ∧ a.cell = none ∧ a.others = []) →
      Gives (.slotBoundary t ⟨false, joint, late⟩ gap) s (fun u =>
        u.asn t = (s.asn t + 1) % 2 ^ 40 ∧ (∀ t', t' ≠ t → u.asn t' = s.asn t') ∧ u.flue.events = s.flue.events ++ [⟨0x50 + t.bit, 0⟩] ∧ s.sameMem u ∧
        s.sameRegs u [R.HRT_ASN_A_LO, R.HRT_ASN_A_HI, R.HRT_ASN_B_LO, R.HRT_ASN_B_HI, R.HRT_PROF] ∧
        Sparse.get (fun _ => 0) u.hrt.counters (0x068 + 4 * t.bit) =
          Sparse.get (fun _ => 0) s.hrt.counters (0x068 + 4 * t.bit) + (if x.arm = none then 1 else 0))) ∧
    (∀ inTime cal, s.runs t = true → s.recovering = false → s.hrt.fatal = false → t.bit < s.hrt.tls.length →
      Gives (.slotArm t inTime cal) s (fun u => (∃ a, (u.tlx t).arm = some a ∧ a.done = inTime) ∧ s.sameRegs u [] ∧ s.sameMem u))

/-- QUEUE_PROD_WRITE, QUEUE_RECL_WRITE and QUEUE_FLUSH (R58, R59, R62, Table 2-5). -/
def Obligations.QueueIndices : Prop :=
  ∀ (who : Initiator) (q : Fin 32) (v : Word) (s : State),
    let new := v.toNat % 128
    let prod := s.fg (F.HRT_Qn_PROD_IDX q)
    let recl := s.fg (F.HRT_Qn_RECL_IDX q)
    let prodOk := (new + 128 - prod) % 128 ≤ 64 ∧ (new + 128 - recl) % 128 ≤ 64
    let reclOk := (new + 128 - recl) % 128 ≤ 64 ∧ (new + 128 - recl) % 128 ≤ (s.reclLimit q + 128 - recl) % 128
    (s.mayWrite who (R.HRT_Qn_PROD q) → (q : Nat) < 16 → s.radioState (s.qTl q) ≠ rClkFail →
      (prodOk → Gives (.queueProdWrite who q v) s (fun u => u.fg (F.HRT_Qn_PROD_IDX q) = new ∧ u.fg (F.HRT_Qn_RECL_IDX q) = recl)) ∧
      (¬ prodOk → Gives (.queueProdWrite who q v) s (fun u =>
        u.fg (F.HRT_Qn_STAT_IERR q) = 1 ∧ s.sameRegs u [R.HRT_Qn_STAT q] ∧ s.sameMem u)) ∧
      (prodOk → new = (prod + 1) % 128 → s.descChild q (prod % 64) = none →
        (s.enqCheck q (prod % 64) = none → s.hrt.bufHolder.length = 64 → Gives (.queueProdWrite who q v) s (fun u =>
          u.mg (D.ST q (prod % 64)) = 1 ∧ u.holder (s.mg (D.BUF q (prod % 64))) = ownHearth)) ∧
        (∀ code, s.enqCheck q (prod % 64) = some code → Gives (.queueProdWrite who q v) s (fun u =>
          u.mg (D.ST q (prod % 64)) = 3 ∧ u.mg (D.CODE q (prod % 64)) = code ∧ u.hrt.bufHolder = s.hrt.bufHolder)))) ∧
    (s.mayWrite who (R.HRT_Qn_PROD q) → 16 ≤ (q : Nat) → Gives (.queueProdWrite who q v) s (fun u =>
      u.fg (F.HRT_Qn_STAT_IERR q) = 1 ∧ s.sameRegs u [R.HRT_Qn_STAT q] ∧ s.sameMem u)) ∧
    (s.mayWrite who (R.HRT_Qn_RECL q) →
      (reclOk → Gives (.queueReclWrite who q v) s (fun u =>
        u.fg (F.HRT_Qn_RECL_IDX q) = new ∧ s.sameRegs u [R.HRT_Qn_RECL q, R.HRT_BUF_FREE] ∧ s.sameMem u)) ∧
      (¬ reclOk → Gives (.queueReclWrite who q v) s (fun u =>
        u.fg (F.HRT_Qn_STAT_IERR q) = 1 ∧ s.sameRegs u [R.HRT_Qn_STAT q] ∧ s.sameMem u))) ∧
    (s.mayWrite who (R.HRT_Qn_FLUSH q) → Gives (.queueFlush who q) s (fun u =>
      (q : Nat) ∈ u.hrt.flush ∧ ((q : Nat) ∉ s.hrt.flush → u.fg (F.HRT_Qn_FLUSH_GO q) = 1) ∧ s.sameRegs u [R.HRT_Qn_FLUSH q] ∧ s.sameMem u))

/-- BUFFER_ALLOC, BUFFER_RETURN and DESCRIPTOR_WRITE (R67, R69, R71, Tables 2-7, 2-8). -/
def Obligations.BufferPoolAndDescriptors : Prop :=
  ∀ (who : Initiator) (v : Word) (s : State),
    let own := s.owner who
    let owns := own ≠ ownNone ∧ ∃ q : Fin 32, s.fg (F.HRT_Qn_CFG_OWNER q) = own
    (s.mayRead who R.HRT_BUF_ALLOC → alGet s.caps (s.capKey who, R.HRT_BUF_ALLOC) = none →
      (owns → s.fg F.HRT_BUF_FREE_RX_RESERVE < s.freeBufs.length → s.hrt.bufHolder.length = 64 →
        ∃ b, b < 64 ∧ s.holder b = ownNone ∧ Gives (.bufferAlloc who) s (fun u =>
          u.bus = ⟨w32 (0x80000000 + b), 0⟩ ∧ u.holder b = own ∧ (∀ c, c ≠ b → u.holder c = s.holder c) ∧ s.sameRegs u [R.HRT_BUF_FREE] ∧ s.sameMem u)) ∧
      ((¬ owns ∨ s.freeBufs.length ≤ s.fg F.HRT_BUF_FREE_RX_RESERVE) → Gives (.bufferAlloc who) s (fun u =>
        u.bus = ⟨0, 0⟩ ∧ u.hrt.bufHolder = s.hrt.bufHolder ∧ s.sameRegs u [] ∧ s.sameMem u))) ∧
    (s.mayWrite who R.HRT_BUF_RET →
      (v.toNat < 64 → s.holder v.toNat = own → s.hrt.bufHolder.length = 64 → Gives (.bufferReturn who v) s (fun u =>
        u.holder v.toNat = ownNone ∧ (∀ c, c ≠ v.toNat → u.holder c = s.holder c) ∧ s.sameRegs u [R.HRT_BUF_FREE] ∧ s.sameMem u)) ∧
      ((64 ≤ v.toNat ∨ s.holder v.toNat ≠ own) → Gives (.bufferReturn who v) s (fun u =>
        u.hrt.bufHolder = s.hrt.bufHolder ∧ s.sameRegs u [] ∧ s.sameMem u))) ∧
    (∀ (q : Fin 32) (k : Fin 64) (w : Fin 2), s.live who = true → s.memSynOf who (descAddr q k + 4 * w) true = 0 →
      Gives (.descriptorWrite who q k w v) s (fun u =>
        u.bus = ⟨0, 0⟩ ∧ (∀ a, (a < descAddr q k ∨ descAddr q k + 8 ≤ a) → u.rb a = s.rb a) ∧ s.sameRegs u [] ∧
        (16 ≤ (q : Nat) → s.sameMem u) ∧
        ((q : Nat) < 16 →
          u.mg (D.ST q k) = (if s.descHeld q k then s.mg (D.ST q k) else 0) ∧ u.mg (D.CODE q k) = (if s.descHeld q k then s.mg (D.CODE q k) else 0) ∧
          (w = 0 → u.mg (D.BUF q k) = wField v 29 24 ∧ u.mg (D.SEC q k) = wField v 15 15 ∧ u.mg (D.PRIO q k) = wField v 14 14 ∧
            u.mg (D.LEN q k) = wField v 10 0) ∧
          (w = 1 → u.mg (D.BCAST q k) = wField v 31 31 ∧ u.mg (D.NBR q k) = wField v 30 21 ∧ u.mg (D.KEY q k) = wField v 20 18 ∧
            u.mg (D.SECLVL q k) = wField v 17 15 ∧ u.mg (D.RETRY q k) = wField v 14 11 ∧ u.mg (D.TAG q k) = wField v 7 0))))

/-- SCHEDULE_CELL_EDIT and SCHEDULE_SF_EDIT (R112, R39). -/
def Obligations.ScheduleEdits : Prop :=
  ∀ (who : Initiator) (v : Word) (s : State),
    let ok := s.stgOk .schedule (s.owner who) = true ∧ s.hrt.edits.length < 64
    let appended := fun (e : SchEdit) (u : State) => u.hrt.edits = s.hrt.edits ++ [e] ∧ u.fg F.HRT_SCH_STAT_EDITS = s.hrt.edits.length + 1 ∧
      u.fg SetId.schedule.writer = s.owner who ∧ s.sameMem u ∧ s.sameRegs u [R.HRT_SCH_HI, R.HRT_SCH_SF, R.HRT_SCH_STAT, R.HRT_SCH_COMMIT]
    let ignored := fun u : State => u.hrt.edits = s.hrt.edits ∧ u.fb SetId.schedule.werr = true ∧ s.sameMem u ∧
      s.sameRegs u [R.HRT_SCH_HI, R.HRT_SCH_SF, R.HRT_SCH_STAT, R.HRT_SCH_COMMIT]
    (s.mayWrite who R.HRT_SCH_HI →
      (ok → Gives (.scheduleCellEdit who v) s (appended (.cell (s.rd R.HRT_SCH_IDX).toNat ((s.rd R.HRT_SCH_LO).toNat + 0x100000000 * v.toNat)))) ∧
      (¬ ok → Gives (.scheduleCellEdit who v) s ignored)) ∧
    (s.mayWrite who R.HRT_SCH_SF →
      (ok → Gives (.scheduleSfEdit who v) s (appended (.sf (wField v 19 19) (wField v 18 16) (wField v 15 0)))) ∧
      (¬ ok → Gives (.scheduleSfEdit who v) s ignored))

/-- MODEL_AGE_CHECK, DIE_SAMPLE (R115, R176), LEDGER_SECOND, VIN_DEBOUNCE_EXPIRY, EXCL_HOLD_EXPIRY and EXCLUSION_VERSION_CREATE (R99, R100, R115, R127,
R129, R130, R136). -/
def Obligations.LinkTimekeeping : Prop :=
  ∀ (s : State) (temp : Int) (t : Tl) (ch : Nat),
    let x := s.tlx t
    Gives .modelAgeCheck s (fun u => s.sameRegs u [] ∧ (s.recovering = true → u.hrt.deferred = s.hrt.deferred ++ [.modelAges] ∧ s.sameMem u) ∧
      ∀ n, s.recovering = false → n < 1024 → s.mb (N.V n) = true → s.mg (N.STH n) ≠ 0 → 65000 ≤ s.obsAge n →
        u.mg (N.STH n) = 0 ∧ u.mg (N.THETA n) = 0 ∧ u.mg (N.DXO n) = 0 ∧ u.mg (N.DEMB n) = 0 ∧ u.mg (N.SD n) = 13) ∧
    Gives (.dieSample temp) s (fun u =>
      u.hrt.die = temp ∧ u.fg F.RFA_TEMP_DIE = unsigned 16 temp ∧
      (∀ n, n ∈ s.nbrs → alGet u.hrt.dies n = some (min temp ((alGet s.hrt.dies n).getD (temp, temp)).1, max temp ((alGet s.hrt.dies n).getD (temp, temp)).2)) ∧
      (∀ i : Fin 4, s.fb (F.RFA_CALi_VALID i) = true →
        160 < (signed 16 (unsigned 16 temp) - 16 * signed 8 (s.fg (F.RFA_CALi_TEMP i))).natAbs → u.fb (F.RFA_CALi_STALE i) = true) ∧
      s.sameRegs u (R.PWR_EVT :: R.RFA_TEMP :: (R.RFA_TEMP + Tl.b.radio) :: (List.range 4).flatMap (fun i => [R.RFA_CALi i, R.RFA_CALi i + Tl.b.radio])) ∧
      s.sameMem u) ∧
    Gives .ledgerSecond s (fun u => s.sameRegs u [] ∧ s.sameMem u ∧
      ∀ k n b r, nth s.hrt.ledger k [] = (n, b) :: r → 1 ≤ n → u.ledgerUsed k + b = s.ledgerUsed k) ∧
    (s.hrt.debounce = true → s.fg F.HRT_STAT_STATE ∉ [hOff, hLoading, hRestarting] → Gives .vinDebounceExpiry s (fun u =>
      u.vinOk = true ∧ u.hrt.debounce = false ∧ s.sameMem u ∧
      (s.recovering = false → ∀ t', s.tlThere t' = true → u.stoked t' = (if s.runs t' then s.stoked t' else true)))) ∧
    (t.bit < s.hrt.tls.length → (∃ p ∈ x.exclWant, p.1 = ch) → Gives (.exclHoldExpiry t ch) s (fun u =>
      (u.tlx t).exclWant = x.exclWant.filter (fun p => p.1 != ch) ∧ u.chanStat t ch = (0, 0) ∧ s.sameRegs u [] ∧ s.sameMem u)) ∧
    (t.bit < s.hrt.tls.length → x.exclNext = none → x.exclFree.any (fun n => !s.asnDue t n) = false → s.sync t = true → s.recovering = false →
      let d := (listDiff x.excl (x.exclWant.map (·.1))).take 2
      d ≠ [] → Gives (.exclusionVersionCreate t) s (fun u => ∃ l,
        (u.tlx t).exclNext = some (l, (s.asn t + (s.tc t).link.exclLead) % 2 ^ 40) ∧ (∀ c, c ∈ l ↔ (c ∈ x.excl ∧ (c, false) ∉ d) ∨ (c, true) ∈ d) ∧
        (u.tlx t).excl = x.excl ∧ s.sameRegs u [] ∧ s.sameMem u))

/-- JOIN_COLLECT_EXPIRY, JOIN_WINDOW_OPEN, JOIN_WINDOW_CLOSE and OPEN_POLL_REPOLL (R110, R111, R125). -/
def Obligations.JoiningAndOpenPoll : Prop :=
  ∀ (t : Tl) (s : State), t.bit < s.hrt.tls.length → t.bit < s.hrt.radios.length →
    let x := s.tlx t
    let best := bestCand (x.cands.filter (fun c => s.mb (N.V c.nbr) && s.nbrTl c.nbr == t && s.mg (N.ADM c.nbr) != admBlocked))
    let chan := nth (s.tc t).band.hop (x.joinPos % max 1 (s.tc t).band.hop.length) 0xFF
    (s.joining t = true → s.recovering = false →
      (∀ c, best = some c → Gives (.joinCollectExpiry t) s (fun u =>
        u.asn t = (c.asn + s.slotsSince t c.ember) % 2 ^ 40 ∧ u.sync t = true ∧ (u.tlx t).cands = [] ∧ u.mb (N.TS c.nbr) = true ∧
        (t = .a → u.fg F.HRT_STAT_STATE = hSynced))) ∧
      (best = none → Gives (.joinCollectExpiry t) s (fun u => (u.tlx t).cands = [] ∧ s.sameRegs u [] ∧ s.sameMem u))) ∧
    ((s.joining t = true ∨ s.resyncPattern t = true) → s.fblRuns t = false → s.hrt.fatal = false → s.radioState t ≠ rClkFail → s.radioState t ≠ rTest →
      Gives (.joinWindowOpen t) s (fun u => (u.rad t).patCh = some chan ∧ s.sameMem u ∧
        (s.radioRests t = true → u.radioState t = rRxSc ∧ u.fg (t.f F.RFA_STAT_CH) = chan % 256) ∧
        (s.radioRests t = false → s.sameRegs u []))) ∧
    ((s.rad t).patCh.isSome = true → Gives (.joinWindowClose t) s (fun u => (u.rad t).patCh = none ∧ s.sameMem u ∧
      (s.radioRests t = true → s.radioState t = rRxSc → u.radioState t = rOff))) ∧
    (∀ n, x.openMiss = 1 → s.tsNow t = some n → (s.rad t).act = none → s.hrt.fatal = false →
      s.radioState t ∉ [rClkFail, rTest, rCal, rTx, rRxFrame] → Gives (.openPollRepoll t) s (fun u =>
        u.radioState t = rLocking ∧ ∃ a, (u.rad t).act = some a ∧ a.kind = .poll false ∧ a.nbr = some n))

/-- IMMEDIATE_TRANSMIT, IMMEDIATE_LOCK_TIMEOUT, RETUNE_START, SYNTH_LOCK, CCA_START and FBL_LEAVE (R89, R101, R102, R172, R174, R179, R187, R188, R214).
The channel and mode of an immediate frame are operands (log 44, DESIGN CHOICE). -/
def Obligations.AttemptsBeginAndTune : Prop :=
  ∀ (t : Tl) (q : Fin 16) (ch mode gap : Nat) (s : State), t.bit < s.hrt.radios.length →
    let act := (s.rad t).act
    let busy := [rTest, rCal, rTx, rRxFrame]
    (∀ i, s.qTl q = t → s.hrt.fatal = false → s.fb (F.HRT_Qn_CFG_EN q) = true → s.fb (F.HRT_Qn_CFG_IMM q) = true → act = none → s.radioState t ∉ busy → (s.queued q).head? = some i →
      (s.radioState t ≠ rClkFail → s.radioState t ≠ rFbl → s.interimOk t ch ((s.tc t).mode mode) = true → s.mb (D.SEC q i) = false →
        s.psduLen q i ≤ ((s.tc t).mode mode).maxPsdu → Gives (.immediateTransmit q ch mode) s (fun u =>
          u.mg (D.ST q i) = 2 ∧ u.radioState t = rLocking ∧ u.fg (t.f F.RFA_STAT_CH) = ch % 256 ∧
          ∃ a, (u.rad t).act = some a ∧ a.kind = .imm q i ∧ a.phase = .tuning ∧ a.ch = ch)) ∧
      (s.radioState t = rClkFail → Gives (.immediateTransmit q ch mode) s (fun u =>
        u.mg (D.ST q i) = 3 ∧ u.mg (D.CODE q i) = ccRadio ∧ (u.rad t).act = none))) ∧
    (∀ a, act = some a →
      (∀ i : Fin 64, a.kind = .imm q i → a.phase = .tuning → s.fb (F.HRT_Qn_CFG_IMM q) = true → Gives (.immediateLockTimeout t gap) s (fun u =>
        u.mg (D.ST q i) = 3 ∧ u.mg (D.CODE q i) = ccRadio ∧ (u.rad t).act = none)) ∧
      (a.phase = .tuning → s.hrt.fatal = false → s.radioState t ∉ rClkFail :: rReady :: busy → Gives (.retuneStart t) s (fun u =>
        u.radioState t = rLocking ∧ u.fg (t.f F.RFA_STAT_CH) = a.ch % 256)) ∧
      ((s.listens t a).1 || (s.listens t a).2 → s.hrt.fatal = false → (a.phase = .tuning ∨ a.phase = .ready) → s.vcoOk t = true →
        s.radioState t ∉ [rClkFail, rCal, rTest, rLocking, rOff, rTx] → Gives (.ccaStart t) s (fun u =>
          u.radioState t = rRxSc ∧ u.fg (t.f F.RFA_STAT_CH) = a.ch % 256 ∧
          ∃ r, (u.rad t).act = some { a with phase := .cca, clear := false, lbtR := r } ∧ r ≤ (s.tc t).radio.lbtRand ∧ ((s.listens t a).2 = false → r = 0)))) ∧
    (s.radioState t = rLocking → s.vcoOk t = true → Gives (.synthLock t) s (fun u =>
      u.radioState t = rReady ∧ (u.rad t).act = act.map (fun a => if a.phase = .tuning then { a with phase := .ready } else a) ∧ s.sameMem u)) ∧
    ((s.radioState t ≠ rLocking ∨ s.vcoOk t = false) → Gives (.synthLock t) s (fun u => u = s)) ∧
    (s.radioState t = rFbl → Gives (.fblLeave t) s (fun u => u.radioState t = rReady)) ∧
    (s.radioState t ≠ rFbl → Gives (.fblLeave t) s (fun u => u = s))

/-- TX_START, TX_END, CCA_COMPLETE, TX_LOCK_TIMEOUT, ACK_WINDOW_CLOSE and TX_POWER_CORRECTION (R68, R97, R101, R102, R131, R133, R174,
R183, R187-R189).
The descriptor's cell is no timekeeping cell, and its frame is for no child, where its state is said. -/
def Obligations.FramesOnAir : Prop :=
  ∀ (t : Tl) (sfd gap : Nat) (m : PaMeas) (pre : List Int) (parts : List (Int × Bool)) (s : State) (a : TxAct), t.bit < s.hrt.radios.length → (s.rad t).act = some a →
    let ofDesc := fun (q : Fin 16) (i : Fin 64) => a.kind = .desc q i ∧ s.descChild q i = none ∧ ∀ c, (s.tlx t).cur = some c → c.tk = none
    let x := fun (q : Fin 16) (i : Fin 64) => s.dx q i
    ((a.phase = .ready ∨ (a.phase = .tuning ∧ s.fg (t.f F.RFA_STAT_CH) = a.ch)) → s.radioState t = rReady → s.vcoOk t = true → s.listened t a = true →
      a.kind.isPend = false → s.hrt.fatal = false → s.interimOk t a.ch (s.actMode t a) = true → s.hpStarved t a.ch a.mode m = false →
      (s.ledgerOk t a.ch (s.airOf t a.mode a.psdu) a.kind.resp = true → Gives (.txStart t sfd gap m) s (fun u =>
        u.radioState t = rTx ∧ u.fg (t.f F.RFA_STAT_CH) = a.ch % 256 ∧
        ∃ b, (u.rad t).act = some b ∧ b.phase = .onAir ∧ b.kind = a.kind ∧ b.psdu = a.psdu)) ∧
      (s.ledgerOk t a.ch (s.airOf t a.mode a.psdu) a.kind.resp = false → Gives (.txStart t sfd gap m) s (fun u => (u.rad t).act = none))) ∧
    (a.phase = .onAir →
      ((a.kind = .ack ∨ a.kind = .gack ∨ a.kind = .beacon) → Gives (.txEnd t gap) s (fun u => (u.rad t).act = none ∧ s.sameMem u)) ∧
      (∀ (q : Fin 16) (i : Fin 64), ofDesc q i →
        (a.ackReq = true → Gives (.txEnd t gap) s (fun u =>
          u.radioState t = rRxSc ∧ (u.rad t).act = some { a with phase := .ackWait } ∧ s.sameMem u)) ∧
        (a.ackReq = false → Gives (.txEnd t gap) s (fun u =>
          u.mg (D.ST q i) = 3 ∧ u.mg (D.CODE q i) = ccOk ∧ (u.rad t).act = none)))) ∧
    (a.phase = .cca →
      let l := s.listens t a
      let r := (s.tc t).radio
      let heard := parts.map (fun p => (s.rssiOf p.1, p.2))
      let busyC := l.1 && heard.any (ccaBusy r.ccaMode r.edThr)
      let busyL := l.2 && ((pre.take (ceilDiv a.lbtR 128)).map s.rssiOf ++ heard.map Prod.fst).any (fun p => decide (r.lbtThr ≤ p))
      ((busyC || busyL) = false → Gives (.ccaComplete t ⟨pre, parts⟩ gap) s (fun u =>
        u.radioState t = rReady ∧ (u.rad t).act = some { a with phase := .ready, clear := true } ∧ s.sameMem u)) ∧
      ((busyC || busyL) = true → (∀ c, (s.tlx t).cur = some c → c.tk = none) → (∀ p, a.kind.descOf = some p → p.1 ≤ fwdQ) → Gives (.ccaComplete t ⟨pre, parts⟩ gap) s (fun u =>
        (u.rad t).act = none ∧
        let f := t.f (if busyC then F.RFA_CCA_CNT_HI else F.RFA_CCA_CNT_LO)
        u.fg f = min (s.fg f + 1) 65535))) ∧
    (∀ (q : Fin 16) (i : Fin 64), ofDesc q i → a.phase = .tuning → Gives (.txLockTimeout t gap) s (fun u =>
      (u.rad t).act = none ∧ u.mg (D.ST q i) = (if 3 ≤ (x q i).late then 3 else 1) ∧ (3 ≤ (x q i).late → u.mg (D.CODE q i) = ccLate))) ∧
    (∀ (q : Fin 16) (i : Fin 64), ofDesc q i → a.phase = .ackWait → s.radioState t ≠ rRxFrame →
      let out := s.mg (D.RETRY q i) + 1 ≤ (x q i).tries + 1
      Gives (.ackWindowClose t gap) s (fun u =>
        (u.rad t).act = none ∧ u.mg (D.ST q i) = (if out then 3 else 1) ∧
        (out → u.mg (D.CODE q i) = if (x q i).busy = (x q i).tries + 1 then ccCca else ccNoAck))) ∧
    (a.phase = .onAir → Config.paMin (pathNo t a.hp) ≤ a.code → a.code ≤ Config.paMax (pathNo t a.hp) → Gives (.txPowerCorrection t m) s (fun u =>
      ∃ b, (u.rad t).act = some b ∧ (b.code - a.code).natAbs ≤ 2 ∧ Config.paMin (pathNo t a.hp) ≤ b.code ∧ b.code ≤ Config.paMax (pathNo t a.hp) ∧
        { b with code := a.code } = a ∧
        s.sameRegs u [R.RFA_TEMP + t.radio, R.RFA_CALi 4 + t.radio] ∧ s.sameMem u))

/-- ACK_TRANSMIT, PENDING_FRAME_TRANSMIT, GATHER_LIST_CLOSE and GATHERED_ACK_TRANSMIT (R96, R103, R106, R107, R123, R124, R128, R131,
R133, R174, R215). -/
def Obligations.AcknowledgementsSent : Prop :=
  ∀ (t : Tl) (clash : Bool) (sfd gap : Nat) (m : PaMeas) (s : State), t.bit < s.hrt.radios.length → 0 < s.hrt.tls.length →
    let sent := fun (t' : Tl) (k : TxKind) (o : List Byte) (u : State) =>
      u.radioState t' = rTx ∧ ∃ b, (u.rad t').act = some b ∧ b.kind = k ∧ b.phase = .onAir ∧ b.psdu = o
    ((s.rad t).ackDue = [] → Gives (.ackTransmit t clash m) s (fun u => u = s)) ∧
    (∀ d rest, (s.rad t).ackDue = d :: rest → s.radioMute t = false → s.hpStarved t d.ch d.mode m = false →
      (d.viaFbl = false → (s.rad t).act = none) →
      let held := d.viaFbl && (clash || (s.rad t).act.isSome || s.rsvBusy t)
      let ok := s.ledgerOk t d.ch (s.airOf t d.mode d.psdu) true
      (held = false → ok = true → Gives (.ackTransmit t clash m) s (fun u => sent t .ack d.psdu u ∧ (u.rad t).ackDue = rest)) ∧
      (held = false → ok = false → Gives (.ackTransmit t clash m) s (fun u => (u.rad t).ackDue = rest ∧ (u.rad t).act = (s.rad t).act)) ∧
      (held = true → Gives (.ackTransmit t clash m) s (fun u =>
        (u.rad t).ackDue = rest ∧ (u.rad t).act = (s.rad t).act ∧
        let f := t.f (if d.openPoll then F.RFA_FBL_ACKHELD_LO else F.RFA_FBL_ACKHELD_HI)
        u.fg f = min (s.fg f + 1) 65535))) ∧
    (∀ d n q k, (s.rad t).lastAck = some d → s.hrt.fatal = false → s.radioMute t = false → s.radioState t ≠ rCal → (s.rad t).act = none →
      (d.viaFbl = true → clash = false ∧ s.rsvBusy t = false) → s.lbtBand t d.ch = false → s.interimOk t d.ch ((s.tc t).mode d.mode) = true →
      d.nbr = some n → s.oldestPend t n = some (q, k) → s.mb (D.SEC q k) = false → s.psduLen q k ≤ ((s.tc t).mode d.mode).maxPsdu →
      let o := s.descFrame q k
      let bond := (((s.tlx t).cur.bind (·.cell)).map cBond).getD 0
      (d.openPoll = true ∨ s.fitsFrom t ((s.tc t).mode d.mode) ((sfd / 40 : Nat) - tShr ((s.tc t).mode d.mode)) (o.length + s.fcsLen t) (parseMhr o).ar
        (bond + 1) = true) →
      s.ledgerOk t d.ch (s.airOf t d.mode o) false = true → s.hpStarved t d.ch d.mode m = false →
      Gives (.pendingFrameTransmit t clash sfd gap m) s (fun u => sent t (.pend q k) o u ∧ (u.rad t).lastAck = none)) ∧
    (((s.tlx .a).cur.bind (·.cell)).any (fun e => cAct e == actGatherRx) = true → Gives .gatherListClose s (fun u =>
      (u.tlx .a).gclosed = true ∧ (u.tlx .a).gath.map (·.seq) = (s.tlx .a).gath.map (·.seq) ∧ s.sameRegs u [] ∧ s.sameMem u)) ∧
    (∀ a e ch k c, (s.tlx .a).cur = some a → a.cell = some e → a.lanes.head? = some ch → (s.tc .a).link.gatherKey = some k →
      (s.tlx .a).gclosed = true → (s.tlx .a).gath ≠ [] → (s.rad .a).act = none → cAct e = actGatherRx → s.hrt.fatal = false → s.radioMute .a = false →
      let r := (s.mTl .a (fun x => { x with gath := [] })).takeCounter k
      let o := r.2.gackFrame (s.tlx .a).gath k c
      r.1 = .ok c → r.2.ledgerOk .a ch (r.2.airOf .a (cPhy e) o) true = true → r.2.hpStarved .a ch (cPhy e) m = false →
      Gives (.gatheredAckTransmit m) s (fun u => sent .a .gack o u ∧ (u.tlx .a).gath = []))

/-- XO_START_TIMEOUT, XO_RESTART, CALIBRATION_START, CALIBRATION_END, RADIO_TEST_WRITE, GAIN_STEP_DOWN and GAIN_STEP_UP (R173, R177, R179,
R192, R218). -/
def Obligations.CrystalCalibrationTestAndGain : Prop :=
  ∀ (who : Initiator) (t : Tl) (item : Fin 5) (temp : Int) (gap : Nat) (v : Word) (s : State), t.bit < s.hrt.radios.length → 0 < s.hrt.radios.length →
    let g := s.fg (t.f F.RFA_FBL_GAIN_GAIN)
    let hearth := s.fg F.HRT_STAT_STATE = hOff ∨ s.fg F.HRT_STAT_STATE = hNoConfig
    let lc := s.lifeCycle = lcMfg ∨ (s.lifeCycle = lcOpen ∧ s.fb F.LCS_DBG_OPEN = true)
    (s.fb F.CLK_STAT_XO_RDY = true → Gives .xoStartTimeout s (fun u => u = s)) ∧
    (s.fb F.CLK_STAT_XO_RDY = false → s.fb F.RFA_STAT_CLKFAIL = false → Gives .xoStartTimeout s (fun u =>
      u.fg F.CLK_STAT_XO_FAIL = 1 ∧ u.fg F.CLK_EVT_XO_FAIL = 1 ∧
      ∀ t', t' ∈ s.radios → t'.bit < s.hrt.radios.length → u.radioState t' = rClkFail ∧ (u.rad t').act = none)) ∧
    Gives (.xoRestart false) s (fun u => u = s) ∧
    (s.fb F.CLK_STAT_XO_FAIL = true → Gives (.xoRestart true) s (fun u =>
      u.fg F.CLK_STAT_XO_FAIL = 0 ∧ u.fg F.CLK_STAT_XO_RDY = 1 ∧ s.sameMem u ∧
      (s.fb F.RFA_STAT_CLKFAIL = true → ∀ t', t' ∈ s.radios → u.radioState t' = rOff ∧ ∀ k : Fin 5, u.fg (t'.f (F.RFA_CALi_STALE k)) = 1))) ∧
    (s.calFree t = true → s.calNext t = some item → Gives (.calibrationStart t item) s (fun u =>
      u.radioState t = rCal ∧ u.fg (t.f F.RFA_STAT_CALBUSY) = 1 ∧ (u.rad t).cal = some ⟨item, s.radioState t⟩)) ∧
    (∀ c, (s.rad t).cal = some c → c.item = item → s.radioState t = rCal →
      Gives (.calibrationEnd t true temp gap) s (fun u =>
        u.fg (t.f (F.RFA_CALi_VALID item)) = 1 ∧ u.fg (t.f (F.RFA_CALi_STALE item)) = 0 ∧ u.fg (t.f (F.RFA_CALi_FAILS item)) = 0 ∧
        u.fg (t.f (F.RFA_CALi_TEMP item)) = unsigned 8 (clampI (-128) 127 temp) ∧ u.fg (t.f F.RFA_STAT_CALBUSY) = 0 ∧ (u.rad t).cal = none ∧ u.radioState t ≠ rCal ∧ s.sameMem u) ∧
      Gives (.calibrationEnd t false temp gap) s (fun u =>
        let f := t.f (F.RFA_CALi_FAILS item)
        u.fg f = min (s.fg f + 1) (2 ^ (f.hi + 1 - f.lo) - 1) ∧ u.fg (t.f F.RFA_STAT_CALBUSY) = 0 ∧ (u.rad t).cal = none ∧ u.radioState t ≠ rCal ∧ s.sameMem u)) ∧
    (s.mayWrite who (R.RFA_TEST + t.radio) → (t = .b → s.hasB = true) →
      (wBit v 31 = true → hearth → lc → s.testOk t v = true → Gives (.radioTestWrite who t v) s (fun u =>
        u.radioState t = rTest ∧ u.fg (t.f F.RFA_TEST_EN) = 1 ∧ s.sameMem u)) ∧
      (wBit v 31 = true → ¬ (hearth ∧ lc) → Gives (.radioTestWrite who t v) s (fun u => s.sameRegs u [] ∧ s.sameMem u)) ∧
      (wBit v 31 = false → s.radioState t = rTest → Gives (.radioTestWrite who t v) s (fun u => u.radioState t = rOff ∧ s.sameMem u))) ∧
    (s.radioState t = rFbl → 6 ≤ g → g ≤ 60 → Gives (.gainStepDown t) s (fun u => u.fg (t.f F.RFA_FBL_GAIN_GAIN) = g - 6 ∧ s.sameMem u)) ∧
    (s.radioState t = rFbl → g ≤ 54 → (∀ k, k < unitCount t → s.uSt t k ≠ 3) → Gives (.gainStepUp t) s (fun u =>
      u.fg (t.f F.RFA_FBL_GAIN_GAIN) = g + 6 ∧ s.sameMem u))

/-- RX_WINDOW_OPEN, RX_WINDOW_CLOSE, PREAMBLE_DETECTED, SFD_DETECTED, SFD_TIMEOUT, MUTE_EXPIRY, PHR_RECEIVED and LOSS_OF_SIGNAL (R73, R101,
R123, R189, R190, R200-R204, R208, R211, R213, R242). -/
def Obligations.ReceptionUnitsAndStartOfFrame : Prop :=
  ∀ (t : Tl) (out : Fin 140) (phy us tick len code gap : Nat) (level rssi snr : Int) (ms fcs4 hcs : Bool) (s : State),
    t.bit < s.hrt.radios.length → s.hrt.bufHolder.length = 64 → s.fb (t.f F.RFA_FBL_CFG_DRAIN) = false → (t = .b → (out : Nat) < 16) →
    let oEn := s.fb (t.f (F.RFA_FBL_OUTc_EN out))
    let pool := s.freeBufs
    (s.hrt.fatal = false → (s.rad t).act = none → s.radioState t ∉ [rClkFail, rTest, rCal, rTx] →
      let listening := fun (ch : Nat) (u : State) => (u.rad t).winOpen = true ∧ u.radioState t = rRxSc ∧ u.fg (t.f F.RFA_STAT_CH) = ch % 256
      (∀ d, (s.rad t).dataDue = some d → s.vcoOk t = true → Gives (.rxWindowOpen t) s (listening d.ch)) ∧
      (∀ a, (s.rad t).dataDue = none → (s.tlx t).cur = some a → a.done = true → a.skip = false → a.cal = false →
        (a.listen = true ∨ ∃ e, a.cell = some e ∧ armReceives a e = true) →
        let covered := s.radioState t = rFbl ∧ ((s.outOf t a.ch).isSome = true ∨ a.lanes ≠ [])
        (covered → Gives (.rxWindowOpen t) s (fun u => (u.rad t).winOpen = true ∧ u.radioState t = rFbl)) ∧
        (¬ covered → s.vcoOk t = true → Gives (.rxWindowOpen t) s (listening a.ch)))) ∧
    ((s.rad t).winOpen = true → (∀ c, (s.tlx t).cur = some c → c.tk = none) → Gives (.rxWindowClose t gap) s (fun u =>
      (u.rad t).winOpen = false ∧ (u.rad t).dataDue = none ∧ s.sameMem u ∧
      ∀ g, g ∈ s.groups t → s.groupRsv t g = true → s.uSt t g < 3 → ∀ k, k ∈ s.groupUnits t g → u.uSt t k = 0)) ∧
    ((s.radioState t ≠ rFbl ∨ (s.ownWindow t out phy = false ∧ (oEn = false ∨ s.detects t phy = false))) →
      Gives (.preambleDetected t out phy level us) s (fun u => u = s)) ∧
    (∀ g, s.radioState t = rFbl → s.leaks t out phy level us = false → s.outServes t out = false → s.outWindow t out = some g →
      (s.ownWindow t out phy = true → Gives (.preambleDetected t out phy level us) s (fun u => u.uSt t g = 2 ∧ u.groupRsv t g = true ∧ s.sameMem u)) ∧
      (s.ownWindow t out phy = false → oEn = true → s.detects t phy = true → Gives (.preambleDetected t out phy level us) s (fun u =>
        (∀ k, k < unitCount t → u.uSt t k = s.uSt t k) ∧ s.sameMem u))) ∧
    (s.radioState t = rFbl → oEn = true → s.detects t phy = true → s.leaks t out phy level us = false → s.outServes t out = false → s.outWindow t out = none →
      s.fb (t.f (F.RFA_FBL_OUTc_MUTED out)) = false →
      let room := phyUnits phy ≤ (s.unitsFree t).length ∧ s.firstUse t + phyUnits phy ≤ unitCount t - s.fg (t.f F.RFA_FBL_UNITS_RMAX)
      let us' := (s.unitsFree t).take (phyUnits phy)
      (room → Gives (.preambleDetected t out phy level us) s (fun u => s.sameMem u ∧
        (∀ k, k ∈ us' → u.uSt t k = 2 ∧ u.groupRsv t k = false ∧ u.groupOut t k = out) ∧ (∀ k, k ∉ us' → k < unitCount t → u.uSt t k = s.uSt t k))) ∧
      (¬ room → Gives (.preambleDetected t out phy level us) s (fun u =>
        u.fg (t.f F.RFA_FBL_NOUNIT_HI) = min (s.fg (t.f F.RFA_FBL_NOUNIT_HI) + 1) 65535 ∧ (∀ k, k < unitCount t → u.uSt t k = s.uSt t k) ∧ s.sameMem u))) ∧
    (s.radioState t = rRxSc → (s.rad t).act = none →
      (∀ b r, pool = b :: r → Gives (.sfdDetected t none phy tick rssi snr) s (fun u =>
        u.radioState t = rRxFrame ∧ u.holder b = ownHearth ∧ s.sameMem u ∧ ∃ x, u.rxAt t none = some x ∧ x.stage = .sfd ∧ x.buf = b ∧ x.tick = tick ∧
          x.ember = s.rtc.ember ∧ x.rssi = s.rssiOf rssi ∧ x.lqi = lqiOf snr)) ∧
      (pool = [] → Gives (.sfdDetected t none phy tick rssi snr) s (fun u =>
        let d := if t = .a then R.HRT_RXDROP_A else R.HRT_RXDROP_B
        u.rd d = w32 (min ((s.rd d).toNat + 1) 0xFFFFFFFF) ∧ s.sameRegs u [d] ∧ s.sameMem u))) ∧
    (∀ g, s.searching t out = some g →
      (s.radioState t = rFbl → (∃ b r, pool = b :: r) → Gives (.sfdDetected t (some out) phy tick rssi snr) s (fun u =>
        (∀ k, k ∈ s.groupUnits t g → u.uSt t k = 3) ∧ (∃ x, u.rxAt t (some out) = some x ∧ x.stage = .sfd ∧ x.grp = g) ∧ s.sameMem u)) ∧
      (s.groupRsv t g = false → Gives (.sfdTimeout t out) s (fun u =>
        (∀ k, k ∈ s.groupUnits t g → u.uSt t k = 0) ∧ u.fg (t.f F.RFA_FBL_TOCNT_HI) = min (s.fg (t.f F.RFA_FBL_TOCNT_HI) + 1) 65535 ∧ s.sameMem u))) ∧
    ((out : Nat) < s.fg (t.f F.RFA_FBL_CFG_NOUT) → Gives (.muteExpiry t out) s (fun u =>
      u.fb (t.f (F.RFA_FBL_OUTc_MUTED out)) = false ∧ s.sameRegs u [(t.f (F.RFA_FBL_OUTc_MUTED out)).addr] ∧ s.sameMem u)) ∧
    (∀ x, s.rxAt t none = some x →
      (x.stage = .sfd →
        (s.phrBad t x len code ms fcs4 hcs = true → x.early = none → Gives (.phrReceived t none len code ms fcs4 hcs gap) s (fun u =>
          u.rxAt t none = none ∧ (x.buf < 64 → u.holder x.buf = ownNone) ∧ s.sameMem u)) ∧
        (s.phrBad t x len code ms fcs4 hcs = false → Gives (.phrReceived t none len code ms fcs4 hcs gap) s (fun u =>
          u.rxAt t none = some { x with stage := .phr, len := len, phy := code } ∧ s.sameRegs u [] ∧ s.sameMem u))) ∧
      (x.early = none → Gives (.lossOfSignal t none gap) s (fun u =>
        u.rxAt t none = none ∧ (x.buf < 64 → u.holder x.buf = ownNone) ∧ s.sameMem u)))

/-- FRAME_CONTROL_RECEIVED, DESTINATION_RECEIVED, SOURCE_LOOKUP, AUX_HEADER_RECEIVED, EARLY_DELIVERY_POST and FRAME_END (R64, R73, R148-R151,
R226, R241-R243, Tables 4-5, 4-6, 2-9). -/
def Obligations.HeaderFilterAndDelivery : Prop :=
  ∀ (t : Tl) (o : List Byte) (gap : Nat) (s : State) (x : RxFrame), t.bit < s.hrt.radios.length → s.hrt.bufHolder.length = 64 → x.buf < 64 →
    s.rxAt t none = some x → s.fb (t.f F.RFA_FBL_CFG_DRAIN) = false →
    let m := parseMhr o
    let rejected := fun (f : Fld) (u : State) => u.rxAt t none = none ∧ u.holder x.buf = ownNone ∧
      u.fg f = min (s.fg f + 1) 65535 ∧ s.sameMem u
    let goesOn := fun (y : RxFrame) (u : State) => u.rxAt t none = some y ∧ s.sameRegs u [] ∧ s.sameMem u
    (x.stage = .phr →
      (fcOk m = true → Gives (.frameControlReceived t none ⟨o, gap⟩) s (goesOn { x with stage := .fc })) ∧
      (fcOk m = false → x.early = none → Gives (.frameControlReceived t none ⟨o, gap⟩) s (rejected F.HRT_FILT_CNT_HI))) ∧
    (x.stage = .fc →
      (s.destOk t m = true → Gives (.destinationReceived t none ⟨o, gap⟩) s (goesOn { x with stage := .dest })) ∧
      (s.destOk t m = false → x.early = none → Gives (.destinationReceived t none ⟨o, gap⟩) s (rejected F.HRT_FILT_CNT_HI))) ∧
    (x.stage = .dest →
      ((∀ n, s.srcNbr t m = some n → s.mg (N.ADM n) ≠ admBlocked) → Gives (.sourceLookup t none ⟨o, gap⟩) s (goesOn { x with stage := .source, nbr := s.srcNbr t m })) ∧
      (∀ n, s.srcNbr t m = some n → s.mg (N.ADM n) = admBlocked → x.early = none → Gives (.sourceLookup t none ⟨o, gap⟩) s (rejected F.HRT_FILT_CNT_LO))) ∧
    (x.stage = .source → Gives (.auxHeaderReceived t none ⟨o, gap⟩) s (fun u =>
      ∃ y, u.rxAt t none = some y ∧ y.stage = .aux ∧ y.octets = o ∧ y.nbr = x.nbr ∧ y.key = (s.rxKey t m).map (fun k => (k, s.key0 k)) ∧ s.sameRegs u [] ∧ s.sameMem u)) ∧
    (∀ k key e q, x.key = some (k, key) → s.rxExt m x.nbr = some e → x.earlyOk = true → x.early = none → 256 ≤ o.length → o.length ≤ x.len →
      let clear := o.take (payOff m o) ++ (frameOpen key (nonce e m.ctr m.level) (o.take (payOff m o)) (o.drop (payOff m o)) [] m.level).1
      s.classQueue (s.rxClass m x.nbr clear) = some q → s.fb (F.HRT_Qn_CFG_EARLY q) = true → s.rxRoom q = true → s.pilotOther m x.nbr clear = false →
      x.len ≤ 2047 → Gives (.earlyDeliveryPost t none o) s (fun u =>
        let j := s.fg (F.HRT_Qn_PROD_IDX q) % 64
        u.mg (D.ST q j) = 2 ∧ u.mg (D.EARLY q j) = 1 ∧ u.mg (D.VERDICT q j) = 0 ∧ u.mg (D.BUF q j) = x.buf ∧
        u.fg (F.HRT_Qn_PROD_IDX q) = (s.fg (F.HRT_Qn_PROD_IDX q) + 1) % 128)) ∧
    ((x.stage = .source ∨ x.stage = .aux) → x.early = none →
      Gives (.frameEnd t none o false gap) s (fun u => u.rxAt t none = none ∧ u.holder x.buf = ownNone ∧ s.sameMem u) ∧
      (∀ q, x.nbr = none → m.ty = 1 → m.ar = false → s.rxSecure t x m o = .ok o none → s.classQueue (some 11) = some q → s.rxRoom q = true →
        o.length ≤ 2047 → Gives (.frameEnd t none o true gap) s (fun u =>
          let j := s.fg (F.HRT_Qn_PROD_IDX q) % 64
          u.rxAt t none = none ∧ u.mg (D.ST q j) = 3 ∧ u.mg (D.LEN q j) = o.length ∧ u.mg (D.BUF q j) = x.buf ∧
          u.fg (F.HRT_Qn_PROD_IDX q) = (s.fg (F.HRT_Qn_PROD_IDX q) + 1) % 128)))

/-- NBR_ADD to NBR_DEL_CHILD (R143-R147, R158, R162, Tables 4-10 and 4-11). -/
def Obligations.NeighbourCommands : Prop :=
  ∀ (who : Initiator) (v : Word) (s : State) (n : Fin 1024),
    s.mayWrite who R.HRT_NBR_CMD → s.csOk .nbr (s.owner who) true = true → s.recovering = false →
    let t := Tl.ofBit (wField v 16 16)
    let ends := fun (u : State) (code idx : Nat) => u.fg CsId.nbr.state = (if code = 0 then 2 else 3) ∧ u.fg CsId.nbr.code = code ∧
      u.fg F.HRT_NBR_RES_INDEX = idx ∧ u.fg CsId.nbr.writer = s.owner who
    let onlyEntry := fun (u : State) => ∀ a, (a < nbrAddr n ∨ nbrAddr n + 48 ≤ a) → u.rb a = s.rb a
    (t = .a ∨ s.hasB = true →
      (s.lookExt s.nbrArgExt t = some n → Gives (.nbrAdd who v) s (fun u => ends u 2 n ∧ s.sameMem u)) ∧
      (s.lookExt s.nbrArgExt t = none → s.fb F.HRT_NBR_SHORT_SV = false →
        (s.nbrIndex = some (n : Nat) → (idxFree s.hrt.extIdx (s.bucketExt s.nbrArgExt t)).isSome = true → Gives (.nbrAdd who v) s (fun u =>
          ends u 0 n ∧ u.mg (N.V n) = 1 ∧ u.mg (N.TL n) = t.bit ∧ u.mg (N.ADM n) = 1 ∧ u.nbrExt n = s.nbrArgExt ∧ u.mg (N.SHV n) = 0 ∧
          u.mg (N.LKV n) = 0 ∧ u.mg (N.GKV n) = 0 ∧ onlyEntry u)) ∧
        (s.nbrIndex = none ∨ idxFree s.hrt.extIdx (s.bucketExt s.nbrArgExt t) = none → Gives (.nbrAdd who v) s (fun u =>
          ends u 1 0 ∧ u.fg F.HRT_EVT_NEIGH_FULL = 1))) ∧
      (s.lookExt s.nbrArgExt t = some n →
        (s.nbrReferenced n = true → Gives (.nbrBlock who v) s (fun u => ends u 4 n ∧ s.sameMem u)) ∧
        (s.nbrReferenced n = false → Gives (.nbrBlock who v) s (fun u => ends u 0 n ∧ u.mg (N.ADM n) = 3 ∧ onlyEntry u))) ∧
      (s.fb F.HRT_NBR_SHORT_SV = false → s.lookExt s.nbrArgExt t = some n → Gives (.nbrLookup who v) s (fun u => ends u 0 n ∧ s.sameMem u)) ∧
      (s.fb F.HRT_NBR_SHORT_SV = true → s.lookShort (s.fg F.HRT_NBR_SHORT_SHORT) t = none → Gives (.nbrLookup who v) s (fun u => ends u 3 0 ∧ s.sameMem u))) ∧
    (wField v 9 0 = n → s.mb (N.V n) = false →
      ∀ i ∈ [Instr.nbrRemove who v, .nbrPin who v, .nbrUnpin who v, .nbrSetShort who v, .nbrAddChild who v, .nbrDelChild who v],
        Gives i s (fun u => ends u 3 n ∧ s.sameMem u)) ∧
    (wField v 9 0 = n → s.mb (N.V n) = true →
      (s.nbrReferenced n = true → Gives (.nbrRemove who v) s (fun u => ends u 4 n ∧ s.sameMem u)) ∧
      (s.nbrReferenced n = false → Gives (.nbrRemove who v) s (fun u =>
        ends u 0 n ∧ u.mg (N.V n) = 0 ∧ (∀ x ∈ u.hrt.extIdx ++ u.hrt.shortIdx, x.2 ≠ n) ∧ u.hrt.freed = s.hrt.freed ++ [(n : Nat)] ∧ onlyEntry u)) ∧
      Gives (.nbrPin who v) s (fun u => ends u 0 n ∧ u.mg (N.ADM n) = 2 ∧ onlyEntry u) ∧
      Gives (.nbrUnpin who v) s (fun u => ends u 0 n ∧ u.mg (N.ADM n) = 1 ∧ onlyEntry u) ∧
      (s.lookShort (s.fg F.HRT_NBR_SHORT_SHORT) (s.nbrTl n) = none →
        let p := idxFree (s.hrt.shortIdx.filter (fun x => x.2 != (n : Nat))) (s.bucketShort (s.fg F.HRT_NBR_SHORT_SHORT) (s.nbrTl n))
        (p.isSome = true → Gives (.nbrSetShort who v) s (fun u =>
          ends u 0 n ∧ u.mg (N.SHORT n) = s.fg F.HRT_NBR_SHORT_SHORT ∧ u.mg (N.SHV n) = 1 ∧ onlyEntry u)) ∧
        (p = none → Gives (.nbrSetShort who v) s (fun u => ends u 7 n ∧ s.sameMem u))) ∧
      (s.childOf n = none → (∃ c, c < 512 ∧ ∀ k ∈ s.hrt.kids, k.2 ≠ c) → ∃ c, c < 512 ∧ (∀ k ∈ s.hrt.kids, k.2 ≠ c) ∧
        Gives (.nbrAddChild who v) s (fun u => ends u 0 c ∧ u.childOf n = some c ∧ u.mg (C.V c) = 1 ∧ u.mg (C.NBR c) = n ∧ u.mg (N.CHILD n) = 1)) ∧
      (s.childOf n = none → (∀ c, c < 512 → ∃ k ∈ s.hrt.kids, k.2 = c) → Gives (.nbrAddChild who v) s (fun u => ends u 6 0 ∧ s.sameMem u)) ∧
      (∀ c, s.childOf n = some c → c < 512 →
        Gives (.nbrAddChild who v) s (fun u => ends u 2 c ∧ s.sameMem u) ∧ Gives (.nbrDelChild who v) s (fun u => ends u 0 n ∧ u.mg (C.V c) = 0)))

/-- COMMAND_SET_WRITE, COMMAND_RESULT_READ, COMMAND_SET_LAPSE, NEIGHBOUR_AGE_CHECK, CHILD_TIMEOUT_CHECK, INDEX_CAM_MOVE (R143, R147, R158, R163). -/
def Obligations.CommandSetsAndAges : Prop :=
  ∀ (who : Initiator) (v : Word) (s : State),
    let own := s.owner who
    (∀ x ∈ [CsId.nbr, .vlt, .pk 0, .pk 1, .lce, .knd, .upd, .ashClr], ∀ k, k + 1 < (csRegs x).length →
      let a := nth (csRegs x) k 0
      s.mayWrite who a →
      (s.csOk x own false = true → Gives (.commandSetWrite who x k v) s (fun u =>
        u.fg x.writer = own ∧ x ∈ u.cs ∧ (∃ r, rowOf a = some r ∧ u.rd a = regWritten r (s.rd a) v) ∧ s.sameRegs u [a, x.res] ∧ s.sameMem u)) ∧
      (s.csOk x own false = false → Gives (.commandSetWrite who x k v) s (fun u =>
        u.fg x.werr = 1 ∧ u.fg x.writer = s.fg x.writer ∧ u.cs = s.cs ∧ s.sameRegs u [x.res] ∧ s.sameMem u))) ∧
    (∀ x ∈ CsId.all, s.mayRead who x.res → alGet s.caps (s.capKey who, x.res) = none →
      let frees := s.fg x.writer = own ∧ 2 ≤ s.fg x.state ∧ ¬ (x = .upd ∧ s.upd.keep = true)
      (frees → Gives (.commandResultRead who x) s (fun u => u.bus = ⟨s.rd x.res, 0⟩ ∧ u.fg x.writer = ownNone ∧ x ∉ u.cs ∧
        u.fg x.state = s.fg x.state ∧ u.fg x.code = s.fg x.code ∧ s.sameRegs u [x.res] ∧ s.sameMem u)) ∧
      (¬ frees → Gives (.commandResultRead who x) s (fun u => u.bus = ⟨s.rd x.res, 0⟩ ∧ u.cs = s.cs ∧ s.sameRegs u [] ∧ s.sameMem u))) ∧
    (∀ x : CsId,
      let lapses := x ∈ s.cs ∧ s.csBusy x = false ∧ ¬ (x = .upd ∧ s.upd.keep = true)
      (lapses → Gives (.commandSetLapse x) s (fun u => u.fg x.writer = ownNone ∧ x ∉ u.cs ∧ s.sameRegs u [x.res] ∧ s.sameMem u)) ∧
      (¬ lapses → Gives (.commandSetLapse x) s (fun u => u = s))) ∧
    (s.recovering = false → Gives .neighbourAgeCheck s (fun u => ∀ n : Fin 1024, s.mb (N.V n) = true →
      (u.mb (N.V n) = false ↔ s.mg (N.ADM n) = 0 ∧ 60 * s.hrt.cfg.nbrAge ≤ s.since ((alGet s.hrt.heard n).getD 0) ∧ s.nbrReferenced n = false))) ∧
    (s.recovering = true → Gives .neighbourAgeCheck s (fun u => u = { s with hrt := { s.hrt with deferred := s.hrt.deferred ++ [.nbrAges] } }) ∧
      Gives .childTimeoutCheck s (fun u => u = { s with hrt := { s.hrt with deferred := s.hrt.deferred ++ [.childAges] } })) ∧
    (s.recovering = false → (∀ p ∈ s.hrt.kids, p.2 < 512) → Gives .childTimeoutCheck s (fun u => ∀ p ∈ s.hrt.kids, s.mb (C.V p.2) = true →
      (u.mb (C.V p.2) = false ↔ s.mg (C.TIMEOUT p.2) ≤ (s.sec + 0x100000000 - s.mg (C.LASTPOLL p.2)) % 0x100000000))) ∧
    Gives .indexCamMove s (fun u =>
      (∀ n, (∃ p, (p, n) ∈ u.hrt.extIdx) ↔ ∃ p, (p, n) ∈ s.hrt.extIdx) ∧ (∀ n, (∃ p, (p, n) ∈ u.hrt.shortIdx) ↔ ∃ p, (p, n) ∈ s.hrt.shortIdx) ∧
      ((∃ x ∈ s.hrt.extIdx, 1024 ≤ x.1 ∧ ∃ w, w < 2 ∧ ∀ y ∈ s.hrt.extIdx, y.1 ≠ 2 * s.bucketExt (s.nbrExt x.2) (s.nbrTl x.2) + w) →
        camUse u.hrt.extIdx < camUse s.hrt.extIdx) ∧
      s.sameRegs u [R.HRT_NBR_USE] ∧ s.sameMem u)

/-- KEY_WORD_WRITE, KEY_LOAD, KEY_CLEAR, KEY_PAGE_WIPE, RESERVATION_TIMEOUT, RESERVATION_RETRY (R223, R225, R235, R240, R264). -/
def Obligations.KeysAndReservations : Prop :=
  ∀ (who : Initiator) (page slot w : Fin 8) (v : Word) (s : State),
    let x := s.key page slot
    let empty : KeySlot := ⟨List.replicate 8 0, [], 0⟩
    let slotReg := R.VLT_PGn_SLOTs page slot
    let kcvReg := R.VLT_PGn_KCVs page slot
    let mask := s.fg (F.VLT_PGn_SLOTs_MASK page slot)
    let complete := if wBit v 30 then mask = 255 else mask % 16 = 15
    let key := (x.buf.take (if wBit v 30 then 8 else 4)).flatMap (fun y => beBytes 4 y.toNat)
    (s.mayWrite who (R.VLT_PGn_Ks_Ww page slot w) → Gives (.keyWordWrite who page slot w v) s (fun u =>
      (u.key page slot).buf = x.buf.set w v ∧ (u.key page slot).active = x.active ∧
      u.fg (F.VLT_PGn_SLOTs_MASK page slot) = Nat.lor mask (2 ^ (w : Nat)) ∧ s.sameRegs u [slotReg] ∧ s.sameMem u)) ∧
    (s.mayWrite who slotReg →
      (complete → Gives (.keyLoad who page slot v) s (fun u =>
        (u.key page slot).active = key ∧ (u.key page slot).buf = List.replicate 8 0 ∧ u.fg (F.VLT_PGn_SLOTs_VALID page slot) = 1 ∧
        u.fg (F.VLT_PGn_SLOTs_ERR page slot) = 0 ∧ u.fg (F.VLT_PGn_SLOTs_MASK page slot) = 0 ∧ u.rd kcvReg = kcvOf key ∧
        s.sameRegs u [slotReg, kcvReg] ∧ s.sameMem u)) ∧
      (¬ complete → Gives (.keyLoad who page slot v) s (fun u =>
        (u.key page slot).active = x.active ∧ (u.key page slot).buf = List.replicate 8 0 ∧
        u.fg (F.VLT_PGn_SLOTs_VALID page slot) = s.fg (F.VLT_PGn_SLOTs_VALID page slot) ∧
        u.fg (F.VLT_PGn_SLOTs_ERR page slot) = 1 ∧ u.fg (F.VLT_PGn_SLOTs_MASK page slot) = 0 ∧ s.sameRegs u [slotReg] ∧ s.sameMem u)) ∧
      (Gives (.keyClear who page slot v) s (fun u =>
        u.key page slot = empty ∧ u.fg (F.VLT_PGn_SLOTs_VALID page slot) = 0 ∧ u.rd kcvReg = 0 ∧ s.sameRegs u [slotReg, kcvReg] ∧ s.sameMem u))) ∧
    (s.mayWrite who (R.VLT_PGn_CTL page) → Gives (.keyPageWipe who page) s (fun u =>
      (∀ k : Fin 8, u.key page k = empty ∧ u.fg (F.VLT_PGn_SLOTs_VALID page k) = 0 ∧ u.rd (R.VLT_PGn_KCVs page k) = 0) ∧
      (∀ p : Fin 8, p ≠ page → ∀ k : Fin 8, u.key p k = s.key p k) ∧ s.sameMem u)) ∧
    (s.rsv.writing.isSome = true → s.rsvStuck ≠ [] → Gives .reservationTimeout s (fun u =>
      u.fg F.HRT_EVT_CTR_RSV = 1 ∧ u.fg F.LCE_RSV_STAT_FAILED = 1 ∧ (∀ k ∈ s.rsvStuck, k ∈ u.rsv.failed) ∧ u.rsv.writing = s.rsv.writing ∧ s.sameMem u)) ∧
    ((s.rsv.writing = none ∨ s.rsvStuck = []) → Gives .reservationTimeout s (fun u => u = s)) ∧
    (∀ ceils, s.rsv.failed ≠ [] → s.rsv.writing = some ceils → s.rsv.queued = false → (s.blk s.rsvBlock).ptr < 256 →
      Gives .reservationRetry s (fun u => u.rsv.queued = true ∧ s.sameMem u ∧
        ∃ c ∈ u.flc.queue, c.req = reqHearth ∧ c.urgent = true ∧ c.op = .program (blockAddr s.rsvBlock + 0x100 * (s.blk s.rsvBlock).ptr) (s.rsvPage ceils))) ∧
    (s.rsv.failed = [] → Gives .reservationRetry s (fun u => u = s))

/-- VAULT_GEN to VAULT_REWRAP, VAULT_COMMAND_END, LCE_JOB_CTR, LCE_JOB_CBC_MAC, LCE_JOB_CMAC, LCE_JOB_END (R163, R226, R246-R250, Table 7-7). That codes are judged in this order is the model's choice (log 56, DEDUCED). -/
def Obligations.VaultAndCipherJobs : Prop :=
  ∀ (who : Initiator) (v : Word) (s : State),
    let own := s.owner who
    let wrote := fun (u : State) (a : Nat) (l : List Byte) =>
      (∀ k, k < l.length → u.rb (a + k) = nth l k 0) ∧ ∀ b, (b < a ∨ a + l.length ≤ b) → u.rb b = s.rb b
    let ended := fun (x : CsId) (code : Nat) (u : State) => u.fg x.state = (if code = 0 then 2 else 3) ∧ u.fg x.code = code
    (∀ p ∈ [(1, Instr.vaultGen who v), (2, .vaultVerify who v), (3, .vaultUnwrap who v), (4, .vaultWrap who v), (5, .vaultRewrap who v)],
      s.mayWrite who R.VLT_CMD →
      (s.csOk .vlt own true = true → Gives p.2 s (fun u =>
        u.fg CsId.vlt.state = 1 ∧ u.fg CsId.vlt.writer = own ∧ s.sameRegs u [R.VLT_CMD, R.VLT_CMD_RES] ∧ s.sameMem u ∧
        ∃ j, u.vlt.job = some j ∧ j.op = p.1 ∧ j.purpose = wField v 21 20 ∧ j.page = wField v 18 16 ∧ j.slot = wField v 14 12 ∧
          j.inAddr = (s.rd R.VLT_CMD_IN).toNat ∧ j.len = s.fg F.VLT_CMD_LEN_LEN ∧ j.outAddr = (s.rd R.VLT_CMD_OUT).toNat ∧ j.who = own ∧ j.sec = s.secure who)) ∧
      (s.csOk .vlt own true = false → Gives p.2 s (fun u => u.fg CsId.vlt.werr = 1 ∧ u.vlt = s.vlt ∧ s.sameRegs u [R.VLT_CMD_RES] ∧ s.sameMem u))) ∧
    (∀ p ∈ [(1, Instr.lceJobCtr who v), (2, .lceJobCbcMac who v), (3, .lceJobCmac who v)], s.mayWrite who R.LCE_JOB_CTL →
      (s.csOk .lce own true = true → Gives p.2 s (fun u =>
        u.fg CsId.lce.state = 1 ∧ u.fg CsId.lce.writer = own ∧ s.sameRegs u [R.LCE_JOB_CTL, R.LCE_JOB_RES] ∧ s.sameMem u ∧
        ∃ j, u.vlt.lce = some j ∧ j.op = p.1 ∧ j.src = (s.rd R.LCE_JOB_SRC).toNat ∧ j.dst = (s.rd R.LCE_JOB_DST).toNat ∧
          j.len = s.fg F.LCE_JOB_LEN_LEN ∧ j.who = own ∧ j.sec = s.secure who)) ∧
      (s.csOk .lce own true = false → Gives p.2 s (fun u => u.fg CsId.lce.werr = 1 ∧ u.vlt = s.vlt ∧ s.sameRegs u [R.LCE_JOB_RES] ∧ s.sameMem u))) ∧
    (∀ j, s.vlt.job = some j →
      let m := s.bytes j.inAddr j.len
      let cv := cmac j.key (if j.purpose = 2 then BitVec.ofNat 8 j.who :: m else m)
      let fails := fun code => Gives .vaultCommandEnd s (fun u => ended .vlt code u ∧ u.vlt.job = none ∧ s.sameRegs u [R.VLT_CMD_RES] ∧ s.sameMem u)
      (s.jobDenied j = true → fails 3) ∧
      (s.jobDenied j = false → jobLenOk j = false → fails 5) ∧
      (s.jobDenied j = false → jobLenOk j = true → s.jobBus j = false → fails 4) ∧
      (s.jobDenied j = false → jobLenOk j = true → s.jobBus j = true →
        (j.op = 1 → Gives .vaultCommandEnd s (fun u => ended .vlt 0 u ∧ wrote u j.outAddr cv ∧ s.sameRegs u [R.VLT_CMD_RES])) ∧
        (j.op = 2 → fails (if s.bytes j.outAddr 16 = cv then 0 else 1)) ∧
        (j.op = 3 → s.openRoot m = none → fails 2) ∧
        (∀ h k, j.op = 3 → s.openRoot m = some (h, k) → blobOwner h ≠ j.who → fails 3) ∧
        (∀ h k, j.op = 3 → s.openRoot m = some (h, k) → blobOwner h = j.who → Gives .vaultCommandEnd s (fun u =>
          ended .vlt 0 u ∧ (u.key j.page j.slot).active = k ∧ s.sameMem u)))) ∧
    (∀ j, s.vlt.lce = some j → j.op ≠ 0 →
      let m := s.bytes j.src j.len
      let n := (j.len + 15) / 16
      let badLen := j.len = 0 ∨ (j.op = 2 ∧ j.len % 16 ≠ 0)
      let bus := s.busOk j.who j.sec j.src j.len false = true ∧ (j.op = 1 → s.busOk j.who j.sec j.dst j.len true = true)
      let macIs := fun (u : State) (o : List Byte) => ∀ i : Fin 4, u.rd (R.LCE_JOB_MACn i) = w32 (ofBe ((o.drop (4 * i)).take 4))
      let fails := fun code => Gives .lceJobEnd s (fun u => ended .lce code u ∧ u.vlt.lce = none ∧ s.sameRegs u [R.LCE_JOB_RES] ∧ s.sameMem u)
      (j.key = [] → fails 1) ∧ (j.key ≠ [] → badLen → fails 2) ∧ (j.key ≠ [] → ¬ badLen → ¬ bus → fails 3) ∧
      (j.key ≠ [] → ¬ badLen → bus →
        (j.op = 1 → Gives .lceJobEnd s (fun u => ended .lce 0 u ∧ wrote u j.dst (ctrMode j.key n j.iv m) ∧ macIs u (ctrAfter j.iv n))) ∧
        (j.op = 2 → Gives .lceJobEnd s (fun u => ended .lce 0 u ∧ macIs u (cbcMac j.key n j.iv m) ∧ s.sameMem u)) ∧
        (j.op = 3 → Gives .lceJobEnd s (fun u => ended .lce 0 u ∧ macIs u (cmac j.key m) ∧ s.sameMem u))))

/-- PK_JOB_GO, PK_ABORT, PK_STEP_END, TRNG_OUTPUT, TRNG_READ, TRNG_RESTART (R251-R254). -/
def Obligations.VerifyEngineAndTrng : Prop :=
  ∀ (who : Initiator) (ctx : Fin 2) (v : Word) (s : State),
    let own := s.owner who
    let ctl := R.VLT_PK_CTLc ctx
    let c := s.vlt.pkLast
    let done := s.fg (F.VLT_PK_PROGc_HI c) + 1
    let last := s.fg (F.VLT_PK_PROGc_LO c)
    let ended := fun (x code : Nat) (u : State) => u.fg (CsId.pk x).state = (if code ≤ 4 then 2 else 3) ∧ u.fg (CsId.pk x).code = code ∧ u.pkJob x = none
    (s.mayWrite who ctl → s.vlt.pk.length = 2 → s.csOk (.pk ctx) own true = true → Gives (.pkJobGo who ctx v) s (fun u =>
      let j : PkJob := ⟨(s.rd (R.VLT_PK_ARGc ctx)).toNat, wBit v 0, own, s.secure who, false, []⟩
      u.pkJob ctx = some j ∧ u.fg (CsId.pk ctx).state = 1 ∧ u.rd (R.VLT_PK_PROGc ctx) = w32 (14 + (s.pkLen j + 32767) / 32768) ∧
      (s.pwr.entry = none → u.vlt.pkStep = true) ∧ s.sameRegs u [ctl, R.VLT_PK_PROGc ctx] ∧ s.sameMem u)) ∧
    (∀ j, s.mayWrite who ctl → s.vlt.pk.length = 2 → s.csOk (.pk ctx) own false = true → s.pkJob ctx = some j → Gives (.pkAbort who ctx) s (fun u =>
      u.pkJob ctx = some { j with abortReq := true } ∧ u.fg (CsId.pk ctx).state = s.fg (CsId.pk ctx).state ∧ s.sameRegs u [ctl] ∧ s.sameMem u)) ∧
    ((s.vlt.pkStep = false ∨ ∃ j, s.pkJob c = some j ∧ s.pkWaits c j = true) → Gives .pkStepEnd s (fun u => u = s)) ∧
    (∀ j, s.vlt.pkStep = true → s.vlt.pk.length = 2 → c < 2 → s.pkJob c = some j → s.pkWaits c j = false → s.upd.ctx = none →
      let goesOn := j.abortReq = false ∧ s.pkBus j = true ∧ done < last
      (j.abortReq = true → Gives .pkStepEnd s (ended c 6)) ∧
      (j.abortReq = false → s.pkBus j = false → Gives .pkStepEnd s (ended c 5)) ∧
      (j.abortReq = false → s.pkBus j = true → last ≤ done → Gives .pkStepEnd s (ended c (s.pkResult (s.pkTake c j)))) ∧
      (goesOn → Gives .pkStepEnd s (fun u => u.pkJob c = some (s.pkTake c j) ∧ u.fg (F.VLT_PK_PROGc_HI c) = done ∧ s.sameMem u)) ∧
      (∀ k, goesOn → s.pkJob (1 - c) = some k → k.abortReq = false → s.pwr.entry = none →
        Gives .pkStepEnd s (fun u => u.vlt.pkStep = true ∧ u.vlt.pkLast = 1 - c)) ∧
      (∀ k, goesOn → s.pkJob (1 - c) = some k → k.abortReq = true → Gives .pkStepEnd s (ended (1 - c) 6))) ∧
    (s.vlt.stopped = true → ∀ ok, Gives (.trngOutput ok) s (fun u => u = s)) ∧
    (s.vlt.stopped = false →
      (s.vlt.words.length ≤ 8 → Gives (.trngOutput true) s (fun u => u.vlt.words.length = 8 ∧ u.vlt.fails = 0 ∧ u.fg F.VLT_TRNG_STAT_FAIL = 0 ∧
        u.fg F.VLT_TRNG_STAT_READY = 1 ∧ u.fg F.VLT_TRNG_STAT_WORDS = 8 ∧ s.sameRegs u [R.VLT_TRNG_STAT] ∧ s.sameMem u)) ∧
      (s.vlt.fails < 2 → Gives (.trngOutput false) s (fun u => u.vlt.fails = s.vlt.fails + 1 ∧ u.vlt.stopped = false ∧ s.sameRegs u [] ∧ s.sameMem u)) ∧
      (2 ≤ s.vlt.fails → Gives (.trngOutput false) s (fun u => u.vlt.stopped = true ∧ u.fg F.VLT_TRNG_STAT_FAIL = 1 ∧ u.vlt.words = s.vlt.words))) ∧
    (s.mayRead who R.VLT_TRNG_DATA → alGet s.caps (s.capKey who, R.VLT_TRNG_DATA) = none →
      (∀ w t, s.vlt.words = w :: t → Gives (.trngRead who) s (fun u => u.bus = ⟨w, 0⟩ ∧ u.vlt.words = t ∧
        u.fg F.VLT_TRNG_STAT_READY = (if t = [] then 0 else 1) ∧ s.sameRegs u [R.VLT_TRNG_STAT] ∧ s.sameMem u)) ∧
      (s.vlt.words = [] → Gives (.trngRead who) s (fun u => u.bus = ⟨0, 0⟩ ∧ u.vlt = s.vlt ∧ s.sameRegs u [] ∧ s.sameMem u))) ∧
    Gives .trngRestart s (fun u => u.vlt.stopped = false ∧ (s.vlt.stopped = true → u.vlt.fails = 0) ∧ s.sameRegs u [] ∧ s.sameMem u)

/-- ALARM, SET_OWNER, OPEN_FIELD, SEAL, RETIRE, DEBUG_OPEN, NEW_CHALLENGE, CHALLENGE_EXPIRY (R256-R263, Tables 7-9 and 7-11). -/
def Obligations.AlarmAndLifeCycle : Prop :=
  ∀ (who : Initiator) (bit : Nat) (hot : Bool) (cut : Option LcsCut) (s : State),
    let sec := s.secure who
    let arg := s.lcsArg (s.owner who) sec (s.rd R.LCS_CMD_ARG).toNat 192
    let lc := s.lifeCycle
    let resets := fun (cause : Nat) (u : State) => u.vlt.keys = [] ∧ u.rst.running = some .reset ∧ u.rst.cold = true ∧ cause ∈ u.rst.causes ∧
      u.fg F.KND_STAT_DONE = 0 ∧ u.rst.released = false
    let answers := fun (code : Nat) (u : State) => u.fg F.LCS_CMD_RES_STATE = (if code = 0 then 2 else 3) ∧ u.fg F.LCS_CMD_RES_CODE = code
    let moved := fun (u : State) => resets 13 u ∧ (∀ a, ((0x20000000 ≤ a ∧ a < 0x20180000) ∨ (0x28000000 ≤ a ∧ a < 0x28008000) ∨
      (0x30040000 ≤ a ∧ a < 0x30080000)) → u.rb a = 0) ∧ wBit (u.rd R.VLT_ALARM) 4 = true
    let newChal := fun (u : State) => u.fg F.LCS_DBG_CHAL_VALID = (if s.trngFail then 0 else 1)
    (s.powered = true → bit < 4 → (bit = 3 → s.fb F.VLT_ALARM_CFG_TAMPER_EN = true) → (∀ r ∈ s.rst.deferred, r.cause ≠ 1) → Gives (.alarm bit hot) s (fun u =>
      resets (if bit = 2 ∧ hot = true then 14 else 13) u ∧ u.rd R.VLT_ALARM = (s.rd R.VLT_ALARM ||| w32 (2 ^ bit)))) ∧
    (s.mayWrite who R.LCS_CMD → s.powered = true → (∀ r ∈ s.rst.deferred, r.cause ≠ 1) →
      (lc = lcMfg → s.fb F.LCS_STATE_OWNER_SET = false → sec = true → s.supplyOk = true → s.busOk (s.owner who) sec (s.rd R.LCS_CMD_ARG).toNat 32 false = true →
        Gives (.setOwner who) s (fun u => answers 0 u ∧ u.fg F.LCS_STATE_OWNER_SET = 1 ∧ s.sameMem u ∧ u.fuse.fo = s.fuse.fo ∧ u.vlt = s.vlt ∧
          u.rst = s.rst ∧ ∃ h, u.fuse.ownerHash = some h ∧ u.ownerHash = s.bytes (s.rd R.LCS_CMD_ARG).toNat 32)) ∧
      (lc = lcMfg → s.fb F.LCS_STATE_OWNER_SET = true → sec = true → s.supplyOk = true →
        Gives (.openField who none) s (fun u => moved u ∧ u.fuse.fo = max s.fuse.fo 2) ∧
        (∀ n, cut = some (.power n) → Gives (.openField who cut) s (fun u => u.sup.lost = true ∧ u.vlt.keys = [] ∧ u.fuse.fo = max s.fuse.fo (min 2 n))) ∧
        (∀ n c cold, c ≠ 1 → cut = some (.reset n c cold) → Gives (.openField who cut) s (fun u =>
          u.vlt.keys = [] ∧ u.fuse.fo = max s.fuse.fo (min 2 n) ∧ u.rst.running = some .reset ∧ c ∈ u.rst.causes ∧ wBit (u.rd R.VLT_ALARM) 4 = true))) ∧
      (lc = lcOpen → s.supplyOk = true → s.tokenCheck arg 2 zeroArg = 0 → Gives (.seal who none) s (fun u => moved u ∧ u.fuse.dbg = max s.fuse.dbg 2)) ∧
      (lc = lcOpen → s.supplyOk = true → s.tokenCheck arg 2 zeroArg ≠ 0 → Gives (.seal who cut) s (fun u =>
        answers (s.tokenCheck arg 2 zeroArg) u ∧ newChal u ∧ u.fuse = s.fuse ∧ u.vlt.keys = s.vlt.keys ∧ s.sameMem u)) ∧
      (lc = lcOpen ∨ lc = lcSealed → s.supplyOk = true → s.tokenCheck arg 3 zeroArg = 0 → Gives (.retire who none) s (fun u =>
        moved u ∧ u.fuse.rootKill = true ∧ u.fuse.ret = max s.fuse.ret 2)) ∧
      (s.supplyOk = false → lc = lcOpen → Gives (.seal who cut) s (fun u => answers 5 u ∧ u.fuse = s.fuse ∧ s.sameMem u)) ∧
      (lc ≠ lcSealed → lc ≠ lcRetired → s.optFail = false → s.tokenCheck s.tokenWindow 1 zeroArg = 0 → Gives (.debugOpen (.openBy who)) s (fun u =>
        answers 0 u ∧ u.fg F.LCS_DBG_OPEN = 1 ∧ newChal u ∧ u.fuse = s.fuse ∧ s.sameMem u)) ∧
      (lc = lcSealed ∨ lc = lcRetired → Gives (.debugOpen (.openBy who)) s (fun u => answers 1 u ∧ u.fg F.LCS_DBG_OPEN = s.fg F.LCS_DBG_OPEN ∧
        s.sameRegs u [R.LCS_CMD, R.LCS_CMD_RES] ∧ s.sameMem u)) ∧
      Gives (.newChallenge who) s (fun u => answers (if s.trngFail then 6 else 0) u ∧ (s.trngFail = false → u.fg F.LCS_DBG_CHAL_VALID = 1) ∧ s.sameMem u)) ∧
    (s.live .debug = true → s.secure .debug = true → ∀ c : CoreId, (s.core c).started = true → Gives (.debugOpen (.core (.halt c))) s (fun u =>
      u.core c = { s.core c with halted := true } ∧ (∀ d, d ≠ c → u.core d = s.core d) ∧ s.sameRegs u [] ∧ s.sameMem u)) ∧
    Gives .challengeExpiry s (fun u => u.fg F.LCS_DBG_CHAL_VALID = 0 ∧ u.fg F.LCS_DBG_OPEN = s.fg F.LCS_DBG_OPEN ∧ s.sameRegs u [R.LCS_DBG] ∧ s.sameMem u)

/-- FLUE_EVENT, FLUE_HELD_DELIVERY, FLUE_CHANNEL_CONFIG, FLUE_TASK_WRITE (R268-R278, Tables 8-2 to 8-4). That each changed field is judged by itself is the model's reading (log 66, DEDUCED). -/
def Obligations.FlueDelivery : Prop :=
  ∀ (s : State) (env : FlueEnv) (e : FlueEv) (rest : List FlueEv) (c : Fin 48),
    let watch := if (c : Nat) < 32 then R.FLU_WATCH0 else R.FLU_WATCH1
    let loop := if (c : Nat) < 32 then R.FLU_LOOP0 else R.FLU_LOOP1
    let tsk := R.FLU_CHc_TSK c
    let cnt := R.FLU_CHc_CNT c
    let stat := R.FLU_CHc_STAT c
    let only := s.flue.events = e :: rest ∧ ∀ d : Fin 48, (s.fb (F.FLU_CHc_CFG_EN d) = true ∧ s.fg (F.FLU_CHc_CFG_EVENT d) = e.code) ↔ d = c
    let allowed := fun k : Nat => taskListed k = true ∧ s.taskSyn (s.fg (F.FLU_CHc_CFG_OWNER c)) (s.fb (F.FLU_CHc_CFG_SEC c)) k = 0
    let carried := fun u : State => wBit (u.rd watch) (c % 32) = true ∧ u.rd cnt = s.rd cnt + 1 ∧ u.fg (F.FLU_CHc_STAT_HOP c) = e.hop
    (s.flueOff = true → ∀ n, Gives (.flueEvent n env) s (fun u => u.flue.events = [] ∧ s.sameMem u ∧ s.sameRegs u [R.FLU_SUM])) ∧
    (s.flueOff = false → s.flueBanked = false → only →
      (8 ≤ e.hop → Gives (.flueEvent 1 env) s (fun u =>
        wBit (u.rd loop) (c % 32) = true ∧ u.fg F.FLU_SUM_LOOP = 1 ∧ u.fg (F.FLU_CHc_STAT_DROPPED c) = min (s.fg (F.FLU_CHc_STAT_DROPPED c) + 1) 255 ∧
        u.rd cnt = s.rd cnt ∧ u.rd watch = s.rd watch ∧ u.flue.events = rest)) ∧
      (e.hop < 8 → s.rd tsk = 0 → Gives (.flueEvent 1 env) s (fun u =>
        carried u ∧ u.flue.events = rest ∧ s.sameRegs u [watch, cnt, stat, R.FLU_SUM] ∧ s.sameMem u)) ∧
      (∀ k : Fin 256, e.hop < 8 → (k : Nat) ≠ 0 → s.rd tsk = w32 k →
        (¬ allowed k → Gives (.flueEvent 1 env) s (fun u => carried u ∧
          u.fg (F.FLU_CHc_STAT_DENIED c) = min (s.fg (F.FLU_CHc_STAT_DENIED c) + 1) 255 ∧ u.flue.events = rest ∧
          s.sameRegs u [watch, cnt, stat, R.FLU_SUM] ∧ s.sameMem u)) ∧
        (allowed k → s.taskBusy k = true → Gives (.flueEvent 1 env) s (fun u => carried u ∧
          u.fg (F.FLU_TKt_STAT_MISSED k) = min (s.fg (F.FLU_TKt_STAT_MISSED k) + 1) 255 ∧ u.fg F.FLU_SUM_MISS = 1 ∧ u.flue.events = rest ∧
          s.sameRegs u [watch, cnt, stat, R.FLU_TKt_STAT k, R.FLU_SUM] ∧ s.sameMem u)) ∧
        ((k : Nat) = 0x70 → allowed k → s.runs .a = true → Gives (.flueEvent 1 env) s (fun u => carried u ∧
          (u.rd R.FLU_STAMP_ASN_LO, u.rd R.FLU_STAMP_ASN_HI) = asnData .a (s.asn .a) ∧ u.rd R.FLU_STAMP_OFF = w32 env.tickA ∧
          u.rd R.FLU_STAMP_EMB = s.emberLo ∧ s.sameMem u)))) ∧
    (∀ (h : Nat) (t : Fin 4), s.flueOff = false → s.flueBanked = false → s.flue.held = [⟨c, h, [0x18 + (t : Nat)]⟩] →
      (s.taskPermitted c (0x18 + (t : Nat)) = true → s.tmrRuns t = false → s.fb (F.TMR_CFGt_EN t) = true → Gives (.flueHeldDelivery env) s (fun u =>
        u.flue.held = [] ∧ u.tmrRuns t = true ∧ u.rd (R.TMR_CNTt t) = 0 ∧
        s.sameRegs u [R.TMR_CNTt t, R.TMR_STATt t, R.FLU_SUM] ∧ s.sameMem u)) ∧
      (s.taskPermitted c (0x18 + (t : Nat)) = false → Gives (.flueHeldDelivery env) s (fun u =>
        u.flue.held = [] ∧ u.fg (F.FLU_CHc_STAT_DENIED c) = min (s.fg (F.FLU_CHc_STAT_DENIED c) + 1) 255 ∧
          s.sameRegs u [stat, R.FLU_SUM] ∧ s.sameMem u))) ∧
    (∀ (who : Initiator) (v : Word), s.mayWrite who (R.FLU_CHc_CFG c) →
      let own := s.owner who
      let mine := s.fg (F.FLU_CHc_CFG_OWNER c) = own ∨ s.fg (F.FLU_CHc_CFG_OWNER c) = ownNone
      let open' := s.fb (F.FLU_CHc_CFG_EN c) = false ∧ s.fb (F.FLU_CHc_CFG_LOCK c) = false
      (own ≠ ownNone → mine → open' → wField v 26 24 = own →
        (wField v 7 0 = s.fg (F.FLU_CHc_CFG_EVENT c) ∨ s.eventOk own (wBit v 20) (wField v 7 0) = true) → Gives (.flueChannelConfig who c v) s (fun u =>
          u.fg (F.FLU_CHc_CFG_OWNER c) = own ∧ u.fg (F.FLU_CHc_CFG_EN c) = wField v 31 31 ∧ u.fg (F.FLU_CHc_CFG_WAKE c) = wField v 30 30 ∧
          u.fg (F.FLU_CHc_CFG_SEC c) = wField v 20 20 ∧ u.fg (F.FLU_CHc_CFG_EVENT c) = wField v 7 0 ∧
          u.fb (F.FLU_CHc_CFG_LOCK c) = wBit v 29 ∧ s.sameRegs u [R.FLU_CHc_CFG c] ∧ s.sameMem u)) ∧
      (s.fg (F.FLU_CHc_CFG_OWNER c) = ownNone → wField v 26 24 ≠ own → Gives (.flueChannelConfig who c v) s (fun u => s.sameRegs u [] ∧ s.sameMem u)) ∧
      (own ≠ ownNone → s.fg (F.FLU_CHc_CFG_OWNER c) = own → open' → wField v 26 24 = ownNone → Gives (.flueChannelConfig who c v) s (fun u =>
        u.fg (F.FLU_CHc_CFG_OWNER c) = ownNone ∧ u.fg (F.FLU_CHc_CFG_EN c) = 0)) ∧
      (own ≠ ownNone → s.fg (F.FLU_CHc_CFG_OWNER c) = own → s.fb (F.FLU_CHc_CFG_EN c) = true → wField v 7 0 ≠ s.fg (F.FLU_CHc_CFG_EVENT c) →
        Gives (.flueChannelConfig who c v) s (fun u =>
          u.fg (F.FLU_CHc_STAT_WERR c) = 1 ∧ u.fg (F.FLU_CHc_CFG_EVENT c) = s.fg (F.FLU_CHc_CFG_EVENT c) ∧ s.sameRegs u [R.FLU_CHc_CFG c, stat]))) ∧
    (∀ (who : Initiator) (v : Word), s.mayWrite who tsk →
      (s.fb (F.FLU_CHc_CFG_EN c) = false → Gives (.flueTaskWrite who c v) s (fun u => u.rd tsk = v ∧ s.sameRegs u [tsk] ∧ s.sameMem u)) ∧
      (s.fb (F.FLU_CHc_CFG_EN c) = true → Gives (.flueTaskWrite who c v) s (fun u =>
        u.fg (F.FLU_CHc_STAT_WERR c) = 1 ∧ s.sameRegs u [stat] ∧ s.sameMem u)))

/-- CORE_WFI_DOZE, CORE_JOIN, DAMPER_GRANT, DAMPER_TIMEOUT, POWER_STATE_ENTERED, BANKED_WAKE, CINDER_WAKE, WAKE_FAILURE, WAKE_RETRY (R282-R297). -/
def Obligations.DamperAndWake : Prop :=
  ∀ (c : CoreId) (env : DamperEnv) (s : State),
    let m := s.coreMode c
    let other : CoreId := if c = .a then .b else .a
    let joined := s.setCore c { s.core c with joined := some (if m = 2 then .cinder else .banked), gated := true }
    let ended := fun (code block : Nat) (u : State) => u.pwr.entry = none ∧ wField (u.rd R.PWR_ENTRY_RES) 31 30 = 2 ∧
      wField (u.rd R.PWR_ENTRY_RES) 27 24 = code ∧ wField (u.rd R.PWR_ENTRY_RES) 20 16 = block ∧ u.fg F.PWR_EVT_ABANDON = 1 ∧
      (u.core .a).joined = none ∧ (u.core .b).joined = none
    let grants := ∀ k ∈ responders, s.answerOf k env = .grant
    let refuses := fun b : Nat => responders.find? (fun k => s.answerOf k env == .refuse) = some b
    (s.coreRuns c = true → (m = 0 ∨ m = 3) → s.coreIrq c = false → Gives (.coreWfiDoze c) s (fun u =>
      (u.core c).gated = true ∧ u.core other = s.core other ∧ s.sameRegs u [] ∧ s.sameMem u)) ∧
    (s.coreRuns c = true → (m = 1 ∨ m = 2) →
      (s.joinOf other = none → Gives (.coreJoin c env) s (fun u => u = joined)) ∧
      (∀ x, s.joinOf other = some x → s.pwr.entry = none →
        (∀ b, refuses b → Gives (.coreJoin c env) s (ended 1 b)) ∧
        (grants → m = 2 → x = .cinder → Gives (.coreJoin c env) s (fun u => u.pwr.entry = some ⟨true, [], true⟩)) ∧
        (grants → (m = 1 ∨ x = .banked) →
          (s.fg F.PWR_BUDGET_LIMIT < min (s.drawSum (tempBand env.temp)) 4095 → Gives (.coreJoin c env) s (ended 3 0)) ∧
          (min (s.drawSum (tempBand env.temp)) 4095 ≤ s.fg F.PWR_BUDGET_LIMIT → (joined.resumeOk .a = false ∨ joined.resumeOk .b = false) →
            Gives (.coreJoin c env) s (ended 4 0)) ∧
          (min (s.drawSum (tempBand env.temp)) 4095 ≤ s.fg F.PWR_BUDGET_LIMIT → joined.resumeOk .a = true → joined.resumeOk .b = true →
            Gives (.coreJoin c env) s (fun u => u.pwr.entry = some ⟨false, [], true⟩))))) ∧
    (∀ (x : EntrySt) (k : Nat), s.pwr.entry = some x → x.committed = false →
      (k ∈ x.holding → s.answerOf k env = .hold → Gives (.damperGrant k env) s (fun u => u = s)) ∧
      (k ∈ x.holding → k < 32 → s.answerOf k env = .refuse → Gives (.damperGrant k env) s (ended 1 k)) ∧
      (k ∈ x.holding → s.answerOf k env = .grant → x.holding.filter (fun y => decide (y ≠ k)) ≠ [] → Gives (.damperGrant k env) s (fun u =>
        u.pwr.entry = some { x with holding := x.holding.filter (fun y => decide (y ≠ k)) })) ∧
      (x.holding = [k] → x.cinder = true → s.answerOf k env = .grant → Gives (.damperGrant k env) s (fun u => u.pwr.entry = some ⟨true, [], true⟩)) ∧
      (∀ b, lowest x.holding = some b → b < 32 → Gives .damperTimeout s (ended 2 b))) ∧
    (∀ x, s.pwr.entry = some x → x.committed = true → Gives .powerStateEntered s (fun u =>
      u.pwr.state = (if x.cinder then .cinder else .banked) ∧ u.pwr.entry = none ∧ wField (u.rd R.PWR_ENTRY_RES) 31 30 = 1 ∧
      u.fg F.CLK_STAT_PLL_LOCK = 0 ∧ u.fg F.CLK_STAT_XO_RDY = 0 ∧ u.flc.pause = [] ∧ s.sameMem u ∧
      (x.cinder = true → ∀ p ∈ [0, 1, 2, 3, 4, 6, 7], ∀ k : Fin 8, (u.key p k).active = []))) ∧
    (∀ sched, s.pwr.state = .banked → s.wakeSources sched ≠ [] → Gives (.bankedWake sched) s (fun u =>
      u.pwr.state = .run ∧ (∀ n ∈ s.wakeSources sched, n < 32 → wBit (u.rd R.PWR_WAKE_SRC) n = true) ∧ u.fg wfConsec = 0 ∧
      (∀ b : Fin 12, ∀ a, 0x20000000 + 0x20000 * (b : Nat) ≤ a → a < 0x20000000 + 0x20000 * ((b : Nat) + 1) →
        u.rb a = if s.bankKept b then s.rb a else 0) ∧
      (∀ a, 0x30040000 ≤ a → a < 0x30080000 → u.rb a = s.rb a) ∧ u.rtc.ember = s.rtc.ember)) ∧
    (∀ sched, (s.pwr.state ≠ .banked ∨ s.wakeSources sched = []) → Gives (.bankedWake sched) s (fun u => u = s)) ∧
    (s.pwr.state = .cinder → s.pwr.wakePending ≠ [] → Gives .cinderWake s (fun u =>
      u.pwr.state = .run ∧ u.rst.running = some .cinder ∧ u.fg F.PWR_WAKE_SRC_CINDER = 1 ∧ u.fg F.KND_STAT_DONE = 0 ∧ u.rst.released = false ∧
      (∀ n : Fin 30, u.rd (R.EMB_REGn n) = s.rd (R.EMB_REGn n)) ∧ u.rd R.RST_CAUSE = s.rd R.RST_CAUSE ∧ u.rd R.RST_HIST = s.rd R.RST_HIST ∧
      u.rd R.VLT_ALARM = s.rd R.VLT_ALARM ∧ u.rd R.PAD_HOLD = s.rd R.PAD_HOLD ∧ u.rtc.ember = s.rtc.ember ∧
      (∀ a, 0x20000000 ≤ a → s.vaultHit a = false → u.rb a = s.rb a))) ∧
    (∀ step, s.waking = true → Gives (.wakeFailure step) s (fun u =>
      u.pwr.state = .failed ∧ u.fg wfTotal = min (s.fg wfTotal + 1) 255 ∧ u.fg wfConsec = min (s.fg wfConsec + 1) 255 ∧
      u.fg wfStep = (match step with
        | .fastRc => 1
        | .buck => 2) ∧ u.rd R.PAD_HOLD = s.rd R.PAD_HOLD ∧ u.rst.running = none)) ∧
    (s.powered = true → s.pwr.state = .failed → s.rst.deferred = [] → s.rst.running = none → Gives .wakeRetry s (fun u =>
      u.rst.running = some .reset ∧ u.rst.causes = [15] ∧ u.fg F.RST_CAUSE_CAUSE = 15 ∧ u.fg F.PWR_EVT_WAKEFAIL = 1 ∧ wBit (u.rd R.PWR_WAKE_SRC) 17 = true ∧
      u.rd R.PAD_HOLD = s.rd R.PAD_HOLD ∧ u.rtc.ember = s.rtc.ember))

/-- CLOCK_SELECT, PERF_LEVEL_CHANGE, PERF_LEVEL_DONE, PLL_LOCK, PLL_LOCK_LOSS, X32_FAIL, X32_RETRY, X32_READY, XO_READY (R34, R173, R299-R301). -/
def Obligations.ClocksAndLevels : Prop :=
  ∀ (who : Initiator) (v : Word) (s : State),
    let src := wField v 1 0
    let level := s.fg F.CLK_STAT_LEVEL
    let bad := src = 3 ∨ (src ≠ 0 ∧ s.fg F.CLK_STAT_PLL_LOCK = 0) ∨ (src = 2 ∧ (level = 0 ∨ s.fg F.CLK_STAT_PERF_BUSY = 1))
    let l := wField v 0 0
    let only := fun (u : State) (r : List Nat) => s.sameRegs u r ∧ s.sameMem u
    let oscBack := fun u : State => u.pwr.x32Run = true ∧ u.fg F.RTC_STAT_SRC = 0 ∧ u.fg F.CLK_STAT_X32_RDY = 1 ∧ u.fg F.CLK_STAT_X32_FAIL = 0 ∧
      (s.fg F.CLK_STAT_X32_FAIL = 1 → u.fg F.CLK_EVT_X32_OK = 1) ∧ only u [R.RTC_STAT, R.CLK_STAT, R.CLK_EVT]
    (s.mayWrite who R.CLK_SEL →
      (bad → Gives (.clockSelect who v) s (fun u => u.fg F.CLK_EVT_ERR = 1 ∧ only u [R.CLK_EVT])) ∧
      (¬ bad → Gives (.clockSelect who v) s (fun u =>
        u.fg F.CLK_SEL_PLL_REQ = wField v 8 8 ∧ wField (u.rd R.CLK_SEL) 1 0 = src ∧ u.fg F.CLK_STAT_CORE_SRC = src ∧ only u [R.CLK_SEL, R.CLK_STAT]))) ∧
    (s.mayWrite who R.CLK_PERF →
      (l = 0 → s.fg F.CLK_STAT_CORE_SRC = 2 → Gives (.perfLevelChange who v) s (fun u => u.fg F.CLK_EVT_ERR = 1 ∧ only u [R.CLK_EVT])) ∧
      (¬ (l = 0 ∧ s.fg F.CLK_STAT_CORE_SRC = 2) → l ≠ level → Gives (.perfLevelChange who v) s (fun u =>
        u.rd R.CLK_PERF = w32 l ∧ u.fg F.CLK_STAT_PERF_BUSY = 1 ∧ u.pwr.perfTarget = l ∧ u.fg F.CLK_STAT_LEVEL = level ∧ only u [R.CLK_PERF, R.CLK_STAT])) ∧
      (¬ (l = 0 ∧ s.fg F.CLK_STAT_CORE_SRC = 2) → l = level → s.fg F.CLK_STAT_PERF_BUSY = 0 → Gives (.perfLevelChange who v) s (fun u =>
        u.rd R.CLK_PERF = w32 l ∧ only u [R.CLK_PERF]))) ∧
    (s.fg F.CLK_STAT_PERF_BUSY = 1 → s.pwr.perfTarget < 2 → Gives .perfLevelDone s (fun u =>
      u.fg F.CLK_STAT_PERF_BUSY = 0 ∧ u.fg F.CLK_STAT_LEVEL = s.pwr.perfTarget ∧ only u [R.CLK_STAT])) ∧
    (s.pwr.state = .run → s.fg F.CLK_STAT_XO_RDY = 1 → (s.hearthPll = true ∨ s.fg F.CLK_SEL_PLL_REQ = 1) →
      Gives .pllLock s (fun u => u.fg F.CLK_STAT_PLL_LOCK = 1 ∧ only u [R.CLK_STAT])) ∧
    (s.fg F.CLK_STAT_PLL_LOCK = 1 → Gives .pllLockLoss s (fun u => u.fg F.CLK_STAT_PLL_LOCK = 0 ∧ u.fg F.CLK_STAT_CORE_SRC = 0 ∧ only u [R.CLK_STAT])) ∧
    (s.pwr.x32Run = true → Gives .x32Fail s (fun u => u.pwr.x32Run = false ∧ u.fg F.RTC_STAT_SRC = 1 ∧ u.fg F.CLK_STAT_X32_RDY = 0 ∧
      u.fg F.CLK_STAT_X32_FAIL = 1 ∧ u.fg F.CLK_EVT_X32_FAIL = 1 ∧ only u [R.RTC_STAT, R.CLK_STAT, R.CLK_EVT])) ∧
    (s.pwr.x32Run = false → Gives .x32Ready s oscBack) ∧
    (s.pwr.x32Run = false → s.fg F.CLK_STAT_X32_FAIL = 1 → Gives (.x32Retry true) s oscBack) ∧
    Gives (.x32Retry false) s (fun u => u = s) ∧
    (s.xoWanted = true → s.fg F.CLK_STAT_XO_FAIL = 0 → Gives .xoReady s (fun u => u.fg F.CLK_STAT_XO_RDY = 1 ∧ only u [R.CLK_STAT]))

/-- POWER_ON_RESET, BROWN_OUT, RESET_PIN, WATCHDOG_EXPIRY, LOCKUP, SOFT_RESET, DEFERRED_RESET_TAKEN, RESET_CONDITION_END, POWER_LOSS (R304-R308, R311, R324, R333, Tables 10-1 and 10-2). -/
def Obligations.ResetCausesTaken : Prop :=
  ∀ (s : State) (who : Initiator) (v : Word) (c : CoreId),
    let taken := fun (cause : Nat) (cold : Bool) (u : State) => u.rst.running = some .reset ∧ u.rst.causes = [cause] ∧ u.rst.cold = cold ∧
      u.fg F.RST_CAUSE_CAUSE = cause ∧ wBit (u.rd R.RST_CAUSE) 8 = cold ∧ u.fg F.RST_CAUSE_COUNT = min (s.fg F.RST_CAUSE_COUNT + 1) 0xFFFF ∧
      wBit (u.rd R.RST_HIST) cause = true ∧ u.fg F.KND_STAT_DONE = 0 ∧ u.vlt.keys = [] ∧ u.rst.released = false ∧
      u.coreA.started = false ∧ u.coreB.started = false ∧ u.rtc.ember = s.rtc.ember ∧ (∀ n : Fin 30, u.rd (R.EMB_REGn n) = s.rd (R.EMB_REGn n)) ∧
      ∀ a, 0x20000000 ≤ a → s.vaultHit a = false → u.rb a = s.rb a
    let fresh := s.rst.running = none ∧ s.rst.deferred = [] ∧ s.rst.waiting = false
    let asked := fun (i : Instr) (cause : Nat) (cold : Bool) => s.powered = true → fresh → s.calm = true →
      (s.flc.running = none → ∃ t, exec i s = .next t ∧ taken cause cold t) ∧
      (s.flc.running.isSome = true → ∃ t, exec i s = .next t ∧ t.rst.waiting = true ∧ t.rst.deferred = [⟨cause, cold⟩] ∧ t.rst.running = none ∧
        s.sameRegs t [] ∧ s.sameMem t)
    (∀ vin vkeep vsys, s.powered = false → Gives (.powerOnReset vin vkeep vsys) s (fun u =>
      u.powered = true ∧ u.rst.running = some .reset ∧ u.rst.causes = [1] ∧ u.rst.cold = true ∧ u.rd R.RST_HIST = 2 ∧ u.fg F.RST_CAUSE_CAUSE = 1 ∧
      u.fg F.RST_CAUSE_COUNT = 0 ∧ u.fg F.RST_CAUSE_POR_SRC = (if 8700 < vin then 1 else 0) ∧ u.rtc.ember = 0 ∧
      (s.fuse.rootKill = false → (u.key 5 0).active = kdf256 rootKeyBytes (label "kalya wrap enc")) ∧
      (s.fuse.rootKill = true → u.vlt.keys = []))) ∧
    (s.powered = true → fresh →
      Gives (.brownOut .core) s (fun u => taken 2 false u ∧ 2 ∈ u.rst.persist) ∧
      (s.fb F.SUP_IO_CFG_BOR_A_EN = true → Gives (.brownOut (.io .a)) s (fun u => taken 3 false u ∧ 3 ∈ u.rst.persist)) ∧
      (s.fb F.SUP_IO_CFG_BOR_B_EN = true → Gives (.brownOut (.io .b)) s (fun u => taken 3 false u ∧ 3 ∈ u.rst.persist)) ∧
      (s.fb F.SUP_IO_CFG_BOR_A_EN = false → Gives (.brownOut (.io .a)) s (fun u => u = s)) ∧
      (s.pwr.state = .banked → Gives (.brownOut .lp) s (fun u => taken 4 false u ∧ 4 ∈ u.rst.persist)) ∧
      (s.pwr.state ≠ .banked → Gives (.brownOut .lp) s (fun u => u = s))) ∧
    asked .resetPin 5 true ∧
    (s.rbit (wdtCfg c) 31 = true → s.rd (wdtCfg c + 8) = 0 →
      (¬ ((s.uState = uProbation ∨ s.uShadowing = true) ∧ s.uNew = c) → asked (.watchdogExpiry c) (if c = .a then 6 else 7) true) ∧
      (s.uState = uProbation → s.uNew = c → Gives (.watchdogExpiry c) s (fun u => u.rst.deferred = s.rst.deferred ∧ u.rst.running = s.rst.running)) ∧
      (s.uShadowing = true → s.uNew = c → s.powered = true → fresh → Gives (.watchdogExpiry c) s (fun u => u.uState = uVerified ∧
        u.fg F.UPD_EVT_DECLINED = 1 ∧ (u.core c).held = true ∧ u.rst.deferred = [⟨if c = .a then 6 else 7, true⟩] ∧ u.rst.running = none))) ∧
    (s.coreRuns c = true → asked (.lockup c) 9 false) ∧
    (s.coreRuns c = false → Gives (.lockup c) s (fun u => u = s)) ∧
    (s.mayWrite who R.RST_SOFT →
      (wField v 31 16 = 0x5E7A → asked (.softReset who v) 10 (wBit v 0)) ∧
      (wField v 31 16 ≠ 0x5E7A → Gives (.softReset who v) s (fun u => u.fg F.RST_EVT_ERR = 1 ∧ u.rst = s.rst ∧ s.sameRegs u [R.RST_EVT] ∧ s.sameMem u))) ∧
    (∀ us r, s.rst.running = none → s.rst.waiting = true → s.flc.running = none → s.rst.deferred = [r] → r.cause ∈ [5, 6, 7, 9, 10, 11, 12] →
      Gives (.deferredResetTaken us) s (fun u => taken r.cause r.cold u ∧ u.fg F.RST_DEFER_US = min us 1023 ∧ u.rst.deferred = [])) ∧
    (∀ us, s.rst.waiting = false → Gives (.deferredResetTaken us) s (fun u => u = s)) ∧
    (∀ cause, Gives (.resetConditionEnd cause) s (fun u => u.rst.persist = s.rst.persist.filter (fun x => x != cause) ∧ s.sameMem u ∧
      (s.rst.running.isSome = true → s.rst.slowWait = false → u.rst.persist = [] → u.rst.begun = true))) ∧
    (s.powered = true → Gives .powerLoss s (fun u => u.powered = false ∧ u.vlt.keys = [] ∧ u.flc.queue = [] ∧ u.flc.running = none ∧
      (∀ a, ((0x20000000 ≤ a ∧ a < 0x20180000) ∨ (0x28000000 ≤ a ∧ a < 0x28008000) ∨ (0x30000000 ≤ a ∧ a < 0x30080000)) → u.rb a = 0) ∧
      ∀ n : Fin 30, u.rd (R.EMB_REGn n) = 0))

/-- KINDLING_SLOW_RETRY, KINDLING_DONE, BOOT_START, WATCHDOG_KICK, SECURE_PAGE_SET, OPTION_WRITE (R257, R308-R319, R323, R350, R351, R381). -/
def Obligations.KindlingAndBoot : Prop :=
  ∀ (s : State) (who : Initiator) (v : Word),
    let own := s.owner who
    let life := if s.fuse.rootKill ∨ 0 < s.fuse.ret then lcRetired else if 0 < s.fuse.dbg then lcSealed else if 0 < s.fuse.fo then lcOpen else lcMfg
    let noTrim := s.info.trim0 = false ∧ s.info.trim1 = false
    (s.rst.running.isSome = true → s.rst.begun = false → s.rst.persist = [] → Gives .kindlingSlowRetry s (fun u =>
      u.rst.slowWait = false ∧ u.rst.begun = true ∧ u.rst.running = s.rst.running)) ∧
    (∀ us, s.rst.running.isSome = true → s.rst.begun = true → Gives (.kindlingDone us) s (fun u =>
      u.fg F.KND_STAT_DONE = 1 ∧ u.fg F.KND_STAT_RESTARTS = 0 ∧ u.fg F.KND_STAT_SLOW = 0 ∧ u.fg F.KND_TIME_US = min us 65535 ∧ u.rst.running = none ∧
      u.lifeCycle = life ∧ u.fuse.fo = (if 0 < s.fuse.fo then 2 else 0) ∧ u.fuse.dbg = (if 0 < s.fuse.dbg then 2 else 0) ∧
      (u.fg F.KND_STAT_OPTFAIL = 1 ↔ noTrim ∨ s.info.optCurrent = none) ∧ (u.fg F.KND_STAT_TRIM_BAD = 1 ↔ noTrim) ∧
      (u.rst.released = true ↔ life ≠ lcRetired ∧ ¬ noTrim) ∧ u.flc.ready = true ∧
      (∀ a, 0x30000000 ≤ a → a < 0x30080000 → u.rb a = 0) ∧
      (∀ p : Fin 96, ∀ a, 0x20000000 + 0x4000 * (p : Nat) ≤ a → a < 0x20000000 + 0x4000 * ((p : Nat) + 1) →
        u.rb a = if s.rst.cold = true ∨ s.rst.running = some .cinder ∨ (p : Nat) ∈ s.securePages then 0 else s.rb a))) ∧
    (s.fb F.KND_STAT_DONE = true → s.pwr.state = .run → s.coreA.started = false → s.coreB.started = false →
      ¬ (s.rst.released = true ∧ s.fg F.HRT_STAT_STATE = hOff) →
      (s.lifeCycle = lcRetired ∨ s.optFail = true ∨ s.fb F.FLC_PROT_NONE = true → Gives .bootStart s (fun u =>
        u.coreA.started = true ∧ u.coreA.held = false ∧ u.coreA.pilot = true ∧ u.coreB.started = false ∧ u.fg wfConsec = 0)) ∧
      (s.lifeCycle ≠ lcRetired → s.optFail = false → s.fb F.FLC_PROT_NONE = false → s.fb F.LCS_STATE_OWNER_SET = false →
        s.fg F.RST_CAUSE_CAUSE ∉ [6, 7, 9] →
        let b := s.fg F.KND_BOOT_CORE
        s.hdr b 0x0C ≤ 0x80000 → Gives .bootStart s (fun u =>
          u.coreA.started = true ∧ u.coreA.pilot = false ∧ u.coreA.entry = 0x20000000 + s.hdr b 0x10 ∧ u.coreB.started = s.seg1 b ∧
          u.fg F.FLC_PROT_UNIT = b ∧ u.fg F.FLC_PROT_LOCK = 1 ∧ u.fg F.UPD_BOOTFAIL_COUNT = 0 ∧ u.fg wfConsec = 0 ∧
          ∀ k, k < s.hdr b 0x0C → u.rb (0x20000000 + k) = s.rb (unitSlot b + k)))) ∧
    (∀ c, s.mayWrite who (kickReg c) →
      (s.rbit (wdtCfg c) 31 = true → v = 0xA5C3 → Gives (.watchdogKick who c v) s (fun u =>
        u.rd (wdtCfg c + 8) = w32 (max 32 (wField (s.rd (wdtCfg c)) 23 0)) ∧ s.sameRegs u [wdtCfg c + 8] ∧ s.sameMem u)) ∧
      (s.rbit (wdtCfg c) 31 = false ∨ v ≠ 0xA5C3 → Gives (.watchdogKick who c v) s (fun u =>
        u.fg F.RST_EVT_ERR = 1 ∧ s.sameRegs u [R.RST_EVT] ∧ s.sameMem u))) ∧
    (∀ n : Fin 3, s.mayWrite who (R.RST_SECPG0 + 4 * n) →
      let mine := (own = ownA ∧ (n : Nat) ≠ 1) ∨ (own = ownB ∧ (n : Nat) ≠ 0) ∨ own = ownDebug ∨
        (own = ownPilot ∧ (n : Nat) = if s.coreB.pilot then 1 else 0)
      (mine → Gives (.securePageSet who n v) s (fun u =>
        u.rd (R.RST_SECPG0 + 4 * n) = (s.rd (R.RST_SECPG0 + 4 * n) ||| v) ∧ s.sameRegs u [R.RST_SECPG0 + 4 * n] ∧ s.sameMem u)) ∧
      (¬ mine → Gives (.securePageSet who n v) s (fun u => s.sameRegs u [] ∧ s.sameMem u))) ∧
    (s.mayWrite who R.KND_OPT_CMD → s.csOk .knd own true = true →
      let ended := fun (code : Nat) (u : State) => u.fg CsId.knd.state = 3 ∧ u.fg CsId.knd.code = code ∧ u.rst.opt = s.rst.opt ∧ u.flc.queue = s.flc.queue ∧ s.sameMem u
      (s.lifeCycle = lcRetired → Gives (.optionWrite who) s (ended 1)) ∧
      (s.lifeCycle = lcMfg → (isCore own = true ∨ own = ownSvc) → s.supplyOk = false → Gives (.optionWrite who) s (ended 5)) ∧
      (s.lifeCycle = lcMfg → (isCore own = true ∨ own = ownSvc) → s.supplyOk = true → Gives (.optionWrite who) s (fun u =>
        u.fg CsId.knd.state = 1 ∧ s.sameMem u ∧ ∃ r, u.rst.opt = some r ∧ r.seq = ((s.info.optCurrent.map (fun p => p.2.seq)).getD 0) + 1 ∧
          r.u = (List.range 8).map (fun i => s.rd (R.KND_OPT_STGm i)) ∧
          ∃ c ∈ u.flc.queue, c.req = reqKnd ∧ c.op = (if 16 ≤ s.info.opt0.length then .optErase 0 else .optProgram 0 r))))

/-- FLASH_PROGRAM, FLASH_ERASE, FLASH_QUERY, FLASH_CANCEL, FLASH_STEP_END, FLASH_PAUSE, PAUSE_EXPIRY, ASH_SOFTWARE_RECORD, ASH_FLUSH,
ASH_REBUILD, ASH_CLEAR, ASH_READ_REQUEST, ASH_READ_DONE (R331-R345, R390-R403). -/
def Obligations.FlashAndAsh : Prop :=
  ∀ (s : State) (who : Initiator) (v : Word) (k : Fin 7),
    let own := s.owner who
    let addr := (s.rd (R.FLC_ADDRs k)).toNat
    let src := (s.rd (R.FLC_SRCs k)).toNat
    let stat := F.FLC_RESs_STATE k
    let mine := [R.FLC_CMDs k, R.FLC_RESs k]
    let seen := if isFlash src then [R.FLC_EVT, R.FLC_HIT_ADDR, R.FLC_ECC_ADDR, R.FLC_ECC_CNT] else []
    let queued := fun (op : FlashOp) (regs : List Nat) (u : State) => u.fg stat = 1 ∧ u.fg (F.FLC_RESs_CODE k) = 0 ∧ u.fg (F.FLC_RESs_STEPS k) = 0 ∧
      u.flc.queue = s.flc.queue ++ [⟨k, op, false, k, 0, false, false, false, false⟩] ∧ s.sameRegs u regs ∧ s.sameMem u
    (s.mayWrite who (R.FLC_CMDs k) → (k : Nat) ∈ [1, 2, 3, 4, 6] →
      (s.fg stat ≠ 1 →
        (s.busOk own true src 256 false = true → Gives (.flashProgram who k) s (queued (.program addr (s.bytes src 256)) (seen ++ mine))) ∧
        (s.busOk own true src 256 false = false → Gives (.flashProgram who k) s (fun u =>
          u.fg stat = 3 ∧ u.fg (F.FLC_RESs_CODE k) = 6 ∧ wBit (u.rd R.FLC_DONE) k = true ∧ u.fg F.FLC_EVT_REFUSED = 1 ∧ u.flc.queue = s.flc.queue ∧
          s.sameRegs u (R.FLC_DONE :: R.FLC_EVT :: seen ++ mine) ∧ s.sameMem u)) ∧
        (∀ b : Fin 128, addr = blockAddr b → Gives (.flashErase who k) s (queued (.erase b) mine)) ∧
        (∀ b : Fin 128, isFlash addr = true → blockOf addr = b → Gives (.flashQuery who k) s (fun u =>
          u.fg stat = 2 ∧ u.fg (F.FLC_RESs_CODE k) = 0 ∧ wBit (u.rd R.FLC_DONE) k = true ∧ u.rd (R.FLC_QCNTs k) = w32 ((s.blk b).count % 0x1000000) ∧
          wField (u.rd (R.FLC_QRYs k)) 6 0 = b ∧ ((s.blk b).ptr ≤ 256 → wField (u.rd (R.FLC_QRYs k)) 24 16 = (s.blk b).ptr) ∧
          ((s.blk b).suspect = true → (s.blk b).ptr ≤ 256 → wField (u.rd (R.FLC_QRYs k)) 31 30 = 3) ∧
          s.sameRegs u (R.FLC_DONE :: R.FLC_QRYs k :: R.FLC_QCNTs k :: mine) ∧ s.sameMem u)) ∧
        (isFlash addr = false → Gives (.flashQuery who k) s (fun u => u.fg stat = 3 ∧ u.fg (F.FLC_RESs_CODE k) = 1 ∧ s.sameMem u))) ∧
      (s.fg stat = 1 →
        (∀ i ∈ [Instr.flashProgram who k, .flashErase who k, .flashQuery who k], Gives i s (fun u =>
          u.fg (F.FLC_RESs_WERR k) = 1 ∧ u.flc = s.flc ∧ s.sameRegs u mine ∧ s.sameMem u)) ∧
        (Gives (.flashCancel who k v) s (fun u =>
          u.flc.queue = s.flc.queue.filter (fun c => c.req != (k : Nat)) ∧
          u.flc.ended = s.flc.ended ++ (s.flc.queue.filter (fun c => c.req == (k : Nat))).map (fun c => (c, 7)) ∧
          (∀ r, s.flc.running = some r → r.cmd.req = k → r.cmd.op.isErase = true → u.flc.running = some { r with cmd := { r.cmd with cancel := true } }) ∧
          (∀ r, s.flc.running = some r → (r.cmd.req ≠ k ∨ r.cmd.op.isErase = false) → u.flc.running = some r) ∧
          s.sameRegs u [R.FLC_CMDs k] ∧ s.sameMem u)))) ∧
    (s.flc.blocks.length = 128 →
      (∀ c a d, s.flc.running = some ⟨c, .program⟩ → c.op = .program a d → d.length = 256 → isFlash a = true → a % 256 = 0 →
        let b := blockOf a
        (s.blk b).suspect = false → s.flc.torn.contains (pageOf a) = false →
        Gives (.flashStepEnd .ok) s (fun u => u.bytes a 256 = d ∧ (∀ x, x < a ∨ a + 256 ≤ x → u.rb x = s.rb x) ∧
          (u.blk b).ptr = (s.blk b).ptr + 1 ∧ u.flc.ended = s.flc.ended ++ [({ c with steps := c.steps + 1 }, 0)] ∧ u.flc.running = none) ∧
        Gives (.flashStepEnd .fail) s (fun u => (∀ x, x < a ∨ a + 256 ≤ x → u.rb x = s.rb x) ∧ (u.blk b).ptr = (s.blk b).ptr + 1 ∧
          pageOf a ∈ u.flc.torn ∧ u.flc.ended = s.flc.ended ++ [({ c with steps := c.steps + 1 }, 8)] ∧ u.flc.running = none)) ∧
      (∀ c e (b : Fin 128), c.op = .erase b →
        (s.flc.running = some ⟨c, .jrnErase⟩ → c.cancel = false → s.flcMayStart = true → jrnLines ≤ s.jrn.lines.length → c.begun = false → c.verified = false →
          Gives (.flashStepEnd .ok) s (fun u => u.flc.running = some ⟨{ c with rolled := true }, .jrnSum⟩ ∧ u.info.jrnCur = s.info.jrnCur ∧ s.sameMem u)) ∧
        (s.flc.running = some ⟨c, .jrnSum⟩ → c.cancel = false → e ≠ .fail → Gives (.flashStepEnd e) s (fun u =>
          u.info.jrnCur = 1 - s.info.jrnCur ∧ u.jrn.lines = [] ∧ u.jrn.summary = some (s.flc.blocks.map (fun x => (x.suspect, x.count))) ∧ s.sameMem u)) ∧
        (s.flc.running = some ⟨c, .jrnBegin⟩ →
          (e ≠ .fail → (s.blk b).count ≠ 0xFFFFFF → Gives (.flashStepEnd e) s (fun u =>
            (u.blk b).suspect = true ∧ (u.blk b).count = (s.blk b).count + 1 ∧ (u.blk b).ptr = (s.blk b).ptr ∧ u.jrn.lines = s.jrn.lines ++ [⟨b, .begin, (s.blk b).count + 1⟩] ∧
            (∀ x, ¬ (blockAddr b ≤ x ∧ x < blockAddr (b + 1)) → u.rb x = s.rb x) ∧
            (c.cancel = false → u.flc.running = none ∧ u.flc.queue = { c with begun := true } :: s.flc.queue) ∧
            (c.cancel = true → u.flc.ended = s.flc.ended ++ [(c, 7)]))) ∧
          (e = .fail → Gives (.flashStepEnd e) s (fun u =>
            u.flc.ended = s.flc.ended ++ [(c, if c.cancel then 7 else 8)] ∧ u.flc.blocks = s.flc.blocks ∧ s.sameMem u))) ∧
        (s.flc.running = some ⟨c, .eraseStep⟩ →
          let c' := { c with steps := c.steps + 1 }
          (c.cancel = true → Gives (.flashStepEnd e) s (fun u => u.flc.ended = s.flc.ended ++ [(c', 7)] ∧ u.flc.blocks = s.flc.blocks ∧ s.sameMem u)) ∧
          (c.cancel = false →
            (s.flcMayStart = true → s.jrn.lines.length < jrnLines → Gives (.flashStepEnd .ok) s (fun u =>
              u.flc.running = some ⟨{ c' with verified := true }, .jrnEnd⟩ ∧ u.flc.blocks = s.flc.blocks ∧ s.sameMem u)) ∧
            (s.flcMayStart = false → Gives (.flashStepEnd .ok) s (fun u =>
              u.flc.running = none ∧ u.flc.queue = { c' with verified := true } :: s.flc.queue ∧ u.flc.blocks = s.flc.blocks ∧ s.sameMem u)) ∧
            Gives (.flashStepEnd .more) s (fun u => u.flc.running = none ∧ u.flc.queue = c' :: s.flc.queue ∧ u.flc.blocks = s.flc.blocks ∧ s.sameMem u) ∧
            Gives (.flashStepEnd .fail) s (fun u => u.flc.ended = s.flc.ended ++ [(c', 8)] ∧ u.flc.blocks = s.flc.blocks ∧ s.sameMem u))) ∧
        (s.flc.running = some ⟨c, .jrnEnd⟩ → (c.cancel = true ∨ e = .fail) → Gives (.flashStepEnd e) s (fun u =>
          u.flc.ended = s.flc.ended ++ [(c, if c.cancel then 7 else 8)] ∧ u.flc.blocks = s.flc.blocks ∧ s.sameMem u)) ∧
        (s.flc.running = some ⟨c, .jrnEnd⟩ → c.cancel = false → e ≠ .fail → Gives (.flashStepEnd e) s (fun u =>
          u.flc.ended = s.flc.ended ++ [(c, 0)] ∧ (u.blk b).ptr = 0 ∧ (u.blk b).suspect = false ∧ (u.blk b).count = (s.blk b).count ∧
          (∀ x, blockAddr b ≤ x → x < blockAddr (b + 1) → u.rb x = 0xFF) ∧
          (∀ x, ¬ (blockAddr b ≤ x ∧ x < blockAddr (b + 1)) → u.rb x = s.rb x))))) ∧
    (s.mayWrite who R.FLC_PAUSE → Gives (.flashPause who v) s (fun u =>
      u.flcPauseOf own = (wBit v 0, wBit v 1) ∧ (∀ o, o ≠ own → u.flcPauseOf o = s.flcPauseOf o) ∧ s.sameRegs u [] ∧ s.sameMem u)) ∧
    (∀ (id : Nat) (bank : Fin 2),
      let held := if (bank : Nat) = 0 then (s.flcPauseOf id).1 else (s.flcPauseOf id).2
      (held = true → Gives (.pauseExpiry id bank) s (fun u =>
        u.flcPauseOf id = (if (bank : Nat) = 0 then (false, (s.flcPauseOf id).2) else ((s.flcPauseOf id).1, false)) ∧
        u.fg F.FLC_EVT_PAUSE_EXP = 1 ∧ (∀ o, o ≠ id → u.flcPauseOf o = s.flcPauseOf o) ∧ s.sameRegs u [R.FLC_EVT] ∧ s.sameMem u)) ∧
      (held = false → Gives (.pauseExpiry id bank) s (fun u => u = s))) ∧
    (s.mayWrite who R.ASH_WR_CODE →
      let code := v.toNat % 0x10000
      let rate := (alGet s.ash.swRate own).getD (s.sec, 0)
      let data := fun i : Nat => (alGet s.ash.wrD (own, i)).getD 0
      (code < 0x8000 → Gives (.ashSoftwareRecord who v) s (fun u => u.fg F.ASH_EVT_WERR = 1 ∧ u.ash = s.ash ∧ s.sameRegs u [R.ASH_EVT] ∧ s.sameMem u)) ∧
      (0x8000 ≤ code → rate.1 = s.sec → 64 ≤ rate.2 → Gives (.ashSoftwareRecord who v) s (fun u =>
        u.ash.lostRate = s.ash.lostRate + 1 ∧ u.ash.buf = s.ash.buf ∧ u.ash.next = s.ash.next ∧ s.sameRegs u [R.ASH_LOST_CNT] ∧ s.sameMem u)) ∧
      (0x8000 ≤ code → ¬ (rate.1 = s.sec ∧ 64 ≤ rate.2) → s.ash.ready = false → Gives (.ashSoftwareRecord who v) s (fun u =>
        u.ash.late = s.ash.late ++ [⟨code, own, false, data 0, data 1, data 2⟩] ∧ u.ash.next = s.ash.next ∧ u.ash.buf = s.ash.buf ∧ s.sameRegs u [] ∧ s.sameMem u)) ∧
      (0x8000 ≤ code → ¬ (rate.1 = s.sec ∧ 64 ≤ rate.2) → s.ash.ready = true → s.ash.buf.length < 223 → s.ash.lostFull = 0 → s.ash.ended = false → s.ash.next < 0xFFFFFFFF →
        Gives (.ashSoftwareRecord who v) s (fun u => u.ash.next = s.ash.next + 1 ∧
          u.ash.buf = s.ash.buf ++ [⟨s.ash.next, s.rtc.wcMs, s.rtc.wcEpoch, code, own, if s.rtc.committed then 0 else 1, data 0, data 1, data 2⟩] ∧
          s.sameRegs u [] ∧ s.sameMem u))) ∧
    (s.mayWrite who R.ASH_FLUSH → s.ash.ready = true → s.ash.flush = none → s.ash.buf ≠ [] → s.pwr.entry = none → (s.blk s.ashActive).ptr < 256 →
      Gives (.ashFlush who) s (fun u =>
        u.fg F.ASH_STAT_FLUSHING = 1 ∧ u.ash.flush = some ⟨false, s.ash.buf.length, min 8 s.ash.buf.length⟩ ∧ u.ash.buf = s.ash.buf ∧
        u.flc.queue = s.flc.queue ++ [⟨reqAsh, .program (blockAddr s.ashActive + 0x100 * (s.blk s.ashActive).ptr) (ashPage (s.ash.buf.take 8)),
          false, 0, 0, false, false, false, false⟩] ∧ s.sameRegs u [R.ASH_STAT] ∧ s.sameMem u)) ∧
    (s.ash.ready = false → s.flc.ready = true → s.ash.wiped = false → s.ash.ctlOk = true → s.ash.ended = false → s.ash.next < 0xFFFF0000 →
      s.ash.buf.length + s.ash.late.length < 200 → s.ash.clr = none → Gives .ashRebuild s (fun u =>
        u.ash.ready = true ∧ u.fg F.ASH_STAT_READY = 1 ∧ u.ash.late = [] ∧ (s.ash.buf ≠ [] ∨ s.ash.late ≠ [] → u.fg F.ASH_STAT_FLUSHING = 1) ∧
        s.sameMem u ∧ ∃ r ∈ u.ash.buf, r.code = 1 ∧ r.src = 0xFF ∧ r.flags / 2 = 1 ∧ r.d0 = s.rd R.RST_CAUSE ∧ r.d1 = s.rd R.RST_HIST ∧
          r.d2 = s.rd R.RST_DEFER)) ∧
    (s.mayWrite who R.ASH_CLR_CMD → s.csOk .ashClr own true = true →
      let token := s.lcsArg own (s.secure who) (s.rd R.ASH_CLR_TOKEN).toNat 192
      let code := s.tokenCheck token 6 zeroArg
      let refused := fun (n : Nat) (u : State) => u.fg CsId.ashClr.state = 3 ∧ u.fg CsId.ashClr.code = n ∧ u.ash = s.ash ∧ s.sameMem u
      (s.ash.clr.isSome = true → Gives (.ashClear who) s (refused 1)) ∧
      (s.ash.clr = none → s.uLow = true → Gives (.ashClear who) s (refused 5)) ∧
      (s.ash.clr = none → s.uLow = false → 0 < code → code < 16 → Gives (.ashClear who) s (refused code)) ∧
      (s.ash.clr = none → s.uLow = false → code = 0 → s.ash.ready = false → Gives (.ashClear who) s (fun u =>
        u.fg CsId.ashClr.state = 1 ∧ u.fg F.ASH_STAT_CLEARING = 1 ∧ u.ash = { s.ash with clr := some ⟨own, false, 0, false, false, true⟩ } ∧ s.sameMem u)) ∧
      (s.ash.clr = none → s.uLow = false → code = 0 → s.ash.ready = true → s.ash.lostFull = 0 → s.ash.ended = false → s.ash.next < 0xFFFFFFFF → Gives (.ashClear who) s (fun u =>
        u.fg CsId.ashClr.state = 1 ∧ u.fg F.ASH_STAT_CLEARING = 1 ∧ u.ash.clr = some ⟨own, false, s.ash.next, false, false, false⟩ ∧ u.ash.next = s.ash.next + 1 ∧
        u.ash.oldest = s.ash.oldest ∧ s.sameMem u ∧
        ∃ r, u.ash.buf = [r] ∧ r.seq = s.ash.next ∧ r.code = 6 ∧ r.d0 = w32 s.ash.oldest ∧ r.d1 = w32 own))) ∧
    (s.mayWrite who R.ASH_RD_SEQ → s.csOk .ashRd own true = true → Gives (.ashReadRequest who v) s (fun u =>
      u.fg CsId.ashRd.state = 1 ∧ u.fg CsId.ashRd.writer = own ∧ u.ash.readReq = some v.toNat ∧ u.ash.buf = s.ash.buf ∧ s.sameMem u)) ∧
    (∀ q, s.ash.readReq = some q → s.ash.ready = true → Gives .ashReadDone s (fun u =>
      u.fg CsId.ashRd.state = 2 ∧ u.ash.readReq = none ∧ s.sameMem u ∧
      (q < s.ash.oldest → u.fg F.ASH_RD_STAT_RESULT = 1) ∧
      (s.ash.oldest ≤ q → s.ash.next ≤ q → u.fg F.ASH_RD_STAT_RESULT = 2) ∧
      (s.ash.oldest ≤ q → q < s.ash.next → s.ashFind q = none → u.fg F.ASH_RD_STAT_RESULT = 3) ∧
      (∀ o, s.ash.oldest ≤ q → q < s.ash.next → s.ashFind q = some o → u.fg F.ASH_RD_STAT_RESULT = 0 ∧
        ∀ i : Fin 8, u.rd (R.ASH_RDn i) = w32 (ofLe ((o.drop (4 * i)).take 4)))))

/-- UPD_BEGIN, UPD_RESUME, UPD_WRITE, UPD_END, UPD_INSTALL, UPD_ABORT, UPD_LOCK, UPD_IDLE_TIMEOUT, and PK_STEP_END for the engine's check (R342, R354-R361,
R366, R375-R377). DENIED for an unreadable source or a failed token, and code 0 of an ABORT, are the model's readings (log 68, DEDUCED), as is what becomes
of an aborted check and which flash commands an ABORT takes back (log 93, DEDUCED). -/
def Obligations.UpdateStream : Prop :=
  ∀ (s : State) (who : Initiator) (v : Word),
    let own := s.owner who
    let st := s.uState
    let res := fun (code : Nat) (u : State) => u.fg CsId.upd.state = (if code = 0 then 2 else 3) ∧ u.fg CsId.upd.code = code ∧
      u.fg F.UPD_EVT_DONE = 1 ∧ s.sameMem u
    let ends := fun (code : Nat) (u : State) => res code u ∧ u.uState = st ∧ u.flc.queue = s.flc.queue
    let runs := fun (u : State) => u.fg CsId.upd.state = 1 ∧ u.fg CsId.upd.code = 0 ∧ u.fg CsId.upd.writer = own ∧ s.sameMem u
    let queued := fun (op : FlashOp) (tag : Nat) (u : State) => runs u ∧ u.flc.queue = s.flc.queue ++ [⟨reqUpd, op, false, tag, 0, false, false, false, false⟩]
    let kind := wField v 16 16
    let t := if kind = 0 then s.imageTarget else s.configTarget
    let blocks := if kind = 0 then unitBlocks t else [10 + t]
    let holds := fun (w : UpdWait) (u : State) => runs u ∧ u.upd.held = s.upd.held ++ [w] ∧ u.uState = st ∧ u.flc.queue = s.flc.queue
    let back := fun (code : Nat) (x : State) => res code x ∧ x.uState = uReceiving ∧ x.flc.queue = s.flc.queue
    let judged := fun (i : Instr) (more : State → Prop) =>
      (s.uKind = 0 →
        let u := s.uTarget
        let fits := s.hdrOk u = true ∧ s.lengthsOk u = true ∧ s.unitProgrammed u = true
        let signed := s.fb F.LCS_STATE_OWNER_SET = true → s.imageCheck u (unitSlot u) (unitSlot u + s.hdr u 0x14) = 0
        let newer := s.hrt.cfg.upd.downgrade = true ∨ s.fb F.FLC_PROT_NONE = true ∨ s.hdr (s.fg F.FLC_PROT_UNIT) 4 < s.hdr u 4
        (¬ fits → Gives i s (fun x => back 8 x ∧ more x)) ∧
        (fits → ¬ signed → Gives i s (fun x => back 9 x ∧ more x)) ∧
        (fits → signed → ¬ newer → Gives i s (fun x => back 10 x ∧ more x)) ∧
        (fits → signed → newer → Gives i s (fun x => (res 0 x ∧ x.uState = uVerified ∧ x.flc.queue = s.flc.queue) ∧ more x))) ∧
      (s.uKind ≠ 0 → s.configFormat = false → Gives i s (fun x => back 8 x ∧ more x))
    (s.mayWrite who R.UPD_CMD → s.csOk .upd own true = true →
      -- operations that read flash where a step runs
      (∀ p ∈ [(1, Instr.updBegin who v), (2, .updResume who v), (6, .updInstall who v)], s.uOpWaits p.1 kind = true →
        Gives p.2 s (holds (.op own p.1 kind))) ∧
      -- BEGIN and RESUME
      (s.uOpWaits 1 kind = false →
      (st ≠ uIdle → st ≠ uVerified → Gives (.updBegin who v) s (ends 4)) ∧
      (st ≠ uIdle → Gives (.updResume who v) s (ends 4)) ∧
      (st = uIdle ∨ st = uVerified → s.uRefusal ≠ 0 → Gives (.updBegin who v) s (ends s.uRefusal)) ∧
      (st = uIdle → s.uRefusal ≠ 0 → Gives (.updResume who v) s (ends s.uRefusal)) ∧
      (st = uIdle ∨ st = uVerified → s.uRefusal = 0 → Gives (.updBegin who v) s (fun u =>
        queued (.erase (blocks.headD 0)) tErase u ∧ u.uState = uErasing ∧ u.uKind = kind ∧ u.uTarget = t ∧ u.upd.erase = blocks.tail ∧
        u.upd.who = own ∧ u.upd.keep = true)) ∧
      (st = uIdle → s.uRefusal = 0 →
        let run := if blocks.any (fun b => (s.blk b).suspect) then none else runPages (blocks.map (fun b => (s.blk b).ptr))
        (run = none → Gives (.updResume who v) s (ends 8)) ∧
        (∀ n, run = some n → 256 * n < 0x100000 → Gives (.updResume who v) s (fun u =>
          res 0 u ∧ u.uState = uReceiving ∧ u.fg F.UPD_NEXT_NEXT = 256 * n ∧ u.uKind = kind ∧ u.uTarget = t ∧ u.flc.queue = s.flc.queue)))) ∧
      -- WRITE and END
      (st ≠ uReceiving → ∀ i ∈ [Instr.updWrite who v, .updEnd who v], Gives i s (ends 4)) ∧
      (st = uReceiving → s.uLow = true → ∀ i ∈ [Instr.updWrite who v, .updEnd who v], Gives i s (ends 2)) ∧
      (st = uReceiving → s.uLow = false →
        let src := (s.rd R.UPD_SRC).toNat
        let o := s.fg F.UPD_OFF_OFF
        let n := s.fg F.UPD_LEN_LEN
        let next := s.fg F.UPD_NEXT_NEXT
        let formed := o % 256 = 0 ∧ n % 256 = 0 ∧ 256 ≤ n ∧ n ≤ 4096 ∧ o + n ≤ (if s.uKind = 0 then 655360 else 65280)
        let readable := fun i : Nat => s.memOk own true (src + 256 * i) 256 false = true ∧ ∃ b, regionOf (src + 256 * i) = .sram b
        (¬ formed → Gives (.updWrite who v) s (ends 8)) ∧
        (formed → next < o → Gives (.updWrite who v) s (ends 5)) ∧
        (formed → o ≤ next → (∃ i, i < n / 256 ∧ ¬ readable i) → Gives (.updWrite who v) s (ends 15)) ∧
        (formed → o ≤ next → (∀ i, i < n / 256 → readable i) →
          let below := min n (next - o)
          let waits := 0 < below ∧ s.bankBusy (blockOf (s.uAddr o) / 64) = true
          (waits → Gives (.updWrite who v) s (holds .write)) ∧
          (¬ waits → s.bytes src below ≠ s.bytes (s.uAddr o) below → Gives (.updWrite who v) s (ends 6)) ∧
          (¬ waits → s.bytes src n = s.bytes (s.uAddr o) n → o + n ≤ next → Gives (.updWrite who v) s (ends 0)) ∧
          (o = next → Gives (.updWrite who v) s (fun u => queued (.program (s.uAddr o) (s.bytes src 256)) tWrite u ∧ u.uState = st ∧
            u.upd.wrOff = o + 256 ∧ u.upd.wrEnd = o + n)))) ∧
      (st = uReceiving → s.uLow = false →
        let checking := fun (u : State) => runs u ∧ u.uState = uVerifying ∧ u.flc.queue = s.flc.queue
        (s.uBankBusy = true ∨ (s.uSigned = true ∧ s.pkFree = none) → Gives (.updEnd who v) s (fun u => checking u ∧ u.upd.verifyWait = true)) ∧
        (s.uBankBusy = false → s.uSigned = false → judged (.updEnd who v) (fun x => x.upd.ctx = s.upd.ctx)) ∧
        (∀ c, s.uBankBusy = false → s.uSigned = true → s.pkFree = some c → s.vlt.pk.length = 2 → Gives (.updEnd who v) s (fun u =>
          checking u ∧ u.upd.verifyWait = false ∧ u.upd.ctx = some c ∧ u.fg (CsId.pk c).writer = own ∧ u.fg (CsId.pk c).state = 1 ∧
          (u.pkJob c).map (fun j => j.who) = some own ∧ (s.pwr.entry = none → u.vlt.pkStep = true)))) ∧
      -- INSTALL
      (s.uOpWaits 6 kind = false → st ≠ uVerified ∨ s.uKind ≠ 0 ∨ (s.coreA.pilot = false ∧ s.seg1 s.uTarget = false) → Gives (.updInstall who v) s (ends 4)) ∧
      (s.uOpWaits 6 kind = false → st = uVerified → s.uKind = 0 → (s.coreA.pilot = true ∨ s.seg1 s.uTarget = true) →
        (s.uRefusal ≠ 0 → Gives (.updInstall who v) s (ends s.uRefusal)) ∧
        (s.uRefusal = 0 → (if s.selSector = 0 then s.info.sel0 else s.info.sel1).length < 16 → Gives (.updInstall who v) s (fun u =>
          queued (.selProgram s.selSector ⟨(s.selCurrent.map (fun p => p.2.seq + 1)).getD 1, s.uTarget, s.genOld⟩) tSelect u ∧ u.upd.install = true ∧
          u.uState = st)) ∧
        (s.uRefusal = 0 → 16 ≤ (if s.selSector = 0 then s.info.sel0 else s.info.sel1).length → Gives (.updInstall who v) s (fun u =>
          queued (.selErase s.selSector) tSelect u ∧ u.upd.install = true ∧ u.uState = st))) ∧
      -- LOCK
      (let tok := if s.memOk own true (s.rd R.UPD_TOKEN).toNat 192 false then s.bytes (s.rd R.UPD_TOKEN).toNat 192 else []
        let x := nth tok 0x20 0
        let good := (x = 0 ∨ x = 1) ∧ s.tokenCheck tok 5 (x :: List.replicate 31 0) = 0
        (¬ good → Gives (.updLock who v) s (ends 15)) ∧
        (good → Gives (.updLock who v) s (fun u => runs u ∧ u.upd.lock = some (decide (x = 1)) ∧ u.fb F.UPD_STAT_OWNER_LOCK = s.fb F.UPD_STAT_OWNER_LOCK ∧
          (s.bankBusy 0 = true → u.upd.held = s.upd.held ++ [.lock] ∧ u.flc.queue = s.flc.queue) ∧
          (s.bankBusy 0 = false → ∃ op, u.flc.queue = s.flc.queue ++ [⟨reqUpd, op, false, tLock, 0, false, false, false, false⟩]))))) ∧
    -- the last step of END's check
    (∀ c j, s.upd.ctx = some c → st = uVerifying → s.vlt.pkStep = true → s.vlt.pkLast = c → s.vlt.pk.length = 2 → c < 2 → s.pkJob c = some j → s.pkWaits c j = false →
      let free := fun u : State => u.upd.ctx = none ∧ u.pkJob c = none ∧ u.fg (CsId.pk c).writer = ownNone ∧ u.fg (CsId.pk c).state = 0
      (j.abortReq = true → Gives .pkStepEnd s (fun u => back 9 u ∧ free u)) ∧
      (j.abortReq = false → s.fg (F.VLT_PK_PROGc_LO c) ≤ s.fg (F.VLT_PK_PROGc_HI c) + 1 → s.fg (F.VLT_PK_PROGc_HI c) + 1 < 65536 → judged .pkStepEnd free)) ∧
    -- ABORT
    (s.mayWrite who R.UPD_CMD → s.csOk .upd own true = true ∨ s.fg CsId.upd.writer = own ∨ (s.uShadowing = true ∧ own = s.uOld.owner) →
      (st = uIdle ∨ uImport < st → Gives (.updAbort who v) s (ends 4)) ∧
      (uErasing ≤ st → st ≤ uVerified → Gives (.updAbort who v) s (fun u => res 0 u ∧ u.uState = uIdle ∧
        (∀ c ∈ u.flc.queue, c.ofStream = false) ∧ (∀ c, c.ofStream = false → (c ∈ u.flc.queue ↔ c ∈ s.flc.queue)) ∧ (∀ w ∈ u.upd.held, w ≠ .write ∧ ∀ o p k, w ≠ .op o p k) ∧
        (∀ c j, s.upd.ctx = some c → s.pkJob c = some j → (u.pkJob c).map (fun j => j.abortReq) = some true))) ∧
      (uLoading ≤ st → st ≤ uImport → Gives (.updAbort who v) s (fun u => u.uState = uVerified ∧ u.fg F.UPD_EVT_DECLINED = 1 ∧
        u.fg CsId.upd.code = 0 ∧ (u.core s.uNew).held = true))) ∧
    (s.upd.keep = false → Gives .updIdleTimeout s (fun u => u = s)) ∧
    (s.upd.keep = true → uErasing ≤ st → st ≤ uVerified → Gives .updIdleTimeout s (fun u => res 12 u ∧ u.uState = uIdle))

/-- UPD_START, SHADOW_LOAD_DONE, HANDOVER_ASK, HANDOVER_EXPORTED, HANDOVER_ACCEPT, HANDOVER_DECLINE, HANDOVER_TIMEOUT, SWAP_BLOCKED, UPD_COMMIT,
UPD_ROLLBACK, PROBATION_EXPIRY, COMMIT_RETRY (R356, R362-R374, Tables 12-5 to 12-7). That COMMIT and ROLLBACK end OK when they are accepted and the code
DENIED are the model's readings (log 68, DEDUCED); how long a bit of UPD_HAND reads 1 is its choice (log 93, DESIGN CHOICE). -/
def Obligations.ShadowAndHandover : Prop :=
  ∀ (s : State) (who : Initiator) (v : Word),
    let own := s.owner who
    let st := s.uState
    let new := s.uNew
    let old := s.uOld
    let wiped := fun (c : CoreId) (u : State) => ∀ a, partBase c ≤ a → a < partBase c + 0x80000 → u.rb a = 0
    let ends := fun (code : Nat) (u : State) => u.fg CsId.upd.state = (if code = 0 then 2 else 3) ∧ u.fg CsId.upd.code = code ∧ u.uState = st ∧
      u.flc.queue = s.flc.queue ∧ s.sameMem u
    let declined := fun (code : Nat) (u : State) => u.uState = uVerified ∧ u.fg F.UPD_EVT_DECLINED = 1 ∧ u.fg CsId.upd.code = code ∧
      (u.core new).held = true ∧ (u.core new).started = false ∧ wiped new u ∧ (∀ q : Fin 32, s.fg (F.HRT_Qn_CFG_OWNER q) = old.owner → u.fg (F.HRT_Qn_CFG_OWNER q) = old.owner)
    let swapped := fun (u : State) => u.uState = uProbation ∧ (u.core old).parked = true ∧ u.fg F.UPD_EVT_SWAPPED = 1 ∧
      u.rd R.UPD_PROB_LEFT = w32 s.hrt.cfg.upd.probTime ∧ s.sameMem u ∧
      (∀ q : Fin 32, u.fg (F.HRT_Qn_CFG_OWNER q) = if s.fg (F.HRT_Qn_CFG_OWNER q) = old.owner then new.owner else s.fg (F.HRT_Qn_CFG_OWNER q)) ∧
      (∀ c : Fin 48, u.fg (F.FLU_CHc_CFG_OWNER c) = if s.fg (F.FLU_CHc_CFG_OWNER c) = old.owner then new.owner else s.fg (F.FLU_CHc_CFG_OWNER c)) ∧
      u.hrt.bufHolder = s.hrt.bufHolder.map (fun x => if x = old.owner then new.owner else x)
    let selected := fun (u : State) => ∃ op, u.flc.queue = s.flc.queue ++ [⟨reqUpd, op, false, tSelect, 0, false, false, false, false⟩] ∧
      (op = .selErase s.selSector ∨ op = .selProgram s.selSector ⟨(s.selCurrent.map (fun p => p.2.seq + 1)).getD 1, s.uTarget, (s.rd R.UPD_GEN_NEW).toNat⟩)
    let committing := fun (u : State) => s.sameMem u ∧ (s.uLow = true → u.fg F.UPD_STAT_COMMIT_WAIT = 1 ∧ u.uState = st ∧ u.flc.queue = s.flc.queue) ∧
      (s.uLow = false → u.fg F.UPD_STAT_COMMIT_WAIT = 0 ∧ u.uState = uCommit ∧ selected u)
    let hand := fun (i : Instr) (bit : Nat) (c : CoreId) (from' : Nat) (P : State → Prop) =>
      (¬ (s.uShadowing = true ∧ own = c.owner) → Gives i s (fun u => u.fg F.UPD_RES_WERR = 1 ∧ s.sameRegs u [R.UPD_RES] ∧ s.sameMem u)) ∧
      (s.uShadowing = true → own = c.owner → st ≠ from' → Gives i s (fun u => u.rbit R.UPD_HAND bit = true ∧ s.sameRegs u [R.UPD_HAND] ∧ s.sameMem u)) ∧
      (s.uShadowing = true → own = c.owner → st = from' → Gives i s (fun u => u.rbit R.UPD_HAND bit = true ∧ P u))
    (s.mayWrite who R.UPD_CMD → s.csOk .upd own true = true →
      (s.uOpWaits 5 0 = true → Gives (.updStart who v) s (fun u => u.fg CsId.upd.state = 1 ∧ u.uState = st ∧ s.sameMem u ∧
        u.upd.held = s.upd.held ++ [.op own 5 (wField v 16 16)])) ∧
      (s.uOpWaits 5 0 = false →
        let c := s.idleCore
        let run := s.core c.other
        let m := s.hrt.cfg.upd.mbox
        let two := s.seg1 (s.fg F.FLC_PROT_UNIT) = true ∨ s.seg1 s.uTarget = true
        let right := st = uVerified ∧ s.uKind = 0 ∧ run.started = true ∧ run.pilot = false
        let g := ((highest (s.gens.map (fun p => p.1))).map (fun n => n + 1)).getD 1
        (¬ right → Gives (.updStart who v) s (ends 4)) ∧
        (right → two → Gives (.updStart who v) s (ends 11)) ∧
        (right → ¬ two → (s.core c).held = false → Gives (.updStart who v) s (ends 4)) ∧
        (right → ¬ two → (s.core c).held = true → s.uRefusal ≠ 0 → Gives (.updStart who v) s (ends s.uRefusal)) ∧
        (right → ¬ two → (s.core c).held = true → s.uRefusal = 0 → 0x20100000 ≤ m → m ≤ 0x2016FF00 → Gives (.updStart who v) s (fun u =>
          u.uState = uLoading ∧ u.uNew = c ∧ u.rd R.UPD_HAND = 0 ∧ u.fg CsId.upd.state = 1 ∧ u.rd R.UPD_GEN_NEW = w32 g ∧ wiped c u ∧ u.lw m = 0x4B480001 ∧
          u.lw (m + 8) = w32 (s.hdr s.uTarget 4) ∧ u.lw (m + 0x18) = w32 g ∧ (∀ k, 0x1C ≤ k → k < 0x100 → u.rb (m + k) = 0)))) ∧
      (st ≠ uProbation → ∀ i ∈ [Instr.updCommit who v, .updRollback who v], Gives i s (ends 4)) ∧
      (st = uProbation → own ≠ new.owner → own ≠ ownSvc → ∀ i ∈ [Instr.updCommit who v, .updRollback who v], Gives i s (ends 15)) ∧
      (st = uProbation → own = new.owner ∨ own = ownSvc →
        Gives (.updCommit who v) s (fun u => committing u ∧ u.fg CsId.upd.code = 0 ∧ u.fg CsId.upd.state = 2) ∧
        (s.noBoundary = false → Gives (.updRollback who v) s (fun u => u.uState = uRollback ∧ (u.core new).held = true ∧ (u.core new).started = false ∧
          (u.core old).parked = (s.core old).parked ∧ u.upd.cause = 1 ∧ s.sameMem u)) ∧
        (s.noBoundary = true → Gives (.updRollback who v) s (fun u => u.uState = uVerified ∧ (u.core new).held = true ∧ wiped new u ∧
          (u.core old).parked = false ∧ u.fg F.UPD_EVT_ROLLED_BACK = 1 ∧ u.rd R.UPD_PROB_LEFT = 0 ∧
          ∀ q : Fin 32, s.fg (F.HRT_Qn_CFG_OWNER q) = new.owner → u.fg (F.HRT_Qn_CFG_OWNER q) = old.owner)))) ∧
    (st ≠ uLoading ∨ s.bankBusy s.uTarget = true → Gives .shadowLoadDone s (fun u => u = s)) ∧
    (st = uLoading → s.bankBusy s.uTarget = false →
      let x := s.uTarget
      let len := s.hdr x 0x0C
      len ≤ 0x80000 →
        (sha256 (s.bytes (unitSlot x) len) = s.bytes (unitHdr x + 0x20) 32 → Gives .shadowLoadDone s (fun u =>
          u.uState = uShadow ∧ (u.core new).started = true ∧ (u.core new).held = false ∧ (u.core new).entry = partBase new + s.hdr x 0x10 ∧
          u.rbit (wdtCfg new) 31 = true ∧ u.rd (wdtCfg new + 8) = 0x10000 ∧ u.fg CsId.upd.state = 2 ∧ u.fg CsId.upd.code = 0 ∧
          (∀ k, k < len → u.rb (partBase new + k) = s.rb (unitSlot x + k)))) ∧
        (sha256 (s.bytes (unitSlot x) len) ≠ s.bytes (unitHdr x + 0x20) 32 → Gives .shadowLoadDone s (declined 9))) ∧
    (s.mayWrite who R.UPD_HAND →
      hand (.handoverAsk who) 0 new uShadow (fun u => u.uState = uExport ∧ u.fg F.UPD_EVT_ASK = 1 ∧ s.sameRegs u [R.UPD_STAT, R.UPD_EVT, R.UPD_HAND] ∧ s.sameMem u) ∧
      hand (.handoverExported who) 1 old uExport (fun u => u.uState = uImport ∧ u.fg F.UPD_EVT_EXPORTED = 1 ∧
        (s.bankBusy 0 = true → u.upd.held = s.upd.held ++ [.exported]) ∧
        (s.bankBusy 0 = false → u.flc.frozen = s.genBlocks s.genOld ∧ u.fg F.UPD_STAT_FROZEN = b2n (!(s.genBlocks s.genOld).isEmpty)) ∧
        s.sameRegs u [R.UPD_STAT, R.UPD_EVT, R.UPD_HAND] ∧ s.sameMem u) ∧
      hand (.handoverDecline who) 3 new uImport (declined 13) ∧
      hand (.handoverAccept who) 2 new uImport (fun u =>
        (s.noBoundary = false → u.uState = uSwap ∧ s.sameRegs u [R.UPD_STAT, R.UPD_HAND] ∧ s.sameMem u) ∧
        (s.noBoundary = true → s.uRefusal ≠ 0 → declined s.uRefusal u) ∧
        (s.noBoundary = true → s.uRefusal = 0 → s.ownBusy old = true → u.uState = uSwap ∧ s.sameRegs u [R.UPD_STAT, R.UPD_HAND] ∧ s.sameMem u) ∧
        (s.noBoundary = true → s.uRefusal = 0 → s.ownBusy old = false → swapped u))) ∧
    (st = uExport ∨ st = uImport → Gives .handoverTimeout s (declined 12)) ∧
    (st ≠ uExport → st ≠ uImport → Gives .handoverTimeout s (fun u => u = s)) ∧
    (st = uSwap → Gives .swapBlocked s (declined 14)) ∧
    (st ≠ uSwap → Gives .swapBlocked s (fun u => u = s)) ∧
    (st = uProbation → s.rd R.UPD_PROB_LEFT = 0 → s.fb F.UPD_STAT_COMMIT_WAIT = false → Gives .probationExpiry s committing) ∧
    (st ≠ uProbation → Gives .probationExpiry s (fun u => u = s)) ∧
    (st = uProbation → s.fb F.UPD_STAT_COMMIT_WAIT = true → Gives .commitRetry s committing) ∧
    (st = uCommit → (∀ c ∈ s.flc.queue, c.tag ≠ tSelect) → (∀ r, s.flc.running = some r ∨ s.flc.suspended = some r → r.cmd.tag ≠ tSelect) → Gives .commitRetry s (fun u => u.uState = st ∧ selected u ∧ s.sameMem u))

/-- PILOT_STATUS to PILOT_ASH_READ (R381-R384, Tables 12-9, 12-10). The layout of a cache entry is the model's choice (log 69, DESIGN CHOICE). -/
def Obligations.PilotRequests : Prop :=
  ∀ (s : State),
    let cmds := [Instr.pilotStatus, .pilotLamp, .pilotReboot, .pilotImgBegin, .pilotImgWrite, .pilotImgEnd, .pilotImgInstall, .pilotAshRead]
    (s.pilotHead = none → ∀ i ∈ cmds, Gives i s (fun u => u = s)) ∧
    (∀ k, s.pilotHead = some k →
      let o := s.bytes (bufAddr (s.mg (D.BUF 31 (k % 64))) + 64) (s.mg (D.LEN 31 (k % 64)))
      let m := parseMhr o
      let msg := s.pilotParse (o.drop (payOff m o))
      let taken := fun u : State => u.fg (F.HRT_Qn_RECL_IDX 31) = (k + 1) % 128
      (∀ x, msg = some x → x.ok = false ∨ m.sec = false → ∀ i ∈ cmds, Gives i s (fun u => u.pil.drops = s.pil.drops + 1 ∧ u.pil.wait = none ∧ u.upd = s.upd ∧ taken u ∧ s.sameMem u)) ∧
      (∀ x, msg = some x → x.ok = true → m.sec = true → s.mg (D.CODE 31 (k % 64)) = 0 → s.lifeCycle ≠ lcRetired →
        let kept := fun (body : List Byte) (u : State) =>
          let e := pilEntry (s.pilTake x.origin)
          u.ld e 2 = x.origin ∧ u.ld (e + 2) 4 = x.txn ∧ u.ld (e + 6) 2 = body.length ∧ u.bytes (e + 8) body.length = body ∧ u.pil.wait = none ∧ taken u
        let waits := fun (on : WaitOn) (u : State) => (u.pil.wait.map (fun r => r.on)) = some on ∧ (u.pil.wait.map (fun r => r.txn)) = some x.txn ∧ taken u ∧ s.sameMem u
        let gives := fun (op kind : Nat) (u : State) => u.fg CsId.upd.writer = ownPilot ∧ u.fg F.UPD_CMD_OP = op ∧ u.fg F.UPD_CMD_KIND = kind
        (s.pilFind x.origin = none →
          (x.kind = 1 → x.body = [] → Gives .pilotStatus s (kept (0 :: s.statusBody))) ∧
          (x.kind = 2 → x.body.length = 3 → oct x.body 0 = 255 → 255 ≤ oct x.body 1 → 255 ≤ oct x.body 2 → Gives .pilotLamp s (kept (0 :: s.lampState))) ∧
          (x.kind = 2 → x.body.length = 3 → Gives .pilotLamp s (fun u => kept (0 :: u.lampState) u)) ∧
          (x.kind = 3 → x.body.length = 1 → Gives .pilotReboot s (fun u => kept [0] u ∧ u.fg F.UPD_BOOTFAIL_COUNT = 0 ∧
            (u.pil.reset.map (fun p => p.1)) = some (oct x.body 0 % 2 == 1))) ∧
          (s.csOk .upd ownPilot true = true →
            (x.kind = 4 → x.body.length = 1 → Gives .pilotImgBegin s (fun u => waits (.pilUpd 4) u ∧
              gives (if oct x.body 0 % 2 = 1 then 2 else 1) (oct x.body 0 / 2 % 2) u ∧
              (oct x.body 0 % 2 = 0 → s.uOpWaits 1 (oct x.body 0 / 2 % 2) = false → s.uState = uIdle → s.uRefusal = 0 → u.uState = uErasing))) ∧
            (x.kind = 5 → 260 ≤ x.body.length → x.body.length ≤ 1540 → Gives .pilotImgWrite s (fun u => waits (.pilUpd 5) u ∧ gives 3 s.uKind u ∧
              u.fg F.UPD_LEN_LEN = x.body.length - 4 ∧ u.upd.data = x.body.drop 4)) ∧
            (x.kind = 6 → x.body = [] → Gives .pilotImgEnd s (fun u => waits (.pilUpd 6) u ∧ gives 4 s.uKind u ∧
              (s.uState = uReceiving → s.uLow = false → s.uBankBusy = true ∨ s.uSigned = true → u.uState = uVerifying))) ∧
            (x.kind = 7 → x.body = [] → Gives .pilotImgInstall s (fun u => waits (.pilUpd 7) u ∧ gives 6 s.uKind u ∧
              (s.uState = uVerified → s.uKind = 0 → s.bankBusy s.uTarget = false → s.coreA.pilot = true → s.uRefusal = 0 → u.upd.install = true)))) ∧
          (s.csOk .ashRd ownPilot true = true → x.kind = 8 → x.body.length = 5 → 1 ≤ oct x.body 4 → oct x.body 4 ≤ 40 → Gives .pilotAshRead s (fun u =>
            waits (.pilAsh (octs x.body 0 4) (oct x.body 4) []) u ∧ u.ash.readReq = some (octs x.body 0 4)))) ∧
        (∀ e i, s.pilFind x.origin = some e → s.ld (pilEntry e + 2) 4 = x.txn → (cmds[x.kind - 1]? = some i) → 1 ≤ x.kind →
          Gives i s (fun u => u.upd = s.upd ∧ u.pil.wait = none ∧ taken u ∧ u.ash = s.ash))))

/-- DALI_SEND to MOTION_REPORT_WRITE (R15, R426-R436, R443, Table 15-1). -/
def Obligations.LampOutputs : Prop :=
  ∀ (s : State) (who : Initiator) (v : Word) (r : Fin 2),
    let emits := fun (c : Nat) (u : State) => ∃ h, u.flue.events = s.flue.events ++ [⟨c, h⟩]
    let busy := s.fg F.LUM_DALI_RES_STATE = 1
    let expect := wBit s.per.dali.fwd 31 = true
    let up := s.fb F.LUM_STAT_BUS_UP = true
    let on := s.pwr.state = .run
    let fwd := s.rd R.LUM_DALI_FWD
    let bits := if wBit fwd 28 then 24 else 16
    let twice := s.per.dali.tx.any (fun x => decide (2 ≤ x.left)) = true
    let only := fun (l : List Nat) (u : State) => s.sameRegs u l ∧ s.sameMem u
    let ends := fun (code back : Nat) (l : List Nat) (u : State) => u.fg F.LUM_DALI_RES_STATE = (if code ≤ 3 then 2 else 3) ∧
      u.fg F.LUM_DALI_RES_CODE = code ∧ u.fg F.LUM_DALI_RES_BACK = back ∧ u.fg F.LUM_EVT_DALI_TXDONE = 1 ∧ emits 0x91 u ∧
      only (R.LUM_DALI_RES :: R.LUM_EVT :: l) u
    (s.mayWrite who R.LUM_DALI_CTL →
      (busy → Gives (.daliSend who) s (fun u => u.fg F.LUM_EVT_WERR = 1 ∧ u.per = s.per ∧ only [R.LUM_EVT] u)) ∧
      (¬ busy → s.fb F.LUM_DALI_CFG_EN = false → Gives (.daliSend who) s (fun u => u.per = s.per ∧ only [] u)) ∧
      (¬ busy → s.fb F.LUM_DALI_CFG_EN = true → ¬ up → Gives (.daliSend who) s (ends 5 0 [])) ∧
      (¬ busy → s.fb F.LUM_DALI_CFG_EN = true → up → Gives (.daliSend who) s (fun u => u.fg F.LUM_DALI_RES_STATE = 1 ∧
        u.per.dali.fwd = fwd ∧ u.per.dali.tx = some ⟨bits, wField fwd 23 0 % 2 ^ bits, s.fg F.LUM_DALI_CFG_PRIO, if wBit fwd 30 then 2 else 1⟩ ∧ u.per.dali.tries = 0 ∧ u.per.dali.abort = false ∧ only [R.LUM_DALI_RES] u)) ∧
      (busy → Gives (.daliAbort who) s (fun u => u.per.dali.abort = true ∧ only [] u)) ∧
      (¬ busy → Gives (.daliAbort who) s (fun u => u.per = s.per ∧ only [] u)) ∧
      Gives (.daliRxPop who) s (fun u => u.per.dali.rx = s.per.dali.rx.drop 1 ∧ u.per.dali.fwd = s.per.dali.fwd ∧ only [] u)) ∧
    -- the domain PER is off
    (¬ on → ∀ (heard : Option (Option Nat)) (n d : Nat), ∀ i ∈ [Instr.daliCollision, .daliSendEnd heard, .daliFrameReceived n d, .daliBusDown, .daliBusUp, .dimRampStep,
      .dimFault, .relayPulseEnd r, .relayFault r], Gives i s (fun u => u = s)) ∧
    (¬ busy → Gives .daliCollision s (fun u => u = s) ∧ ∀ heard, Gives (.daliSendEnd heard) s (fun u => u = s)) ∧
    (on → busy →
      (s.per.dali.abort = true → Gives .daliCollision s (ends 6 0 [R.LUM_DALI_CNT]) ∧ ∀ heard, Gives (.daliSendEnd heard) s (ends 6 0 [])) ∧
      (s.per.dali.abort = false →
        (2 ≤ s.per.dali.tries → Gives .daliCollision s (ends 4 0 [R.LUM_DALI_CNT])) ∧
        (s.per.dali.tries < 2 → Gives .daliCollision s (fun u => u.per.dali.tries = s.per.dali.tries + 1 ∧
          u.fg F.LUM_DALI_CNT_COLL = min (s.fg F.LUM_DALI_CNT_COLL + 1) 255 ∧ only [R.LUM_DALI_CNT] u)) ∧
        (twice → ∀ heard, Gives (.daliSendEnd heard) s (fun u => u.per.dali.tx = s.per.dali.tx.map (fun x => ⟨x.bits, x.data, x.prio, x.left - 1⟩) ∧
          u.per.dali.fwd = s.per.dali.fwd ∧ only [] u)) ∧
        (¬ twice → ¬ expect → ∀ heard, Gives (.daliSendEnd heard) s (ends 0 0 [])) ∧
        (¬ twice → expect → Gives (.daliSendEnd none) s (ends 2 0 []) ∧ Gives (.daliSendEnd (some none)) s (ends 3 0 []) ∧
          ∀ b : Fin 256, Gives (.daliSendEnd (some (some b))) s (ends 1 b [])))) ∧
    (∀ (ty : Fin 4) (data : Nat),
      (s.fb F.LUM_DALI_CFG_EN = false → Gives (.daliFrameReceived ty data) s (fun u => u = s)) ∧
      (on → s.fb F.LUM_DALI_CFG_EN = true → s.per.dali.rx.length < 4 → Gives (.daliFrameReceived ty data) s (fun u =>
        u.per.dali.rx = s.per.dali.rx ++ [⟨ty, data % 2 ^ (if (ty : Nat) = 0 then 16 else if (ty : Nat) = 2 then 8 else 24), s.emberLo⟩] ∧
        u.fg F.LUM_EVT_DALI_RX = 1 ∧ emits 0x90 u ∧
        ((ty : Nat) = 3 → u.fg F.LUM_DALI_CNT_FRM = min (s.fg F.LUM_DALI_CNT_FRM + 1) 255) ∧ only [R.LUM_EVT, R.LUM_DALI_CNT] u)) ∧
      (on → s.fb F.LUM_DALI_CFG_EN = true → 4 ≤ s.per.dali.rx.length → Gives (.daliFrameReceived ty data) s (fun u => u.per = s.per ∧
        u.fg F.LUM_EVT_RX_OVF = 1 ∧ u.fg F.LUM_DALI_CNT_OVF = min (s.fg F.LUM_DALI_CNT_OVF + 1) 255 ∧ only [R.LUM_EVT, R.LUM_DALI_CNT] u))) ∧
    (¬ up → Gives .daliBusDown s (fun u => u = s)) ∧
    (on → up → Gives .daliBusDown s (fun u => u.fg F.LUM_STAT_BUS_UP = 0 ∧ u.fg F.LUM_EVT_BUS_DOWN = 1 ∧
      u.fg F.LUM_DALI_CNT_DOWN = min (s.fg F.LUM_DALI_CNT_DOWN + 1) 255 ∧ (busy → ends 5 0 [R.LUM_STAT, R.LUM_DALI_CNT] u) ∧
      (¬ busy → only [R.LUM_STAT, R.LUM_EVT, R.LUM_DALI_CNT] u))) ∧
    (on → Gives .daliBusUp s (fun u => u.fg F.LUM_STAT_BUS_UP = 1 ∧ only [R.LUM_STAT] u)) ∧
    -- dimming
    (let level := s.fg F.LUM_DIM_STG_LEVEL
      let ramp := s.fg F.LUM_DIM_STG_RAMP
      let old := s.fg F.LUM_DIM_ACT_LEVEL
      let off := s.per.dim.off && s.fb F.LUM_EVT_DIM_FAULT
      s.mayWrite who R.LUM_DIM_CTL → Gives (.dimApply who v) s (fun u =>
        u.fb F.LUM_DIM_CTL_EN = wBit v 31 ∧ u.fg F.LUM_DIM_ACT_TARGET = level ∧ u.per.dim.off = off ∧
        (ramp = 0 → u.fg F.LUM_DIM_ACT_LEVEL = level ∧ u.fg F.LUM_DIM_ACT_RAMPING = 0 ∧ u.fg F.LUM_STAT_DIM = level) ∧
        (ramp ≠ 0 → u.fg F.LUM_DIM_ACT_LEVEL = old ∧ u.fg F.LUM_DIM_ACT_RAMPING = 1 ∧ u.per.dim = ⟨old, level, 0, 100 * ramp, off⟩) ∧
        only [R.LUM_DIM_CTL, R.LUM_DIM_ACT, R.LUM_STAT] u)) ∧
    (let d := s.per.dim;
      (d.steps ≤ d.k → Gives .dimRampStep s (fun u => u = s)) ∧
      (on → d.k < d.steps → d.l0 ≤ 4095 → d.target ≤ 4095 → Gives .dimRampStep s (fun u =>
        u.fg F.LUM_DIM_ACT_LEVEL = ((d.l0 : Int) + roundDiv (((d.target : Int) - d.l0) * ((d.k + 1 : Nat) : Int)) d.steps).toNat ∧
        (d.k + 1 = d.steps → u.fg F.LUM_DIM_ACT_LEVEL = d.target ∧ u.fg F.LUM_DIM_ACT_RAMPING = 0) ∧
        (d.k + 1 < d.steps → u.fg F.LUM_DIM_ACT_RAMPING = 1) ∧ u.fg F.LUM_STAT_DIM = u.fg F.LUM_DIM_ACT_LEVEL ∧ u.per.dim.k = d.k + 1 ∧
        only [R.LUM_DIM_ACT, R.LUM_STAT] u))) ∧
    (on → Gives .dimFault s (fun u => u.fg F.LUM_EVT_DIM_FAULT = 1 ∧ emits 0x92 u ∧ (s.fb F.PAD_HOLD_LAMP = false → u.dimSink = 0) ∧ only [R.LUM_EVT] u)) ∧
    -- relays
    (s.mayWrite who R.LUM_RLY_CTL →
      let o : Fin 2 := 1 - r
      let refused := s.fb (rlyPulsing r) = true ∨ (s.fb F.LUM_RLY_CFG_PAIR = true ∧ s.fb (rlyPulsing o) = true)
      let regs := [R.LUM_RLY_CTL, R.LUM_STAT, R.LUM_EVT, R.LUM_RLY_CNT]
      (wBit v o = false → s.rlyPulseMode r = true →
        (refused → Gives (.relayPulse who r v) s (fun u => u.fg F.LUM_EVT_WERR = 1 ∧ u.fb (rlyPulsing r) = s.fb (rlyPulsing r) ∧
          u.fb (rlyOn r) = s.fb (rlyOn r) ∧ u.rd R.LUM_RLY_CNT = s.rd R.LUM_RLY_CNT ∧ only regs u)) ∧
        (¬ refused → s.fb (rlyFault r) = false → Gives (.relayPulse who r v) s (fun u => u.fb (rlyPulsing r) = true ∧ u.fb (rlyOn r) = true ∧
          u.fg (rlyCount r) = min (s.fg (rlyCount r) + 1) 65535 ∧ only regs u)) ∧
        (¬ refused → s.fb (rlyFault r) = true → Gives (.relayPulse who r v) s (fun u => u.fb (rlyPulsing r) = false ∧ only regs u))) ∧
      (wBit v o = false → s.rlyPulseMode r = false → Gives (.relayPulse who r v) s (fun u => u.fb (rlyPulsing r) = s.fb (rlyPulsing r) ∧ only regs u)) ∧
      (wBit v o = true → s.fb F.LUM_RLY_CFG_PAIR = true → s.fb (rlyPulsing 0) = false → s.fb (rlyPulsing 1) = false → s.fb (rlyFault 0) = false →
        Gives (.relayPulse who r v) s (fun u => u.fb (rlyPulsing 0) = true ∧ u.fb (rlyPulsing 1) = false ∧ u.fg F.LUM_EVT_WERR = 1)) ∧
      Gives (.relaySwitch who v) s (fun u =>
        (s.rlyPulseMode r = true → wBit v (16 + (r : Nat)) = true → u.fg F.LUM_EVT_WERR = 1) ∧
        (s.rlyPulseMode r = true → u.fb (rlyOn r) = s.fb (rlyOn r)) ∧
        (s.rlyPulseMode r = false → u.fb (rlyReq r) = wBit v (16 + (r : Nat)) ∧ u.fb (rlyOn r) = (wBit v (16 + (r : Nat)) && !s.fb (rlyFault r))) ∧
        only [R.LUM_RLY_CTL, R.LUM_STAT, R.LUM_EVT] u)) ∧
    (on → s.fb (rlyPulsing r) = true → Gives (.relayPulseEnd r) s (fun u => u.fb (rlyPulsing r) = false ∧ u.fb (rlyOn r) = false ∧ only [R.LUM_STAT] u)) ∧
    (s.fb (rlyPulsing r) = false → Gives (.relayPulseEnd r) s (fun u => u = s)) ∧
    (on → Gives (.relayFault r) s (fun u => u.fb (rlyPulsing r) = false ∧ u.fb (rlyOn r) = false ∧ u.fb (rlyFault r) = true ∧ emits 0x92 u ∧
      only [R.LUM_STAT, R.LUM_EVT] u)) ∧
    -- motion
    (let reported := fun u : State => u.upd.motionAt = some s.rtc.ember ∧ u.rd R.LUM_MOT_CNT = w32 (min ((s.rd R.LUM_MOT_CNT).toNat + 1) 0xFFFFFFFF) ∧
        only [R.LUM_MOT_CNT] u;
      (s.mayWrite who R.LUM_MOT_REPORT → Gives (.motionReportWrite who) s reported) ∧
      ∀ rising : Bool,
        let edge := s.fg F.LUM_MOT_CFG_EDGE
        let pin := (if s.fb F.PAD_HOLD_BANK_A = true then (alGet s.pwr.hold.cfg 24).getD 0 else s.rd (R.PAD_CFGn 24)).toNat
        let watched := s.fb F.LUM_MOT_CFG_PIN_EN = true ∧ (edge = 3 ∨ edge = (if rising then 1 else 2)) ∧ (pin >>> 4) % 4 = 1 ∧
          (pin >>> 8) % 2 = 1 ∧ (s.pwr.state = .run ∨ s.pwr.state = .banked)
        (watched → Gives (.motionEdge rising) s reported) ∧ (¬ watched → Gives (.motionEdge rising) s (fun u => u = s)))

/-- MET_PUBLISH to SE_RXD_READ (R15, R437-R446, Tables 15-6 to 15-9). That edges of either direction count, and count before they capture, is the model's
reading (log 92, DEDUCED). -/
def Obligations.MeasureCountSend : Prop :=
  ∀ (s : State) (who : Initiator) (v : Word) (t : Fin 4),
    let emits := fun (c : Nat) (u : State) => ∃ h, u.flue.events = s.flue.events ++ [⟨c, h⟩]
    let only := fun (l : List Nat) (u : State) => s.sameRegs u l ∧ s.sameMem u
    let on := s.pwr.state = .run
    -- the domain PER is off
    (¬ on → ∀ (m : MetVals) (l : List Nat) (io : TmrIo) (n : Nat) (up : Bool) (got : List Byte) (e : SeEnd) (o : Byte), ∀ i ∈ [Instr.metPublish m, .metZeroCross,
      .adcSequenceDone l, .tmrCaptureEdge io n up, .tmrCompare t 0, .tmrCompare t 1, .tmrOverflow t, .seTransferEnd t n got e, .seRxOctet t o up up],
      Gives i s (fun u => u = s)) ∧
    -- metrology
    (∀ m : MetVals, m.freq < 65536 →
      (s.fb F.MET_CFG_EN = false → Gives (.metPublish m) s (fun u => u = s)) ∧
      (on → s.fb F.MET_CFG_EN = true →
        let two := s.fb F.MET_CFG_I2_EN
        let f1 := s.per.frac.1 + m.e1
        let f2 := s.per.frac.2 + (if two then m.e2 else 0)
        let q := (s.rd R.MET_QUANT).toNat
        let n := if q = 0 then 0 else (s.per.metQ + (f1 / 1000000).toNat) / q
        Gives (.metPublish m) s (fun u =>
          u.rd R.MET_VRMS = w32 m.vrms ∧ u.rd R.MET_IRMS1 = w32 m.irms1 ∧ u.rd R.MET_IRMS2 = (if two then w32 m.irms2 else 0) ∧
          u.rd R.MET_P1 = w32 (unsigned 32 m.p1) ∧ u.rd R.MET_P2 = (if two then w32 (unsigned 32 m.p2) else 0) ∧ u.fg F.MET_STAT_FREQ = m.freq ∧
          u.fb F.MET_STAT_LINE = m.line ∧ u.rd64 R.MET_E1_LO = unsigned 64 ((s.rd64 R.MET_E1_LO : Int) + f1 / 1000000) ∧
          u.rd64 R.MET_E2_LO = unsigned 64 ((s.rd64 R.MET_E2_LO : Int) + f2 / 1000000) ∧ u.per.frac = (f1 % 1000000, f2 % 1000000) ∧
          u.flue.events = s.flue.events ++ List.replicate n ⟨0x89, 0⟩ ∧ (0 < n → u.fg F.MET_EVT_ENERGY = 1) ∧ (m.full = true → u.fg F.MET_EVT_OVF = 1) ∧
          only [R.MET_VRMS, R.MET_IRMS1, R.MET_IRMS2, R.MET_P1, R.MET_P2, R.MET_STAT, R.MET_E1_LO, R.MET_E1_HI, R.MET_E2_LO, R.MET_E2_HI, R.MET_EVT] u))) ∧
    (on → s.fb F.MET_CFG_EN = true → Gives .metZeroCross s (fun u => u.fg F.MET_EVT_ZC = 1 ∧ emits 0x88 u ∧ only [R.MET_EVT] u)) ∧
    (s.fb F.MET_CFG_EN = false → Gives .metZeroCross s (fun u => u = s)) ∧
    (s.mayWrite who R.MET_CTL →
      Gives (.metSnapshot who) s (fun u => u.rd64 R.MET_SNAP_E1_LO = s.rd64 R.MET_E1_LO ∧ u.rd64 R.MET_SNAP_E2_LO = s.rd64 R.MET_E2_LO ∧
        u.rd R.MET_SNAP_EMB = s.emberLo ∧ u.rd R.MET_SNAP_CNT = s.rd R.MET_SNAP_CNT + 1 ∧
        only [R.MET_SNAP_E1_LO, R.MET_SNAP_E1_LO + 4, R.MET_SNAP_E2_LO, R.MET_SNAP_E2_LO + 4, R.MET_SNAP_EMB, R.MET_SNAP_CNT] u) ∧
      Gives (.metClearEnergy who) s (fun u => u.rd64 R.MET_E1_LO = 0 ∧ u.rd64 R.MET_E2_LO = 0 ∧ u.per.frac = (0, 0) ∧
        only [R.MET_E1_LO, R.MET_E1_HI, R.MET_E2_LO, R.MET_E2_HI] u)) ∧
    -- ADC
    (s.mayWrite who R.ADC_CTL →
      (s.fb F.ADC_STAT_BUSY = true ∨ s.fb F.ADC_CFG_EN = false → Gives (.adcSample who) s (fun u => u.per = s.per ∧ only [] u)) ∧
      (s.fb F.ADC_STAT_BUSY = false → s.fb F.ADC_CFG_EN = true → s.fg F.ADC_CFG_SEQ ≠ 0 → Gives (.adcSample who) s (fun u =>
        u.fb F.ADC_STAT_BUSY = true ∧ u.per.adcLeft = (List.range 8).filter (fun k => (s.fg F.ADC_CFG_SEQ / 2 ^ k) % 2 == 1) ∧ only [R.ADC_STAT] u)) ∧
      (s.fb F.ADC_STAT_BUSY = false → s.fb F.ADC_CFG_EN = true → s.fg F.ADC_CFG_SEQ = 0 → Gives (.adcSample who) s (fun u =>
        u.fb F.ADC_STAT_BUSY = false ∧ u.fg F.ADC_EVT_DONE = 1 ∧ emits 0x70 u ∧ only [R.ADC_STAT, R.ADC_EVT] u))) ∧
    (s.fb F.ADC_STAT_BUSY = false → ∀ l, Gives (.adcSequenceDone l) s (fun u => u = s)) ∧
    (on → s.fb F.ADC_STAT_BUSY = true →
      (∀ l : List Nat, s.per.adcLeft.length ≤ l.length → Gives (.adcSequenceDone l) s (fun u => u.fb F.ADC_STAT_BUSY = false ∧ u.fg F.ADC_EVT_DONE = 1 ∧
        u.per.adcLeft = [] ∧ u.per.adcReq = s.per.adcReq + s.per.adcLeft.length ∧ s.sameMem u)) ∧
      (∀ l : List Nat, l.length < s.per.adcLeft.length → Gives (.adcSequenceDone l) s (fun u => u.fb F.ADC_STAT_BUSY = true ∧ u.fg F.ADC_EVT_DONE = s.fg F.ADC_EVT_DONE ∧
        u.per.adcLeft = s.per.adcLeft.drop l.length ∧ u.per.adcReq = s.per.adcReq + l.length ∧ s.sameMem u)) ∧
      ∀ (k : Fin 8) (x : Fin 4096), s.per.adcLeft = [(k : Nat)] →
        let hi := s.fg (F.ADC_LIMk_HI k)
        let lo := s.fg (F.ADC_LIMk_LO k)
        let old := s.fg (adcZone k)
        let zone := if hi < lo then old else if hi < (x : Nat) then 1 else if (x : Nat) < lo then 0 else old
        Gives (.adcSequenceDone [(x : Nat)]) s (fun u => u.fg (F.ADC_RESk_RES k) = (x : Nat) ∧ u.fg (adcZone k) = zone ∧ (k : Nat) ∈ u.per.adcSeen ∧ u.dmaReq 9 = true ∧
          ((k : Nat) ∈ s.per.adcSeen → zone ≠ old → u.fg F.ADC_EVT_LIMIT = 1 ∧ ∃ h e, u.flue.events = s.flue.events ++ [⟨0x71, h⟩, ⟨0x70, e⟩]) ∧
          ((k : Nat) ∉ s.per.adcSeen ∨ zone = old → u.fg F.ADC_EVT_LIMIT = s.fg F.ADC_EVT_LIMIT ∧ emits 0x70 u) ∧
          only [R.ADC_RESk k, R.ADC_STAT, R.ADC_EVT] u)) ∧
    -- timers
    (let runs := s.fb (F.TMR_STATt_RUNNING t) = true
      let en := s.fb (F.TMR_CFGt_EN t) = true
      let top := s.rd (R.TMR_TOPt t)
      let at' := fun count : Nat => w32 (min count top.toNat)
      let edge := s.fg (F.TMR_CFGt_EDGE t)
      let edges := s.fg (F.TMR_CFGt_SRC t) = 2
      let held := fun count : Nat => if edges then s.rd (R.TMR_CNTt t) else at' count
      (s.mayWrite who (R.TMR_CTLt t) →
        (¬ runs → en → Gives (.tmrStart who t) s (fun u => u.rd (R.TMR_CNTt t) = 0 ∧ u.fb (F.TMR_STATt_RUNNING t) = true ∧ only [R.TMR_CNTt t, R.TMR_STATt t] u)) ∧
        (runs ∨ ¬ en → Gives (.tmrStart who t) s (only [])) ∧
        ∀ count,
          (runs → Gives (.tmrStop who t count) s (fun u => u.rd (R.TMR_CNTt t) = held count ∧ u.fb (F.TMR_STATt_RUNNING t) = false ∧
              only [R.TMR_CNTt t, R.TMR_STATt t] u) ∧
            Gives (.tmrCapture who t count) s (fun u => u.rd (R.TMR_CAPt t) = held count ∧ only [R.TMR_CNTt t, R.TMR_CAPt t] u)) ∧
          (¬ runs → Gives (.tmrStop who t count) s (only []) ∧
            Gives (.tmrCapture who t count) s (fun u => u.rd (R.TMR_CAPt t) = s.rd (R.TMR_CNTt t) ∧ only [R.TMR_CAPt t] u))) ∧
      (∀ (high : Bool) (count : Nat) (rising : Bool),
        let here := s.tmrIn t = some (if high then 17 + 2 * (t : Nat) else 2 * (t : Nat) + 1)
        let takes := en ∧ (edge = 3 ∨ edge = (if rising then 1 else 2))
        let pre := nth s.per.tmrPre t 0 + 1
        let full := s.fg (F.TMR_CFGt_PRESCALE t) < pre
        let n := (s.rd (R.TMR_CNTt t)).toNat + 1
        (¬ here → Gives (.tmrCaptureEdge ⟨t, high⟩ count rising) s (fun u => u = s)) ∧
        (on → here → ¬ edges → takes → runs → Gives (.tmrCaptureEdge ⟨t, high⟩ count rising) s (fun u =>
          u.rd (R.TMR_CAPt t) = at' count ∧ only [R.TMR_CNTt t, R.TMR_CAPt t] u)) ∧
        (¬ (edges ∧ runs) → ¬ takes → Gives (.tmrCaptureEdge ⟨t, high⟩ count rising) s (fun u => u = s)) ∧
        (on → here → edges → runs → ¬ takes → s.per.tmrPre.length = 4 → ¬ full → Gives (.tmrCaptureEdge ⟨t, high⟩ count rising) s (fun u =>
          nth u.per.tmrPre t 0 = pre ∧ only [] u)) ∧
        (on → here → edges → runs → ¬ takes → s.per.tmrPre.length = 4 → full → n < top.toNat → (∀ k : Fin 2, (s.tmrCmp t k).toNat ≠ n) →
          Gives (.tmrCaptureEdge ⟨t, high⟩ count rising) s (fun u => nth u.per.tmrPre t 0 = 0 ∧ u.rd (R.TMR_CNTt t) = w32 n ∧ only [R.TMR_CNTt t] u)) ∧
        (on → here → edges → runs → takes → full → n < top.toNat → Gives (.tmrCaptureEdge ⟨t, high⟩ count rising) s (fun u =>
          u.rd (R.TMR_CNTt t) = w32 n ∧ u.rd (R.TMR_CAPt t) = w32 n ∧
          (∀ k : Fin 2, (s.tmrCmp t k).toNat = n → u.fg (if (k : Nat) = 0 then F.TMR_EVTt_CMP0 t else F.TMR_EVTt_CMP1 t) = 1) ∧
          only [R.TMR_CNTt t, R.TMR_CAPt t, R.TMR_EVTt t] u)) ∧
        (on → here → edges → runs → ¬ takes → full → top.toNat ≤ n → Gives (.tmrCaptureEdge ⟨t, high⟩ count rising) s (fun u => u.fg (F.TMR_EVTt_OVF t) = 1 ∧
          (s.fb (F.TMR_CFGt_PERIODIC t) = true → u.rd (R.TMR_CNTt t) = 0) ∧ (s.fb (F.TMR_CFGt_PERIODIC t) = false → u.fb (F.TMR_STATt_RUNNING t) = false) ∧
          only [R.TMR_CNTt t, R.TMR_EVTt t, R.TMR_STATt t] u))) ∧
      (∀ k : Fin 2,
        let c := s.rd (if (k : Nat) = 0 then R.TMR_CMP0t t else R.TMR_CMP1t t)
        let act := s.fg (if (k : Nat) = 0 then F.TMR_CFGt_CMP0 t else F.TMR_CFGt_CMP1 t)
        (on → runs → ¬ edges → c.toNat ≤ top.toNat → (s.rd (R.TMR_CNTt t)).toNat ≤ c.toNat → s.per.tmrOut.length = 4 → Gives (.tmrCompare t k) s (fun u =>
          u.rd (R.TMR_CNTt t) = c ∧ u.fg (if (k : Nat) = 0 then F.TMR_EVTt_CMP0 t else F.TMR_EVTt_CMP1 t) = 1 ∧ emits (0x60 + 3 * t + k) u ∧
          nth u.per.tmrOut t false = (if act = 1 then true else if act = 2 then false else if act = 3 then !nth s.per.tmrOut t false else nth s.per.tmrOut t false) ∧
          only [R.TMR_CNTt t, R.TMR_EVTt t] u)) ∧
        (¬ runs ∨ edges ∨ top.toNat < c.toNat ∨ c.toNat < (s.rd (R.TMR_CNTt t)).toNat → Gives (.tmrCompare t k) s (fun u => u = s))) ∧
      (¬ runs ∨ edges → Gives (.tmrOverflow t) s (fun u => u = s)) ∧
      (on → runs → ¬ edges → Gives (.tmrOverflow t) s (fun u => u.fg (F.TMR_EVTt_OVF t) = 1 ∧ emits (0x62 + 3 * t) u ∧
        (s.fb (F.TMR_CFGt_PERIODIC t) = true → u.rd (R.TMR_CNTt t) = 0 ∧ u.fb (F.TMR_STATt_RUNNING t) = true) ∧
        (s.fb (F.TMR_CFGt_PERIODIC t) = false → u.rd (R.TMR_CNTt t) = top ∧ u.fb (F.TMR_STATt_RUNNING t) = false) ∧
        only [R.TMR_CNTt t, R.TMR_EVTt t, R.TMR_STATt t] u))) ∧
    -- serial engines
    (s.per.se.length = 4 →
      let busy := s.fb (F.SEn_STAT_BUSY t) = true
      let en := s.fb (F.SEn_CFG_EN t) = true
      let mode := s.fg (F.SEn_CFG_MODE t)
      let gate := s.fb (F.SEn_CFG_TXGATE t) = true
      let x := s.se t
      let regs := [R.SEn_STAT t, R.SEn_EVT t]
      let done := fun (u : State) => u.fb (F.SEn_STAT_BUSY t) = false ∧ u.fg (F.SEn_EVT_TXDONE t) = 1 ∧ only regs u
      (s.mayWrite who (R.SEn_CTL t) →
        (¬ busy → en → (mode ≠ 0 ∨ gate) → Gives (.seStart who t) s (fun u => u.fb (F.SEn_STAT_BUSY t) = true ∧
          u.se t = ⟨x.tx, x.rx, if mode = 1 then s.fg (F.SEn_XFER_LEN t) else if mode = 2 then s.fg (F.SEn_XFER_WR t) else x.tx.length,
            if mode = 2 then s.fg (F.SEn_XFER_RD t) else 0⟩ ∧ only [R.SEn_STAT t] u)) ∧
        (busy ∨ ¬ en ∨ (mode = 0 ∧ ¬ gate) → Gives (.seStart who t) s (fun u => u.per = s.per ∧ only [] u)) ∧
        (busy → Gives (.seAbort who t) s (fun u => done u ∧ emits (0x9C + t) u ∧ u.per = s.per)) ∧
        (¬ busy → Gives (.seAbort who t) s (fun u => u.per = s.per ∧ only [] u)) ∧
        Gives (.seFlush who t) s (fun u => u.se t = ⟨[], [], x.left, x.want⟩ ∧ (∀ k : Fin 4, k ≠ t → u.se k = s.se k) ∧ only [R.SEn_STAT t] u)) ∧
      (∀ (sent : Nat) (got : List Byte) (e : SeEnd),
        let moved := if mode = 1 then (min got.length x.left, got.take x.left) else (min sent x.left, if mode = 2 ∧ x.left ≤ sent then got.take x.want else [])
        let left := x.left - moved.1
        let want := if mode = 2 then x.want - moved.2.length else 0
        (on → busy → en → x.rx.length + moved.2.length ≤ 16 → Gives (.seTransferEnd t sent got e) s (fun u =>
          u.se t = ⟨x.tx.drop moved.1, x.rx ++ moved.2, left, want⟩ ∧
          (left = 0 ∧ want = 0 ∨ mode = 2 ∧ e ≠ .ok → done u) ∧
          (¬ (left = 0 ∧ want = 0) → mode ≠ 2 ∨ e = .ok → u.fb (F.SEn_STAT_BUSY t) = true ∧ u.fg (F.SEn_EVT_TXDONE t) = s.fg (F.SEn_EVT_TXDONE t)) ∧
          (mode = 2 → e = .nack → u.fg (F.SEn_EVT_NACK t) = 1) ∧ (mode = 2 → e = .arb → u.fg (F.SEn_EVT_ARB t) = 1) ∧ only regs u)) ∧
        (on → ¬ busy → en → mode = 0 → ¬ gate → x.tx ≠ [] → Gives (.seTransferEnd t sent got e) s (fun u => u.se t = ⟨x.tx.drop sent, x.rx, x.left, x.want⟩ ∧
          (x.tx.length ≤ sent → done u) ∧ (sent < x.tx.length → u.fg (F.SEn_EVT_TXDONE t) = s.fg (F.SEn_EVT_TXDONE t)) ∧ only regs u)) ∧
        (¬ busy → mode ≠ 0 ∨ gate ∨ x.tx = [] → Gives (.seTransferEnd t sent got e) s (fun u => u = s))) ∧
      (∀ (o : Byte) (parity framing : Bool),
        (¬ en → Gives (.seRxOctet t o parity framing) s (fun u => u = s)) ∧
        (on → en → x.rx.length < 16 → Gives (.seRxOctet t o parity framing) s (fun u => u.se t = ⟨x.tx, x.rx ++ [o], x.left, x.want⟩ ∧
          (parity = true → u.fg (F.SEn_EVT_PARITY t) = 1) ∧ (framing = true → u.fg (F.SEn_EVT_FRAMING t) = 1) ∧
          (s.fg (F.SEn_THR_RX t) ≤ x.rx.length + 1 → u.fg (F.SEn_EVT_RX t) = 1 ∧ emits (0x98 + t) u) ∧ only regs u)) ∧
        (on → en → 16 ≤ x.rx.length → Gives (.seRxOctet t o parity framing) s (fun u => u.per = s.per ∧ u.fg (F.SEn_EVT_OVERRUN t) = 1 ∧ only [R.SEn_EVT t] u))) ∧
      (s.mayWrite who (R.SEn_TXD t) →
        (x.tx.length < 16 → Gives (.seTxdWrite who t v) s (fun u => u.se t = ⟨x.tx ++ [BitVec.ofNat 8 v.toNat], x.rx, x.left, x.want⟩ ∧ only [R.SEn_STAT t] u)) ∧
        (16 ≤ x.tx.length → Gives (.seTxdWrite who t v) s (fun u => u.per = s.per ∧ u.fg (F.SEn_EVT_WERR t) = 1 ∧ only [R.SEn_EVT t] u))) ∧
      (s.mayRead who (R.SEn_RXD t) → alGet s.caps (s.capKey who, R.SEn_RXD t) = none → Gives (.seRxdRead who t) s (fun u => u.se t = ⟨x.tx, x.rx.drop 1, x.left, x.want⟩ ∧
        u.bus = ⟨match x.rx with
          | [] => 0
          | o :: _ => w32 (0x80000000 + o.toNat), 0⟩ ∧ only [R.SEn_STAT t] u)))

/-- VIN_UNDERVOLTAGE to WAKE_PIN_EDGE (R298, R447, R455-R464, R477-R486, R491, Tables 16-3 and 17-9). -/
def Obligations.SuppliesAndPins : Prop :=
  ∀ (s : State) (who : Initiator) (v : Word) (mv : Nat),
    let own := s.owner who
    let sec := s.secure who
    let only := fun (l : List Nat) (u : State) => s.sameRegs u l ∧ s.sameMem u
    let pfw := s.fb F.SUP_STAT_PFW = true
    let thr := 100 * s.fg F.SUP_PFW_THR_THR
    let chg := s.fg F.SUP_STAT_CHG
    let ntcEn := s.fb F.SUP_CHG_ACT_NTC_EN = true
    let free := s.sup.vinPresent = true ∧ ¬ pfw ∧ s.hrt.die < 1680 ∧ s.hpHigh = false
    -- VIN and VSYS
    (s.sup.vinPresent = false → Gives (.vinUndervoltage mv) s (fun u => u = s)) ∧
    (s.sup.vinPresent = true → Gives (.vinUndervoltage mv) s (fun u => u.fg F.SUP_STAT_VIN_UV = 0 ∧ u.fg F.SUP_EVT_VIN_DOWN = 1 ∧ u.vinOk = false ∧
      u.sup.vinPresent = false ∧ u.sup.vin = mv ∧ s.sameMem u)) ∧
    (s.sup.vinPresent = true → Gives (.vinRelease mv) s (fun u => u = s)) ∧
    (s.sup.vinPresent = false → Gives (.vinRelease mv) s (fun u => u.fg F.SUP_STAT_VIN_UV = 1 ∧ u.fg F.SUP_EVT_VIN_UP = 1 ∧ ⟨0x58, 0⟩ ∈ u.flue.events ∧
      u.sup.vinPresent = true ∧ u.fg F.SUP_STAT_VSYS_OK = 1 ∧ s.sameMem u)) ∧
    (pfw ∨ thr ≤ mv → Gives (.powerFailWarning mv) s (fun u => u.sup.vin = mv ∧ only [] u)) ∧
    (¬ pfw → mv < thr → Gives (.powerFailWarning mv) s (fun u => u.fg F.SUP_STAT_PFW = 1 ∧ u.pfwN = some false ∧ u.fg F.PWR_EVT_PFW = 1 ∧ ⟨0x59, 0⟩ ∈ u.flue.events ∧
      u.vinOk = false ∧ s.sameMem u ∧ (s.ash.ready = true → s.ash.ended = false → s.ash.lostFull = 0 → s.ash.buf.length < 223 → s.ash.next < 0xFFFFFFFF →
        ∃ r ∈ u.ash.buf, r.seq = s.ash.next ∧ r.code = 5 ∧ r.d0 = w32 (mv % 0x10000 * 0x10000 + s.sup.vkeep % 0x10000)))) ∧
    (pfw → thr + 500 ≤ mv ∨ s.sup.vinPresent = false → Gives (.pfwDeassert mv) s (fun u => u.fg F.SUP_STAT_PFW = 0 ∧ u.pfwN = none ∧ u.fg F.SUP_EVT_PFW_OFF = 1 ∧ s.sameMem u)) ∧
    (¬ pfw ∨ (mv < thr + 500 ∧ s.sup.vinPresent = true) → Gives (.pfwDeassert mv) s (only [])) ∧
    (∀ gap, (mv < 4500 → Gives (.vsysLow mv gap) s (fun u => u.fg F.SUP_STAT_VSYS_OK = 0)) ∧
      ((s.rad .a).act = none → Gives (.vsysLow mv gap) s (fun u => u.sup.vsys = mv ∧ only [R.SUP_STAT] u))) ∧
    (∀ vin vkeep vsys, Gives (.supplySample vin vkeep vsys) s (fun u => u.rd R.SUP_VMON = w32 (min (vin / 10) 0xFFFF * 0x10000 + min vkeep 0xFFFF) ∧
      u.sup.vkeep = vkeep ∧ u.fg F.SUP_STAT_VSYS_OK = (if 4500 ≤ vsys then 1 else 0) ∧ u.fg F.SUP_STAT_SRC = (if vkeep < vsys then 1 else 0) ∧
      (vkeep < s.fg F.SUP_KEEP_THR_THR → u.fg F.SUP_EVT_KEEP_LOW = 1) ∧ s.sameMem u)) ∧
    -- the charger
    (chg = 1 → s.sup.vkeep < 2000 → Gives .chargerPreTimeout s (fun u => u.fg F.SUP_STAT_CHG = 6 ∧ u.fg F.SUP_EVT_CHG_FAULT = 1 ∧ only [R.SUP_STAT, R.SUP_EVT] u)) ∧
    (chg ≠ 1 ∨ 2000 ≤ s.sup.vkeep → Gives .chargerPreTimeout s (fun u => u = s)) ∧
    (chg = 3 → s.fb F.SUP_CHG_ACT_TERM = true → Gives .chargerTerminate s (fun u => u.fg F.SUP_STAT_CHG = 4 ∧ u.fg F.SUP_EVT_CHG_DONE = 1 ∧
      only [R.SUP_STAT, R.SUP_EVT] u)) ∧
    (chg ≠ 3 ∨ s.fb F.SUP_CHG_ACT_TERM = false → Gives .chargerTerminate s (fun u => u = s)) ∧
    (s.fb F.SUP_CHG_ACT_EN = true → free → ¬ ntcEn →
      let vcv := 2500 + 50 * s.fg F.SUP_CHG_ACT_V_CV
      let level := if mv < 2000 then 1 else if mv < vcv then 2 else 3
      (chg = 6 → Gives (.chargerVkeepLevel mv) s (fun u => u.fg F.SUP_STAT_CHG = 6 ∧ u.sup.vkeep = mv)) ∧
      (chg = 4 → vcv < mv + 100 → Gives (.chargerVkeepLevel mv) s (fun u => u.fg F.SUP_STAT_CHG = 4 ∧ u.sup.vkeep = mv)) ∧
      ((chg = 4 → mv + 100 ≤ vcv) → chg ≠ 6 → Gives (.chargerVkeepLevel mv) s (fun u => u.fg F.SUP_STAT_CHG = level ∧ u.sup.vkeep = mv ∧
        u.fg ⟨R.SUP_VMON, 15, 0⟩ = min mv 0xFFFF ∧ (mv < s.fg F.SUP_KEEP_THR_THR → u.fg F.SUP_EVT_KEEP_LOW = 1) ∧ only [R.SUP_STAT, R.SUP_VMON, R.SUP_EVT] u))) ∧
    (∀ ratio : Nat,
      let inside := s.fg F.SUP_CHG_NTC_HOT ≤ ratio ∧ ratio ≤ s.fg F.SUP_CHG_NTC_COLD
      (¬ ntcEn → Gives (.ntcWindowChange ratio) s (fun u => u.sup.ntc = ratio ∧ only [] u)) ∧
      (ntcEn → Gives (.ntcWindowChange ratio) s (fun u => (u.fb F.SUP_STAT_NTC_OK = true ↔ inside) ∧ u.sup.ntc = ratio ∧ only [R.SUP_STAT, R.SUP_EVT] u)) ∧
      (ntcEn → ¬ inside → s.fb F.SUP_CHG_ACT_EN = true → 1 ≤ chg → chg ≤ 3 → Gives (.ntcWindowChange ratio) s (fun u =>
        u.fg F.SUP_STAT_CHG = 5 ∧ u.fg F.SUP_EVT_CHG_PAUSE = 1))) ∧
    -- I/O banks
    (∀ bank : IoBank,
      let k := ioBankNo bank
      (s.fb (ioBor k) = true → Gives (.ioBankLow bank) s (fun u => u = s)) ∧
      (s.fb (ioBor k) = false → Gives (.ioBankLow bank) s (fun u => u.fb (ioLow k) = true ∧ (∀ n : Fin 64, (n : Nat) / 32 = k → u.pinDrive n = none) ∧
        only [R.SUP_STAT] u)) ∧
      Gives (.vioReturn bank) s (fun u => u.fb (ioLow k) = false ∧ only [R.SUP_STAT] u)) ∧
    -- pins
    (∀ n : Fin 64, s.mayWrite who (R.PAD_CFGn n) →
      let o := s.pinOwner n
      let new := wField v 26 24
      let good := funcOk n (wField v 5 4) = true ∧ wField v 10 9 ≠ 3
      let settings := fun u : State => (u.rd (R.PAD_CFGn n) &&& padCfgMask) = (v &&& padCfgMask)
      let taken := fun u : State => settings u ∧ u.pinOwner n = new ∧ u.fg (F.PAD_CFGn_SEC n) = wField v 20 20
      let tsk := (List.range 8).map (fun k => R.PAD_TSKk k)
      (o = ownHearth → isCore own = true → sec = true → Gives (.padConfigWrite who n v) s (fun u => u.fg F.PAD_EVT_WERR = 1 ∧ only [R.PAD_EVT] u)) ∧
      (o = own → own ≠ ownNone → isCore own = true → sec = true → ¬ good → Gives (.padConfigWrite who n v) s (fun u =>
        u.fg F.PAD_EVT_WERR = 1 ∧ only [R.PAD_EVT] u)) ∧
      (o = own → own ≠ ownNone → isCore own = true → sec = true → good →
        (s.fb (F.PAD_CFGn_LOCK n) = false → Gives (.padConfigWrite who n v) s (fun u => taken u ∧ only (R.PAD_CFGn n :: tsk) u)) ∧
        (s.fb (F.PAD_CFGn_LOCK n) = true → Gives (.padConfigWrite who n v) s (fun u => settings u ∧ u.pinOwner n = o ∧ only [R.PAD_CFGn n] u))) ∧
      (o = ownNone → isCore own = true → sec = true →
        (new = own → s.fb (F.PAD_CFGn_LOCK n) = false → good → Gives (.padConfigWrite who n v) s (fun u => taken u ∧ only (R.PAD_CFGn n :: tsk) u)) ∧
        (new = own → s.fb (F.PAD_CFGn_LOCK n) = false → ¬ good → Gives (.padConfigWrite who n v) s (fun u => u.fg F.PAD_EVT_WERR = 1 ∧ only [R.PAD_EVT] u)) ∧
        (new ≠ own ∨ s.fb (F.PAD_CFGn_LOCK n) = true → Gives (.padConfigWrite who n v) s (only []))) ∧
      ((n : Nat) = 14 ∨ (n : Nat) = 15 → o = ownDebug → isCore own = true → sec = true → new = own → good →
        (s.fb F.LCS_DBG_OPEN = false → s.fb (F.PAD_CFGn_LOCK n) = false → Gives (.padConfigWrite who n v) s (fun u => taken u ∧ only (R.PAD_CFGn n :: tsk) u)) ∧
        (s.fb F.LCS_DBG_OPEN = true → Gives (.padConfigWrite who n v) s (fun u => u.fg F.PAD_EVT_WERR = 1 ∧ only [R.PAD_EVT] u)))) ∧
    (∀ (g : Fin 2) (i : Fin 32),
      let was := wBit (s.rd (padOut g)) i
      let hit := s.pinMine own sec (32 * (g : Nat) + i) && wBit v i
      (s.mayWrite who (R.PAD_OUTSET0 + 4 * (g : Nat)) → Gives (.padOutSet who g v) s (fun u => wBit (u.rd (padOut g)) i = (if hit then true else was) ∧ only [padOut g] u)) ∧
      (s.mayWrite who (R.PAD_OUTCLR0 + 4 * (g : Nat)) → Gives (.padOutClear who g v) s (fun u => wBit (u.rd (padOut g)) i = (if hit then false else was) ∧ only [padOut g] u)) ∧
      (s.mayWrite who (R.PAD_OUTTGL0 + 4 * (g : Nat)) → Gives (.padOutToggle who g v) s (fun u => wBit (u.rd (padOut g)) i = (if hit then !was else was) ∧ only [padOut g] u))) ∧
    (s.mayWrite who R.PAD_RELEASE →
      (∀ g : Fin 2, (isCore own = true → sec = true → Gives (.padReleaseBank who g) s (fun u => wBit (u.rd R.PAD_HOLD) g = false ∧ only [R.PAD_HOLD] u)) ∧
        (isCore own = false ∨ sec = false → Gives (.padReleaseBank who g) s (fun u => u.fg F.PAD_EVT_WERR = 1 ∧ only [R.PAD_EVT] u))) ∧
      (let lum := s.fg F.LUM_OWN_OWNER
        let may := isCore own = true ∧ sec = true ∧ (lum = own ∨ lum = ownNone)
        (may → Gives (.padReleaseLamp who) s (fun u => wBit (u.rd R.PAD_HOLD) 2 = false ∧ only [R.PAD_HOLD] u)) ∧
        (¬ may → Gives (.padReleaseLamp who) s (fun u => u.fg F.PAD_EVT_WERR = 1 ∧ only [R.PAD_EVT] u)))) ∧
    (∀ (n : Fin 64) (rising : Bool),
      let c := s.pinCfg n
      let edge := wField (s.rd (R.PAD_CFGn n)) 17 16
      let reg := if (n : Nat) < 32 then R.PAD_EDGE0 else R.PAD_EDGE1
      let seen := inputOn n c = true ∧ (edge = 3 ∨ edge = (if rising then 1 else 2)) ∧ s.fb (ioLow ((n : Nat) / 32)) = false ∧
        (s.pwr.state = .run ∨ s.pwr.state = .banked)
      (seen → Gives (.padEdge n rising) s (fun u => wBit (u.rd reg) ((n : Nat) % 32) = true ∧ u.flue.events = s.flue.events ++ [⟨0x01 + n, 0⟩] ∧ only [reg] u)) ∧
      (¬ seen → Gives (.padEdge n rising) s (fun u => u.flue = s.flue ∧ only [] u))) ∧
    (∀ trig : Nat,
      (trig ≠ 3 ∨ s.pwr.state = .run ∧ s.pwr.entry = none → Gives (.wakePinEdge 4 trig) s (fun u => u = s)) ∧
      (trig = 3 → s.pwr.state = .banked ∨ s.pwr.state = .cinder → s.rbit R.PWR_WAKE_EN 6 = true → Gives (.wakePinEdge 4 trig) s (fun u =>
        6 ∈ u.pwr.wakePending ∧ only [] u))) ∧
    (∀ (m : Fin 4) (trig : Nat),
      let n : Fin 5 := m.castSucc
      let meant := wField (s.rd R.PWR_WAKE_PIN) (4 * (n : Nat) + 1) (4 * (n : Nat)) = trig ∧ trig ≠ 0 ∧ ((n : Nat) = 3 → ¬ ntcEn)
      (¬ meant → Gives (.wakePinEdge n trig) s (fun u => u = s)) ∧
      (meant → s.pwr.state = .run ∨ s.pwr.state = .banked → Gives (.wakePinEdge n trig) s (fun u => wBit (u.rd R.PAD_WAKE_EDGE) m = true ∧
        ⟨0x41 + m, 0⟩ ∈ u.flue.events ∧ only [R.PAD_WAKE_EDGE] u ∧
        (s.pwr.state = .banked → s.rbit R.PWR_WAKE_EN (2 + (n : Nat)) = true → 2 + (n : Nat) ∈ u.pwr.wakePending))) ∧
      (meant → s.pwr.state = .cinder → s.rbit R.PWR_WAKE_EN (2 + (n : Nat)) = true → Gives (.wakePinEdge n trig) s (fun u =>
        2 + (n : Nat) ∈ u.pwr.wakePending ∧ only [] u)))

/-- HOST_PING to HOST_KEY_LOAD, HOST_TRANSACTION_END, and PORT_FRAME_REJECT and FRAME_CUT on the host port (R406-R417, R325, Tables 14-1 to 14-4). That
the frames of before have been sent when a UART command arrives is the model's choice (log 95, DESIGN CHOICE). -/
def Obligations.HostPort : Prop :=
  ∀ (s : State) (seq : Nat) (pay : List Byte),
    let up := s.hostUp = true
    let sends := s.fg F.HST_STAT_MODE = 1 ∧ s.hostStopped = false
    let out0 := if sends then [] else s.hst.port.out
    let quiet := s.hst.port.reset = none ∨ ¬ sends
    let resp := fun (code : Nat) (body : List Byte) => (⟨false, seq, code, body⟩ : PortFrame)
    let answered := fun (code : Nat) (body : List Byte) (u : State) => u.hst.port.cache = some (resp code body) ∧ resp code body ∈ u.hst.port.out ∧
      u.hst.port.last = some (seq, code) ∧ u.rd R.HST_CMD_CNT = s.rd R.HST_CMD_CNT + 1 ∧ u.fg F.HST_STAT_SEQ = seq % 256
    let fresh := fun (code : Nat) => up ∧ quiet ∧ s.hst.port.last ≠ some (seq, code)
    let regs := [R.HST_STAT, R.HST_CMD_CNT]
    let only := fun (l : List Nat) (u : State) => s.sameRegs u (l ++ regs) ∧ s.sameMem u
    let cmds := [(0x01, Instr.hostPing seq pay), (0x02, .hostSetBaud seq pay), (0x08, .hostRd32 seq pay), (0x09, .hostWr32 seq pay),
      (0x0A, .hostRdmem seq pay), (0x0B, .hostWrmem seq pay), (0x11, .hostReset seq pay), (0x12, .hostTxFrame seq pay), (0x13, .hostReclaim seq pay),
      (0x14, .hostGetRx seq pay), (0x15, .hostKeypage seq pay), (0x16, .hostKeyLoad seq pay)]
    let a := octs pay 0 4
    let n := octs pay 4 2
    let bank := fun (m : Nat) => 0x20100000 ≤ a ∧ a + m ≤ 0x20180000
    let intact := fun (m : Nat) => ∀ k, k < m → (a + k) / 4 * 4 ∉ s.eccBad
    let stored := fun (l : List Byte) (u : State) => (∀ k, k < l.length → u.rb (a + k) = nth l k 0) ∧ (∀ x, x < a ∨ a + l.length ≤ x → u.rb x = s.rb x) ∧
      s.sameRegs u regs
    let refused := fun (wr : Bool) (x : Nat) => x ≠ 0 ∧ s.memSyn ownHost false a wr = x ∧ regionOf a ≠ .periph (a / 0x1000)
    let fault := fun (x addr : Nat) => leBytes 1 3 ++ leBytes 1 x ++ leBytes 4 addr
    let q := oct pay 0
    let x1 := oct pay 1
    -- any command
    (∀ c ∈ cmds,
      (¬ up → Gives c.2 s (fun u => u = s)) ∧
      (∀ cold, up → sends → s.hst.port.reset = some cold → s.sup.lost = false → Gives c.2 s (fun u => u.rst.deferred = [⟨11, cold⟩] ∧
        u.hst.port.out = [] ∧ u.hst.port.reset = none ∧ u.hst.port.last = s.hst.port.last ∧ s.sameRegs u [] ∧ s.sameMem u)) ∧
      (seq < 256 → s.hst.port.rx = [] → s.hst.port.skip = 0 → s.hst.port.deaf = false → hostLen c.1 pay.length = true →
        Sys2Proof.Machine.exec (.portFrameReject false (.octets (frameOctets false c.1 seq pay))) s = Sys2Proof.Machine.exec c.2 s) ∧
      (∀ f, up → quiet → s.hst.port.last = some (seq, c.1) → s.hst.port.cache = some f → Gives c.2 s (fun u =>
        u.hst.port.out = out0 ++ [f] ∧ u.hst.port.last = s.hst.port.last ∧ s.sameRegs u [] ∧ s.sameMem u)) ∧
      (fresh c.1 → hostLen c.1 pay.length = false → Gives c.2 s (fun u => u.hst.port.out = out0 ++ [resp c.1 [2]] ∧ u.hst.port.last = s.hst.port.last ∧
        u.hst.port.cache = s.hst.port.cache ∧ u.fg ⟨R.HST_EVT, 1, 1⟩ = 1 ∧ s.sameRegs u [R.HST_ERR_CNT, R.HST_EVT] ∧ s.sameMem u))) ∧
    -- PING and SET_BAUD
    (fresh 0x01 → pay.length ≤ 2 → Gives (.hostPing seq pay) s (fun u =>
      answered 0x01 (0 :: (leBytes 4 (s.rd R.LCS_PART_ID).toNat ++ leBytes 4 (s.rd R.HRT_ID).toNat ++ [1, 0])) u ∧ only [] u)) ∧
    (fresh 0x02 → pay.length = 4 →
      (9600 ≤ a → a ≤ 4000000 → Gives (.hostSetBaud seq pay) s (fun u => answered 0x02 [0] u ∧ u.rd R.HST_BAUD = w32 a ∧ only [R.HST_BAUD] u)) ∧
      (a < 9600 ∨ 4000000 < a → Gives (.hostSetBaud seq pay) s (fun u => answered 0x02 [2] u ∧ only [] u))) ∧
    -- accesses
    (fresh 0x08 → pay.length = 6 →
      (n = 0 ∨ 256 < n → Gives (.hostRd32 seq pay) s (fun u => answered 0x08 [2] u ∧ only [] u)) ∧
      (1 ≤ n → n ≤ 256 → a % 4 = 0 →
        (bank (4 * n) → intact (4 * n) → Gives (.hostRd32 seq pay) s (fun u => answered 0x08 (0 :: s.bytes a (4 * n)) u ∧ only [] u)) ∧
        (∀ x, refused false x → Gives (.hostRd32 seq pay) s (answered 0x08 (fault x a))))) ∧
    (fresh 0x0A → pay.length = 6 →
      (n = 0 ∨ 2048 < n → Gives (.hostRdmem seq pay) s (fun u => answered 0x0A [2] u ∧ only [] u)) ∧
      (1 ≤ n → n ≤ 2048 →
        (bank n → intact n → Gives (.hostRdmem seq pay) s (fun u => answered 0x0A (0 :: s.bytes a n) u ∧ only [] u)) ∧
        (∀ x, refused false x → Gives (.hostRdmem seq pay) s (answered 0x0A (fault x a))))) ∧
    (fresh 0x09 → 8 ≤ pay.length → pay.length ≤ 1028 → pay.length % 4 = 0 → a % 4 = 0 →
      (bank (pay.length - 4) → Gives (.hostWr32 seq pay) s (fun u => answered 0x09 [0] u ∧ stored (pay.drop 4) u)) ∧
      (∀ x, refused true x → Gives (.hostWr32 seq pay) s (fun u => answered 0x09 (fault x a) u ∧ ∀ y, 0x20100000 ≤ y → y < 0x20180000 → u.rb y = s.rb y))) ∧
    (fresh 0x0B → 5 ≤ pay.length → pay.length ≤ 2052 →
      (bank (pay.length - 4) → intact (pay.length - 4) → Gives (.hostWrmem seq pay) s (fun u => answered 0x0B [0] u ∧ stored (pay.drop 4) u)) ∧
      (∀ x, refused true x → Gives (.hostWrmem seq pay) s (fun u => answered 0x0B (fault x a) u ∧ ∀ y, 0x20100000 ≤ y → y < 0x20180000 → u.rb y = s.rb y))) ∧
    -- RESET
    (fresh 0x11 → pay.length = 1 → Gives (.hostReset seq pay) s (fun u => answered 0x11 [0] u ∧ u.hst.port.reset = some (q % 2 == 1) ∧ u.rst = s.rst ∧ only [] u)) ∧
    -- TX_FRAME, RECLAIM and GET_RX
    (fresh 0x12 → 10 ≤ pay.length → pay.length ≤ 2056 →
      (16 ≤ q → Gives (.hostTxFrame seq pay) s (fun u => answered 0x12 [2] u ∧ only [] u)) ∧
      (q < 16 → s.fg (F.HRT_Qn_CFG_OWNER q) ≠ ownHost → Gives (.hostTxFrame seq pay) s (answered 0x12 (fault synOwner (R.HRT_Qn_PROD q)))) ∧
      (q < 16 → s.fg (F.HRT_Qn_CFG_OWNER q) = ownHost → s.fb (F.HRT_Qn_CFG_SEC q) = true →
        Gives (.hostTxFrame seq pay) s (answered 0x12 (fault synSecure (R.HRT_Qn_PROD q)))) ∧
      (q < 16 → s.fg (F.HRT_Qn_CFG_OWNER q) = ownHost → s.fb (F.HRT_Qn_CFG_SEC q) = false → s.hrt.bufHolder.length = 64 →
        let k := s.fg (F.HRT_Qn_PROD_IDX q)
        let dist := (k + 128 - s.fg (F.HRT_Qn_RECL_IDX q)) % 128
        (s.freeBufs.length ≤ s.fg F.HRT_BUF_FREE_RX_RESERVE → Gives (.hostTxFrame seq pay) s (fun u => answered 0x12 [4] u ∧ u.hrt.bufHolder = s.hrt.bufHolder ∧
          u.fg (F.HRT_Qn_PROD_IDX q) = k)) ∧
        (s.fg F.HRT_BUF_FREE_RX_RESERVE < s.freeBufs.length → dist = 64 → Gives (.hostTxFrame seq pay) s (fun u => answered 0x12 [5] u ∧
          u.hrt.bufHolder = s.hrt.bufHolder ∧ u.fg (F.HRT_Qn_PROD_IDX q) = k ∧ u.fg (F.HRT_Qn_STAT_IERR q) = 1)) ∧
        (s.fg F.HRT_BUF_FREE_RX_RESERVE < s.freeBufs.length → dist < 64 → ∃ b, b < 64 ∧ s.holder b = ownNone ∧ Gives (.hostTxFrame seq pay) s (fun u =>
          answered 0x12 (0 :: (leBytes 1 (k % 64) ++ leBytes 1 b)) u ∧ u.fg (F.HRT_Qn_PROD_IDX q) = (k + 1) % 128 ∧ u.mg (D.BUF q (k % 64)) = b ∧
          u.bytes (bufAddr b + 64) (pay.length - 9) = pay.drop 9)))) ∧
    (fresh 0x13 → pay.length = 2 →
      let recl := s.fg (F.HRT_Qn_RECL_IDX q)
      let new := x1 % 128
      let may := (new + 128 - recl) % 128 ≤ 64 ∧ (new + 128 - recl) % 128 ≤ (s.reclLimit q + 128 - recl) % 128
      (32 ≤ q → Gives (.hostReclaim seq pay) s (fun u => answered 0x13 [2] u ∧ only [] u)) ∧
      (q < 32 → s.fg (F.HRT_Qn_CFG_OWNER q) ≠ ownHost → Gives (.hostReclaim seq pay) s (answered 0x13 (fault synOwner (R.HRT_Qn_RECL q)))) ∧
      (q < 32 → s.fg (F.HRT_Qn_CFG_OWNER q) = ownHost → s.fb (F.HRT_Qn_CFG_SEC q) = true →
        Gives (.hostReclaim seq pay) s (answered 0x13 (fault synSecure (R.HRT_Qn_RECL q)))) ∧
      (q < 32 → s.fg (F.HRT_Qn_CFG_OWNER q) = ownHost → s.fb (F.HRT_Qn_CFG_SEC q) = false →
        (may → Gives (.hostReclaim seq pay) s (fun u => answered 0x13 [0] u ∧ u.fg (F.HRT_Qn_RECL_IDX q) = new ∧ only [R.HRT_Qn_RECL q, R.HRT_BUF_FREE] u)) ∧
        (¬ may → Gives (.hostReclaim seq pay) s (fun u => answered 0x13 [5] u ∧ u.fg (F.HRT_Qn_STAT_IERR q) = 1 ∧ only [R.HRT_Qn_STAT q] u)))) ∧
    (fresh 0x14 → pay.length = 2 → 16 ≤ q → q < 32 → x1 < 64 → s.fg (F.HRT_Qn_CFG_OWNER q) = ownHost → s.fb (F.HRT_Qn_CFG_SEC q) = false →
      let there := (s.inRing q x1 && s.mb (D.VERDICT q x1)) = true
      (there → Gives (.hostGetRx seq pay) s (fun u => answered 0x14 [0] u ∧ only [] u ∧
        (⟨true, s.fg F.HST_STAT_NSEQ, 1, s.rxNote q x1 0⟩ : PortFrame) ∈ u.hst.port.out)) ∧
      (¬ there → Gives (.hostGetRx seq pay) s (fun u => answered 0x14 [6] u ∧ only [] u))) ∧
    -- KEYPAGE and KEY_LOAD
    (fresh 0x15 → pay.length = 2 → q = 6 ∨ q = 7 → s.fb ⟨R.VLT_PGn_OWN q, 31, 31⟩ = false →
      let empty := fun (u : State) => ∀ k, k < 8 → (u.key q k).active = []
      (x1 % 2 = 0 → s.pageOwner q = ownNone → Gives (.hostKeypage seq pay) s (fun u => answered 0x15 [0] u ∧ u.pageOwner q = ownHost ∧
        u.fg ⟨R.VLT_PGn_OWN q, 4, 4⟩ = 0 ∧ empty u ∧ s.sameMem u)) ∧
      (x1 % 2 = 0 → s.pageOwner q ≠ ownNone → Gives (.hostKeypage seq pay) s (fun u => answered 0x15 [6] u ∧ only [] u)) ∧
      (x1 % 2 = 1 → s.pageOwner q = ownHost → Gives (.hostKeypage seq pay) s (fun u => answered 0x15 [0] u ∧ u.pageOwner q = ownNone ∧ empty u ∧ s.sameMem u)) ∧
      (x1 % 2 = 1 → s.pageOwner q ≠ ownHost → Gives (.hostKeypage seq pay) s (fun u => answered 0x15 [6] u ∧ only [] u))) ∧
    (fresh 0x16 → q ≠ 6 → q ≠ 7 → pay.length = 20 ∨ pay.length = 36 → Gives (.hostKeyLoad seq pay) s (fun u => answered 0x16 [6] u ∧ only [] u)) ∧
    (fresh 0x16 → q = 6 ∨ q = 7 → x1 < 8 → pay.length = (if 128 ≤ oct pay 2 then 36 else 20) →
      let key := pay.drop 4
      (s.pageOwner q ≠ ownHost → Gives (.hostKeyLoad seq pay) s (fun u => answered 0x16 [6] u ∧ only [] u)) ∧
      (s.pageOwner q = ownHost → Gives (.hostKeyLoad seq pay) s (fun u => answered 0x16 (0 :: leBytes 4 (kcvOf key).toNat) u ∧ (u.key q x1).active = key ∧
        u.fg (F.VLT_PGn_SLOTs_VALID q x1) = 1 ∧ u.fg (F.VLT_PGn_SLOTs_SIZE q x1) = oct pay 2 / 128 ∧ u.fg (F.VLT_PGn_SLOTs_USE q x1) = oct pay 2 % 4 ∧
        u.fg (F.VLT_PGn_SLOTs_KEYIDX q x1) = oct pay 3 ∧ s.sameMem u))) ∧
    -- the end of an SPI transaction
    (∀ m,
      (s.hostOn = false ∨ s.fg F.HST_STAT_MODE = 1 → Gives (.hostTransactionEnd m) s (fun u => u = s)) ∧
      (s.hostOn = true → s.fg F.HST_STAT_MODE ≠ 1 →
        let left := match s.hst.port.out with
          | f :: t => if 7 + f.body.length + (if f.body = [] then 0 else 4) ≤ m then t else f :: t
          | [] => []
        Gives (.hostTransactionEnd m) s (fun u => u.hst.port.out = left ∧ u.hst.port.rx = [] ∧ u.hst.port.skip = 0 ∧ u.hst.port.deaf = false ∧ s.sameMem u ∧
          (s.hst.port.rx = [] → s.sameRegs u []) ∧
          (s.hst.port.rx ≠ [] → u.fg F.HST_ERR_CNT_OVRN = min (s.fg F.HST_ERR_CNT_OVRN + 1) 255 ∧ wBit (u.rd R.HST_EVT) 0 = true ∧ s.sameRegs u [R.HST_ERR_CNT, R.HST_EVT]) ∧
          (∀ cold, s.hst.port.reset = some cold → s.sup.lost = false → s.rst.deferred = [] → left.all (fun f => f.note) = true →
            u.hst.port.reset = none ∧ u.rst.deferred = [⟨11, cold⟩]) ∧
          (s.hst.port.reset = none ∨ left.all (fun f => f.note) = false → u.hst.port.reset = s.hst.port.reset ∧ u.rst = s.rst)))) ∧
    -- frames that reach no command
    (∀ code, 
      let counted := fun (i : Instr) (c : Fld) (e : Nat) => Gives i s (fun u => u.fg c = min (s.fg c + 1) 255 ∧ wBit (u.rd R.HST_EVT) e = true ∧
        u.hst.port.out = s.hst.port.out ∧ u.hst.port.last = s.hst.port.last ∧ u.hst.port.cache = s.hst.port.cache ∧ u.hst.told = s.hst.told ∧ s.sameRegs u [R.HST_ERR_CNT, R.HST_EVT] ∧ s.sameMem u)
      up →
        counted (.portFrameReject false .header) F.HST_ERR_CNT_HDR 3 ∧ counted (.portFrameReject false .payload) F.HST_ERR_CNT_PCRC 2 ∧
        counted (.frameCut false) F.HST_ERR_CNT_OVRN 0 ∧ Gives (.frameCut false) s (fun u => u.hst.port.rx = [] ∧ u.hst.port.skip = 0) ∧
        Gives (.portFrameReject false (.oversize seq code)) s (fun u => u.fg F.HST_ERR_CNT_OVSZ = min (s.fg F.HST_ERR_CNT_OVSZ + 1) 255 ∧
          wBit (u.rd R.HST_EVT) 1 = true ∧ u.hst.port.out = s.hst.port.out ++ [resp code [2]] ∧ u.hst.port.cache = s.hst.port.cache ∧ s.sameRegs u [R.HST_ERR_CNT, R.HST_EVT] ∧ s.sameMem u) ∧
        (code ∉ hostCodes → s.hst.port.last ≠ some (seq, code) → Gives (.portFrameReject false (.badCode seq code pay)) s (fun u =>
          u.hst.port.cache = some (resp code [1]) ∧ u.hst.port.out = s.hst.port.out ++ [resp code [1]] ∧ u.hst.port.last = some (seq, code) ∧
          u.fg F.HST_STAT_SEQ = seq % 256 ∧ s.sameRegs u [R.HST_STAT] ∧ s.sameMem u)))

/-- SVC_HELLO to SVC_PILOT, SESSION_TIMEOUT, and PORT_FRAME_REJECT and FRAME_CUT on the service port (R325, R406-R410, R418-R423,
Tables 14-1, 14-2, 14-6). That the frames of before have been sent when a command arrives, and that LC and OPTIONS leave the token in the token window,
are the model's choices (log 95, DESIGN CHOICE). -/
def Obligations.ServicePort : Prop :=
  ∀ (s : State) (seq : Nat) (pay : List Byte),
    let up := s.svcUp = true
    let len := pay.length
    let resp := fun (code : Nat) (body : List Byte) => (⟨false, seq, code, body⟩ : PortFrame)
    let answered := fun (code : Nat) (body : List Byte) (u : State) => u.svc.port.cache = some (resp code body) ∧ u.svc.port.out = [resp code body] ∧
      u.svc.port.last = some (seq, code) ∧ u.svc.port.wait = none
    let waits := fun (code : Nat) (on : WaitOn) (u : State) => u.svc.port.wait = some (seq, (code, on)) ∧ u.svc.port.out = [] ∧
      u.svc.port.last = some (seq, code) ∧ u.svc.port.cache = none
    let quiet := s.svc.port.reset = none
    let fresh := fun (code : Nat) => up ∧ quiet ∧ s.svc.port.wait = none ∧ s.svc.port.last ≠ some (seq, code) ∧ s.rst.running = none
    let plain := fun (code : Nat) => fresh code ∧ s.session = 2 ∧ s.lifeCycle ≠ lcRetired
    let maker := fun (code : Nat) => plain code ∧ s.lifeCycle = lcMfg
    let only := fun (l : List Nat) (u : State) => s.sameRegs u l ∧ s.sameMem u
    let cmds := [(0x01, Instr.svcHello seq pay), (0x02, .svcAuth seq pay), (0x03, .svcBye seq pay), (0x04, .svcSetBaud seq pay),
      (0x05, .svcChallenge seq pay), (0x08, .svcRd32 seq pay), (0x09, .svcWr32 seq pay), (0x0A, .svcRdmem seq pay), (0x0B, .svcWrmem seq pay),
      (0x10, .svcStatus seq pay), (0x11, .svcReset seq pay), (0x18, .svcImgBegin seq pay), (0x19, .svcImgWrite seq pay), (0x1A, .svcImgEnd seq pay),
      (0x1B, .svcImgStart seq pay), (0x1C, .svcImgInstall seq pay), (0x1D, .svcImgCommit seq pay), (0x1E, .svcImgRollback seq pay),
      (0x1F, .svcImgAbort seq pay), (0x20, .svcKeyLoad seq pay), (0x21, .svcCfgCommit seq pay), (0x28, .svcAshRead seq pay),
      (0x29, .svcAshClear seq pay), (0x30, .svcLc seq pay), (0x31, .svcOptions seq pay), (0x38, .svcPilot seq pay)]
    let tagOf := fun (dir ctr ty n : Nat) (p : List Byte) =>
      (cmac (s.key 4 1).active (leBytes 1 dir ++ leBytes 4 ctr ++ leBytes 1 0xC8 ++ leBytes 1 ty ++ leBytes 1 seq ++ leBytes 2 n ++ p)).take 8
    let a := octs pay 0 4
    let n := octs pay 4 2
    let b0 := oct pay 0
    let bank := fun (m : Nat) => 0x20100000 ≤ a ∧ a + m ≤ 0x20180000
    let intact := fun (m : Nat) => ∀ k, k < m → (a + k) / 4 * 4 ∉ s.eccBad
    let stored := fun (l : List Byte) (u : State) => (∀ k, k < l.length → u.rb (a + k) = nth l k 0) ∧ (∀ x, x < a ∨ a + l.length ≤ x → u.rb x = s.rb x) ∧
      s.sameRegs u []
    let refused := fun (wr : Bool) (x : Nat) => x ≠ 0 ∧ s.memSyn ownSvc true a wr = x ∧ regionOf a ≠ .periph (a / 0x1000)
    let fault := fun (x : Nat) => leBytes 1 3 ++ leBytes 1 x ++ leBytes 4 a
    let closed := fun (u : State) => u.session = 0 ∧ u.fg F.SVC_EVT_CLOSED = 1 ∧ u.rd R.SVC_BAUD = w32 s.svcBaud ∧ (∀ k, k < 8 → (u.key 4 k).active = []) ∧
      u.svc.tagFails = 0 ∧ u.svc.rxCtr = 0 ∧ u.svc.drew = [] ∧ s.sameMem u
    -- any command
    (∀ c ∈ cmds,
      (¬ up → Gives c.2 s (fun u => u = s)) ∧
      (∀ cold, up → s.svc.port.reset = some cold → s.sup.lost = false → Gives c.2 s (fun u => u.rst.deferred = [⟨12, cold⟩] ∧
        u.svc.port.out = [] ∧ u.svc.port.reset = none ∧ u.svc.port.last = s.svc.port.last ∧ only [] u)) ∧
      (seq < 256 → len ≤ 2176 → s.svc.port.rx = [] → s.svc.port.skip = 0 → s.svc.port.deaf = false → s.lenOk true c.1 len = true →
        Sys2Proof.Machine.exec (.portFrameReject true (.octets (frameOctets true c.1 seq pay))) s = Sys2Proof.Machine.exec c.2 s) ∧
      (up → quiet → s.svc.port.wait.isSome = true → Gives c.2 s (fun u => u.fg ⟨R.SVC_ERR_CNT, 7, 0⟩ = min (s.fg ⟨R.SVC_ERR_CNT, 7, 0⟩ + 1) 255 ∧
        u.svc.port.wait = s.svc.port.wait ∧ only [R.SVC_ERR_CNT] u)) ∧
      (∀ f, up → quiet → s.svc.port.wait = none → s.svc.port.last = some (seq, c.1) → s.svc.port.cache = some f → Gives c.2 s (fun u =>
        u.svc.port.out = [f] ∧ u.svc.port.last = s.svc.port.last ∧ only [] u)) ∧
      (fresh c.1 → s.session ≠ 3 → svcLen c.1 len = false → Gives c.2 s (fun u => u.svc.port.out = [resp c.1 [2]] ∧ u.svc.port.last = s.svc.port.last ∧ u.svc.port.cache = s.svc.port.cache ∧
        only [R.SVC_ERR_CNT] u)) ∧
      (fresh c.1 → s.session ≠ 3 → svcLen c.1 len = true →
        (s.session = 0 ∧ c.1 ≠ 0x01) ∨ (s.session = 1 ∧ c.1 ≠ 0x01 ∧ c.1 ≠ 0x02) ∨
          (s.lifeCycle ≠ lcMfg ∧ c.1 ∈ [0x08, 0x09, 0x0A, 0x0B, 0x1D, 0x1E, 0x1F, 0x21, 0x29]) ∨ (s.lifeCycle = lcRetired ∧ c.1 ∉ svcRt) →
        Gives c.2 s (fun u => answered c.1 [6] u ∧ only [] u)) ∧
      (fresh c.1 → s.session = 3 → 8 ≤ len → svcLen c.1 (len - 8) = true → pay.drop (len - 8) ≠ tagOf 0 s.svc.rxCtr c.1 len (pay.take (len - 8)) →
        (s.svc.tagFails < 2 → Gives c.2 s (fun u => u.fg F.SVC_EVT_TAG_FAIL = 1 ∧ u.svc.tagFails = s.svc.tagFails + 1 ∧ u.svc.port.out = [] ∧ u.session = 3 ∧
          u.svc.port.last = s.svc.port.last ∧ only [R.SVC_EVT] u)) ∧
        (2 ≤ s.svc.tagFails → Gives c.2 s (fun u => u.fg F.SVC_EVT_TAG_FAIL = 1 ∧ u.svc.port.out = [] ∧ closed u)))) ∧
    (fresh 0x10 → s.session = 3 → len = 8 → pay = tagOf 0 s.svc.rxCtr 0x10 8 [] →
      let body := 0 :: s.statusBody
      Gives (.svcStatus seq pay) s (fun u => answered 0x10 (body ++ tagOf 1 s.svc.txCtr 0x90 (body.length + 8) body) u ∧
        u.svc.rxCtr = (s.svc.rxCtr + 1) % 0x100000000 ∧ u.svc.txCtr = (s.svc.txCtr + 1) % 0x100000000 ∧ only [] u)) ∧
    -- the session
    (fresh 0x01 → s.session ≠ 3 → len = 0 →
      let uid := leBytes 4 (s.rd R.LCS_UID_LO).toNat ++ leBytes 4 (s.rd R.LCS_UID_HI).toNat ++ leBytes 4 (s.rd R.LCS_STATE).toNat
      let after := fun (u : State) => u.session = (if s.session = 0 then 1 else s.session) ∧ s.sameMem u
      (s.fb F.LCS_DBG_CHAL_VALID = true → Gives (.svcHello seq pay) s (fun u => answered 0x01 (0 :: (uid ++ s.chalNow)) u ∧ after u)) ∧
      (s.fb F.LCS_DBG_CHAL_VALID = false → s.trngFail = false → Gives (.svcHello seq pay) s (fun u => answered 0x01 (0 :: (uid ++ u.chalNow)) u ∧
        u.fg F.LCS_DBG_CHAL_VALID = 1 ∧ u.svc.drew = u.chalNow ∧ after u))) ∧
    (fresh 0x02 → s.session = 1 ∨ s.session = 2 →
      let free := pay = [] ∧ s.lifeCycle = lcMfg ∧ s.fb F.LCS_STATE_OWNER_SET = false
      let tool := (pay.drop 0x20).take 16
      let code := s.tokenCheck pay 7 (tool ++ List.replicate 16 0)
      let opened := fun (u : State) => u.fg F.SVC_EVT_OPENED = 1 ∧ u.fg F.SVC_AUTH_CNT_OK = min (s.fg F.SVC_AUTH_CNT_OK + 1) 0xFFFF ∧ s.sameMem u
      (free → Gives (.svcAuth seq pay) s (fun u => u.session = 2 ∧ answered 0x02 [0, 2] u ∧ opened u)) ∧
      (¬ free → len = 0 ∨ len = 192 → code = 0 → Gives (.svcAuth seq pay) s (fun u => (u.session = 2 ∨ u.session = 3) ∧ (s.optFail = true ∨ s.noCopy = true → u.session = 2) ∧ opened u ∧
        (u.session = 2 → answered 0x02 [0, 2] u) ∧ (u.session = 3 → (u.key 4 1).active = cmac (u.key 4 0).active (s.chalNow ++ tool)))) ∧
      (¬ free → len = 0 ∨ len = 192 → code ≠ 0 → Gives (.svcAuth seq pay) s (fun u => answered 0x02 (7 :: leBytes 1 code) u ∧ u.session = s.session ∧
        u.fg F.SVC_EVT_AUTH_FAIL = 1 ∧ u.fg F.SVC_AUTH_CNT_FAIL = min (s.fg F.SVC_AUTH_CNT_FAIL + 1) 0xFFFF ∧ s.sameMem u))) ∧
    (plain 0x03 → len = 0 → Gives (.svcBye seq pay) s (fun u => answered 0x03 [0] u ∧ closed u)) ∧
    (s.session ≠ 0 → Gives .sessionTimeout s closed) ∧
    (s.session = 0 → Gives .sessionTimeout s (fun u => u = s)) ∧
    (plain 0x04 → len = 4 →
      (9600 ≤ a → a ≤ 3000000 → Gives (.svcSetBaud seq pay) s (fun u => answered 0x04 [0] u ∧ u.rd R.SVC_BAUD = w32 a ∧ only [R.SVC_BAUD] u)) ∧
      (a < 9600 ∨ 3000000 < a → Gives (.svcSetBaud seq pay) s (fun u => answered 0x04 [2] u ∧ only [] u))) ∧
    (plain 0x05 → len = 0 →
      (s.trngFail = false → Gives (.svcChallenge seq pay) s (fun u => answered 0x05 (0 :: u.chalNow) u ∧ u.svc.drew = u.chalNow ∧
        u.fg F.LCS_DBG_CHAL_VALID = 1 ∧ s.sameMem u)) ∧
      (s.trngFail = true → Gives (.svcChallenge seq pay) s (fun u => answered 0x05 [6] u ∧ u.fg F.LCS_DBG_CHAL_VALID = 0 ∧ s.sameMem u))) ∧
    -- accesses, STATUS and RESET
    (maker 0x08 → len = 6 → 1 ≤ n → n ≤ 256 → a % 4 = 0 →
      (bank (4 * n) → intact (4 * n) → Gives (.svcRd32 seq pay) s (fun u => answered 0x08 (0 :: s.bytes a (4 * n)) u ∧ only [] u)) ∧
      (∀ x, refused false x → Gives (.svcRd32 seq pay) s (answered 0x08 (fault x)))) ∧
    (maker 0x0A → len = 6 → 1 ≤ n → n ≤ 2048 →
      (bank n → intact n → Gives (.svcRdmem seq pay) s (fun u => answered 0x0A (0 :: s.bytes a n) u ∧ only [] u)) ∧
      (∀ x, refused false x → Gives (.svcRdmem seq pay) s (answered 0x0A (fault x)))) ∧
    (maker 0x09 → 8 ≤ len → len ≤ 1028 → len % 4 = 0 → a % 4 = 0 →
      (bank (len - 4) → Gives (.svcWr32 seq pay) s (fun u => answered 0x09 [0] u ∧ stored (pay.drop 4) u)) ∧
      (∀ x, refused true x → Gives (.svcWr32 seq pay) s (answered 0x09 (fault x)))) ∧
    (maker 0x0B → 5 ≤ len → len ≤ 2052 →
      (bank (len - 4) → intact (len - 4) → Gives (.svcWrmem seq pay) s (fun u => answered 0x0B [0] u ∧ stored (pay.drop 4) u)) ∧
      (∀ x, refused true x → Gives (.svcWrmem seq pay) s (answered 0x0B (fault x)))) ∧
    (plain 0x10 → len = 0 → Gives (.svcStatus seq pay) s (fun u => answered 0x10 (0 :: s.statusBody) u ∧ only [] u)) ∧
    (plain 0x11 → len = 1 → Gives (.svcReset seq pay) s (fun u => answered 0x11 [0] u ∧ u.svc.port.reset = some (b0 % 2 == 1) ∧ u.rst = s.rst ∧ only [] u)) ∧
    -- images
    (let given := fun (op kind : Nat) (u : State) => u.fg CsId.upd.writer = ownSvc ∧ u.fg F.UPD_CMD_OP = op ∧ u.fg F.UPD_CMD_KIND = kind
      let st := s.uState
      let may := s.csOk .upd ownSvc true = true
      let busy := fun (code : Nat) (i : Instr) => s.csOk .upd ownSvc true = false → Gives i s (fun u => answered code [8] u ∧ only [] u)
      (plain 0x18 → len = 1 ∨ len = 2 →
        let op := if b0 % 2 = 1 then 2 else 1
        let k := oct pay 1
        (b0 / 2 % 2 = 0 → busy 0x18 (.svcImgBegin seq pay)) ∧
        (b0 / 2 % 2 = 0 → may → Gives (.svcImgBegin seq pay) s (fun u => waits 0x18 .upd u ∧ given op 0 u ∧
          (op = 1 → st = uIdle → s.uRefusal = 0 → u.uState = uErasing))) ∧
        (b0 / 2 % 2 = 1 → len < 2 ∨ k < 2 ∨ 7 < k → Gives (.svcImgBegin seq pay) s (fun u => answered 0x18 [2] u ∧ only [] u)) ∧
        (b0 / 2 % 2 = 1 → len = 2 → 2 ≤ k → k ≤ 7 → may → Gives (.svcImgBegin seq pay) s (fun u => waits 0x18 .upd u ∧ given op 1 u ∧
          u.fg F.UPD_CFG_KEY_PAGE = 4 ∧ u.fg F.UPD_CFG_KEY_SLOT = k ∧ (op = 1 → s.uOpWaits 1 1 = false → st = uIdle → s.uRefusal = 0 → u.uState = uErasing)))) ∧
      (plain 0x19 → 260 ≤ len → len ≤ 2052 → busy 0x19 (.svcImgWrite seq pay) ∧
        (may → Gives (.svcImgWrite seq pay) s (fun u => waits 0x19 .upd u ∧ given 3 s.uKind u ∧ u.fg F.UPD_LEN_LEN = len - 4 ∧ u.upd.data = pay.drop 4))) ∧
      (plain 0x1A → len = 0 → busy 0x1A (.svcImgEnd seq pay) ∧ (may → Gives (.svcImgEnd seq pay) s (fun u => waits 0x1A .upd u ∧ given 4 s.uKind u ∧
        (st = uReceiving → s.uLow = false → s.uBankBusy = true ∨ s.uSigned = true → u.uState = uVerifying)))) ∧
      (plain 0x1B → len = 0 → busy 0x1B (.svcImgStart seq pay) ∧ (may → Gives (.svcImgStart seq pay) s (fun u => waits 0x1B .upd u ∧ given 5 s.uKind u ∧
        (s.uOpWaits 5 0 = false → s.startCode = 0 → u.uState = uLoading)))) ∧
      (plain 0x1C → len = 0 → busy 0x1C (.svcImgInstall seq pay) ∧ (may → Gives (.svcImgInstall seq pay) s (fun u => waits 0x1C .upd u ∧ given 6 s.uKind u ∧
        (st = uVerified → s.uKind = 0 → s.bankBusy s.uTarget = false → s.seg1 s.uTarget = true → s.uRefusal = 0 → u.upd.install = true)))) ∧
      (maker 0x1D → len = 0 → busy 0x1D (.svcImgCommit seq pay) ∧ (may → Gives (.svcImgCommit seq pay) s (fun u => waits 0x1D .upd u ∧ given 8 s.uKind u ∧
        (st = uProbation → s.uLow = false → u.uState = uCommit)))) ∧
      (maker 0x1E → len = 0 → busy 0x1E (.svcImgRollback seq pay) ∧ (may → Gives (.svcImgRollback seq pay) s (fun u => waits 0x1E .upd u ∧ given 9 s.uKind u ∧
        (st = uProbation → s.noBoundary = false → u.uState = uRollback)))) ∧
      (maker 0x1F → len = 0 → may → Gives (.svcImgAbort seq pay) s (fun u => waits 0x1F .upd u ∧ given 7 s.uKind u ∧
        (uErasing ≤ st → st ≤ uVerified → u.uState = uIdle)))) ∧
    -- keys, configuration, Ash
    (plain 0x20 → s.lifeCycle = lcMfg ∨ s.fg F.HRT_STAT_STATE = hNoConfig → len = 34 →
      let key := if 128 ≤ oct pay 1 then pay.drop 2 else (pay.drop 2).take 16
      (b0 < 2 ∨ 7 < b0 → Gives (.svcKeyLoad seq pay) s (fun u => answered 0x20 [2] u ∧ only [] u)) ∧
      (2 ≤ b0 → b0 ≤ 7 → Gives (.svcKeyLoad seq pay) s (fun u => answered 0x20 (0 :: leBytes 4 (kcvOf key).toNat) u ∧ (u.key 4 b0).active = key ∧
        u.fg (F.VLT_PGn_SLOTs_VALID 4 b0) = 1 ∧ u.fg (F.VLT_PGn_SLOTs_SIZE 4 b0) = oct pay 1 / 128 ∧ s.sameMem u))) ∧
    (maker 0x21 → len = 5 →
      (s.stgOk .config ownSvc = false → Gives (.svcCfgCommit seq pay) s (fun u => answered 0x21 [8] u ∧ only [] u)) ∧
      (s.stgOk .config ownSvc = true → Gives (.svcCfgCommit seq pay) s (fun u => waits 0x21 .cfg u ∧ u.fg SetId.config.tl = 0 ∧ s.sameMem u ∧
        (s.noCopy = true → u.fg SetId.config.when = 0 ∧ u.rd R.UPD_CFG_CASN = s.rd R.UPD_CFG_CASN) ∧
        (s.noCopy = false → u.fg SetId.config.when = 2 ∧ u.rd R.UPD_CFG_CASN = w32 a ∧ u.fg SetId.config.asnHi = oct pay 4)))) ∧
    (plain 0x28 → len = 5 →
      let m := oct pay 4
      (m = 0 ∨ 64 < m → Gives (.svcAshRead seq pay) s (fun u => answered 0x28 [2] u ∧ only [] u)) ∧
      (1 ≤ m → m ≤ 64 → s.csOk .ashRd ownSvc true = true → Gives (.svcAshRead seq pay) s (fun u => waits 0x28 (.ash a m []) u ∧ u.ash.readReq = some a ∧
        u.fg CsId.ashRd.writer = ownSvc ∧ s.sameMem u)) ∧
      (1 ≤ m → m ≤ 64 → s.csOk .ashRd ownSvc true = false → Gives (.svcAshRead seq pay) s (fun u => answered 0x28 [8] u ∧ only [] u))) ∧
    (maker 0x29 → len = 0 →
      (s.ash.clr.isSome = true → Gives (.svcAshClear seq pay) s (fun u => answered 0x29 [0, 1] u ∧ only [] u)) ∧
      (s.uLow = true → s.ash.clr = none → Gives (.svcAshClear seq pay) s (fun u => answered 0x29 [0, 5] u ∧ only [] u)) ∧
      (s.uLow = false → s.ash.clr = none → Gives (.svcAshClear seq pay) s (fun u => waits 0x29 .clr u ∧ u.fg F.ASH_STAT_CLEARING = 1 ∧ u.ash.clr.isSome = true ∧
        s.sameMem u))) ∧
    -- LC, OPTIONS, PILOT
    (plain 0x30 → len = 193 →
      let window := fun (u : State) => u.rd R.LCS_CMD_ARG = w32 (R.LCS_TOKENn 0) ∧ ∀ i : Fin 48, u.rd (R.LCS_TOKENn i) = w32 (ofBe ((pay.drop (1 + 4 * (i : Nat))).take 4))
      (b0 = 0 ∨ 6 < b0 → b0 < 16 → Gives (.svcLc seq pay) s (fun u => answered 0x30 [0, 1] u ∧ u.fg F.LCS_CMD_RES_CODE = 1 ∧ window u ∧ s.sameMem u)) ∧
      (b0 = 1 → s.lifeCycle = lcMfg → s.fb F.LCS_STATE_OWNER_SET = false → s.supplyOk = true → Gives (.svcLc seq pay) s (fun u => answered 0x30 [0, 0] u ∧
        window u ∧ u.fg F.LCS_STATE_OWNER_SET = 1 ∧ u.ownerHash = (pay.drop 1).take 32 ∧ s.sameMem u)) ∧
      (b0 = 2 → s.lifeCycle = lcMfg → s.fb F.LCS_STATE_OWNER_SET = true → s.supplyOk = true → Gives (.svcLc seq pay) s (fun u => u.fuse.fo = max s.fuse.fo 2 ∧
        u.rst.running = some .reset ∧ u.fg F.RST_CAUSE_CAUSE = 13 ∧ u.vlt.keys = [])) ∧
      (b0 = 6 → s.trngFail = false → Gives (.svcLc seq pay) s (fun u => answered 0x30 [0, 0] u ∧ u.fg F.LCS_DBG_CHAL_VALID = 1 ∧ s.sameMem u)) ∧
      (b0 = 6 → s.trngFail = true → Gives (.svcLc seq pay) s (fun u => answered 0x30 [0, 6] u ∧ s.sameMem u))) ∧
    (plain 0x31 → len = 224 →
      (s.csOk .knd ownSvc true = false → Gives (.svcOptions seq pay) s (fun u => answered 0x31 [8] u ∧ only [] u)) ∧
      (s.csOk .knd ownSvc true = true → Gives (.svcOptions seq pay) s (fun u => waits 0x31 .knd u ∧ u.fg CsId.knd.writer = ownSvc ∧ s.sameMem u ∧
        (∀ k : Fin 8, u.rd (R.KND_OPT_STGm k) = w32 (octs pay (4 * (k : Nat)) 4)) ∧ u.rd R.KND_OPT_ARG = w32 (R.LCS_TOKENn 0) ∧
        (∀ i : Fin 48, u.rd (R.LCS_TOKENn i) = w32 (ofBe ((pay.drop (32 + 4 * (i : Nat))).take 4))) ∧
        (s.supplyOk = false → u.fg CsId.knd.code = 5 ∧ u.fg CsId.knd.state = 3) ∧
        (s.supplyOk = true → s.lifeCycle = lcMfg → u.rst.opt.isSome = true ∧ u.fg CsId.knd.state = 1)))) ∧
    (plain 0x38 → 1 ≤ len →
      (s.pilotRuns = false → Gives (.svcPilot seq pay) s (fun u => answered 0x38 [6] u ∧ only [] u)) ∧
      (s.pilotRuns = true → (s.pil.wait.isSome || s.pil.reset.isSome) = true → Gives (.svcPilot seq pay) s (fun u => answered 0x38 [0, 3] u ∧ only [] u)) ∧
      (s.pilotRuns = true → s.pil.wait = none → s.pil.reset = none → pay = [1] → Gives (.svcPilot seq pay) s (fun u =>
        answered 0x38 (0 :: 0 :: s.statusBody) u ∧ only [] u))) ∧
    -- frames that reach no command
    (∀ code,
      let counted := fun (i : Instr) (hi lo : Nat) => Gives i s (fun u => u.fg ⟨R.SVC_ERR_CNT, hi, lo⟩ = min (s.fg ⟨R.SVC_ERR_CNT, hi, lo⟩ + 1) 255 ∧
        u.svc.port.out = s.svc.port.out ∧ u.svc.port.last = s.svc.port.last ∧ u.svc.port.wait = s.svc.port.wait ∧ only [R.SVC_ERR_CNT] u)
      up →
        counted (.portFrameReject true .header) 31 24 ∧ counted (.portFrameReject true .payload) 23 16 ∧ counted (.frameCut true) 7 0 ∧ Gives (.frameCut true) s (fun u => u.svc.port.rx = [] ∧ u.svc.port.skip = 0) ∧
        (s.session ≠ 3 → s.svc.port.wait = none → Gives (.portFrameReject true (.oversize seq code)) s (fun u => u.fg ⟨R.SVC_ERR_CNT, 15, 8⟩ = min (s.fg ⟨R.SVC_ERR_CNT, 15, 8⟩ + 1) 255 ∧
          u.svc.port.out = s.svc.port.out ++ [resp code [2]] ∧ u.svc.port.cache = s.svc.port.cache ∧ only [R.SVC_ERR_CNT] u)) ∧
        (s.session ≠ 3 → code ∉ svcCodes → s.svc.port.wait = none → s.svc.port.last ≠ some (seq, code) →
          Gives (.portFrameReject true (.badCode seq code pay)) s (fun u => u.svc.port.cache = some (resp code [1]) ∧ u.svc.port.last = some (seq, code) ∧
            u.svc.port.out = s.svc.port.out ++ [resp code [1]] ∧ only [] u)))

/-- From every state, a step leaves no reset cause that could be taken (R306): the invariant State.resetsTaken. -/
def Obligations.StepKeepsResetsTaken : Prop :=
  ∀ s t : State, step s = .next t → t.resetsTaken = true

/-- From every state, a step leaves the host told of HRT_EVT and HRT_STAT (Table 14-5): the invariant State.hostTold. -/
def Obligations.StepKeepsHostTold : Prop :=
  ∀ s t : State, step s = .next t → t.hostTold = true

/-- State.wf, State.resetsTaken and State.hostTold hold at State.reset. -/
def Obligations.InvariantsHoldAtReset : Prop :=
  Memory.wf State.reset.mem = true ∧ Registers.wf State.reset.regs = true ∧ State.reset.resetsTaken = true ∧ State.reset.hostTold = true ∧
    State.reset.pending = []

/-- State.reset by the Reset columns (R9, R39, R163, R308, R332). -/
def Obligations.ResetState : Prop :=
  let s := State.reset
  (∀ p ∈ [(R.PWR_CFG, 1), (R.PWR_BUDGET, 0x640), (R.PWR_WAKE_EN, 0x43), (R.RST_WDT_A_CNT, 0x10000), (R.RST_WDT_B_CNT, 0x10000), (R.KND_OPT_RES, 0x700000),
      (R.EMB_REG31, 0x19000300), (R.CLK_STAT, 0x4000000), (R.SUP_KEEP_THR, 0x9C4), (R.SUP_VREG_CFG, 1), (R.SUP_CHG_COMMIT, 0x7000), (R.SUP_CHG_NTC, 0xBB0054),
      (R.PAD_CFGn 0, 0x7101200), (R.PAD_CFGn 8, 0x7101400), (R.PAD_CFGn 14, 0x6101310), (R.PAD_CFGn 15, 0x6101510), (R.PAD_CFGn 63, 0x7101000)],
    s.rd p.1 = w32 p.2) ∧
  (∀ p ∈ [(R.RTC_COMMIT, 0x7000), (R.FLU_CHc_CFG 47, 0x7100000), (R.ASH_RD_STAT, 0x700000), (R.FLC_STAT, 0xF00000), (R.UPD_RES, 0x700000),
      (R.UPD_POLICY0, 0xA0BB8), (R.UPD_POLICY1, 0x14003C), (R.UPD_PROB_TIME, 0x15180), (R.UPD_MOTION_AGO, 0xFFFFFFFF), (R.VLT_PGn_OWN 0, 0x10),
      (R.VLT_PGn_OWN 4, 0x14), (R.VLT_PGn_OWN 7, 0x17), (R.VLT_CMD_RES, 0x700000), (R.LCE_JOB_RES, 0x700000), (R.HRT_ID, 0x10000), (R.HRT_BUF_FREE, 0x3E),
      (R.HRT_SNAP_STAT, 0x7000000), (R.HRT_Qn_CFG 0, 0x7000000), (R.HRT_Qn_CFG 31, 0x7000100), (R.HRT_SCH_COMMIT, 0x7000), (R.HRT_EXCL_A0, 0xFFFFFFFF),
      (R.HRT_TS_A, 0xFF0000), (R.RFA_STAT, 0xFF00), (R.RFA_CALPER, 0x258), (R.RFA_FBL_LIM, 0x100064), (R.RFA_FBL_UNITS, 0x20)],
    s.rd p.1 = w32 p.2) ∧
  (∀ p ∈ [(R.LUM_DALI_CFG, 0x3000000), (R.LUM_RLY_CFG, 0x320000), (R.LUM_OWN, 0x17), (R.MET_CAL_ACT_V, 0x400000), (R.SEn_RATE 3, 0x1C200),
      (R.TMR_TOPt 3, 0xFFFFFFFF), (R.ADC_LIMk 7, 0xFFF0000), (R.DMA_CHn_CFG 15, 0x7000000), (R.INT_CLAIM_A, 0x7F), (R.INT_CLAIM_B, 0x7F),
      (R.HST_BAUD, 0x1C200), (R.HST_OWN, 0x17), (R.SVC_STAT, 0), (R.HST_CMD_CNT, 0), (R.HRT_EVT, 0)],
    s.rd p.1 = w32 p.2) ∧
  (∀ a, 0x10000000 ≤ a → a < 0x10800000 → s.rb a = 0xFF) ∧
  (∀ a, 0x20000000 ≤ a → a < 0x30080000 → s.rb a = 0) ∧
  (∀ x ∈ SetId.all, s.fg x.state = 0 ∧ s.fg x.writer = ownNone) ∧
  (∀ c ∈ [CsId.upd, .knd, .ashRd, .ashClr], s.fg c.state = 0 ∧ s.fg c.writer = ownNone) ∧
  s.lifeCycle = lcMfg ∧ s.session = 0 ∧ s.uState = uIdle ∧ s.fuse.rootKill = false ∧ s.vlt.keys = [] ∧ s.flc.running = none
end

