-- ==== Sys2Proof/Laws/Sparse.lean ====
section
/-! SUPPORT. Sparse maps: a read after a write, and the canonical form kept by every operation. -/

namespace Sys2Proof.Machine

variable {α : Type} {d : Nat → α}

theorem Sparse.get_erase_ne (l : List (Nat × α)) {k j : Nat} (h : j ≠ k) : Sparse.get d (Sparse.erase l k) j = Sparse.get d l j := by
  induction l with
  | nil => rfl
  | cons p t ih =>
    obtain ⟨a, v⟩ := p
    by_cases ha : a = k
    · subst ha; simp [Sparse.erase, Sparse.get, ih, Ne.symm h]
    · simp only [Sparse.erase, ha, if_false, Sparse.get, ih]

theorem Sparse.get_erase_self (l : List (Nat × α)) (k : Nat) : Sparse.get d (Sparse.erase l k) k = d k := by
  induction l with
  | nil => rfl
  | cons p t ih =>
    obtain ⟨a, v⟩ := p
    by_cases ha : a = k <;> simp [Sparse.erase, Sparse.get, ha, ih]

theorem Sparse.get_insert_ne (l : List (Nat × α)) {k j : Nat} (v : α) (h : j ≠ k) :
    Sparse.get d (Sparse.insert l k v) j = Sparse.get d l j := by
  induction l with
  | nil => simp [Sparse.insert, Sparse.get, Ne.symm h]
  | cons p t ih =>
    obtain ⟨a, w⟩ := p
    by_cases hk : k < a
    · simp [Sparse.insert, Sparse.get, hk, Ne.symm h]
    · simp only [Sparse.insert, hk, if_false, Sparse.get, ih]

theorem Sparse.get_insert_self (l : List (Nat × α)) (k : Nat) (v : α) (h : ∀ p ∈ l, p.1 ≠ k) :
    Sparse.get d (Sparse.insert l k v) k = v := by
  induction l with
  | nil => simp [Sparse.insert, Sparse.get]
  | cons p t ih =>
    obtain ⟨a, w⟩ := p
    by_cases hk : k < a
    · simp [Sparse.insert, Sparse.get, hk]
    · have ha : a ≠ k := h (a, w) (by simp)
      simp [Sparse.insert, Sparse.get, hk, ha, ih (fun q hq => h q (by simp [hq]))]

theorem Sparse.erase_fst_ne (l : List (Nat × α)) (k : Nat) : ∀ p ∈ Sparse.erase l k, p.1 ≠ k := by
  induction l with
  | nil => simp [Sparse.erase]
  | cons p t ih =>
    obtain ⟨a, v⟩ := p
    by_cases ha : a = k
    · simpa [Sparse.erase, ha] using ih
    · intro q hq
      simp [Sparse.erase, ha] at hq
      rcases hq with rfl | hq
      · exact ha
      · exact ih q hq

section
variable [DecidableEq α]

/-- A read after a write to the same place gives the value written. -/
@[simp] theorem Sparse.get_put_self (l : List (Nat × α)) (k : Nat) (v : α) : Sparse.get d (Sparse.put d l k v) k = v := by
  unfold Sparse.put
  split
  · next h => simp [Sparse.get_erase_self, h]
  · exact Sparse.get_insert_self _ _ _ (Sparse.erase_fst_ne l k)

/-- A write leaves every other place alone. -/
theorem Sparse.get_put_ne (l : List (Nat × α)) {k j : Nat} (v : α) (h : j ≠ k) : Sparse.get d (Sparse.put d l k v) j = Sparse.get d l j := by
  unfold Sparse.put
  split
  · exact Sparse.get_erase_ne l h
  · rw [Sparse.get_insert_ne _ _ h, Sparse.get_erase_ne l h]

theorem Sparse.above_mono {lo lo' : Nat} (h : lo' ≤ lo) {l : List (Nat × α)} (w : Sparse.above d lo l = true) : Sparse.above d lo' l = true := by
  cases l with
  | nil => rfl
  | cons p t =>
    obtain ⟨a, v⟩ := p
    simp only [Sparse.above, Bool.and_eq_true, decide_eq_true_eq] at w ⊢
    exact ⟨⟨Nat.le_trans h w.1.1, w.1.2⟩, w.2⟩

theorem Sparse.above_erase {lo : Nat} {l : List (Nat × α)} (k : Nat) (w : Sparse.above d lo l = true) : Sparse.above d lo (Sparse.erase l k) = true := by
  induction l generalizing lo with
  | nil => rfl
  | cons p t ih =>
    obtain ⟨a, v⟩ := p
    simp only [Sparse.above, Bool.and_eq_true, decide_eq_true_eq] at w
    by_cases ha : a = k
    · simp only [Sparse.erase, ha, if_true]
      exact Sparse.above_mono (by omega) (ih w.2)
    · simp only [Sparse.erase, ha, if_false, Sparse.above, Bool.and_eq_true, decide_eq_true_eq]
      exact ⟨w.1, ih w.2⟩

theorem Sparse.above_insert {lo : Nat} {l : List (Nat × α)} {k : Nat} {v : α} (hk : lo ≤ k) (hv : v ≠ d k)
    (hn : ∀ p ∈ l, p.1 ≠ k) (w : Sparse.above d lo l = true) : Sparse.above d lo (Sparse.insert l k v) = true := by
  induction l generalizing lo with
  | nil => simp [Sparse.insert, Sparse.above, hk, hv]
  | cons p t ih =>
    obtain ⟨a, x⟩ := p
    simp only [Sparse.above, Bool.and_eq_true, decide_eq_true_eq] at w
    have ha : a ≠ k := hn (a, x) (by simp)
    by_cases hlt : k < a
    · simp only [Sparse.insert, hlt, if_true, Sparse.above, Bool.and_eq_true, decide_eq_true_eq]
      exact ⟨⟨hk, hv⟩, ⟨by omega, w.1.2⟩, w.2⟩
    · simp only [Sparse.insert, hlt, if_false, Sparse.above, Bool.and_eq_true, decide_eq_true_eq]
      exact ⟨w.1, ih (by omega) (fun q hq => hn q (by simp [hq])) w.2⟩

/-- A write keeps the canonical form. -/
theorem Sparse.wf_put {l : List (Nat × α)} (k : Nat) (v : α) (w : Sparse.wf d l = true) : Sparse.wf d (Sparse.put d l k v) = true := by
  unfold Sparse.wf at w ⊢
  unfold Sparse.put
  split
  · exact Sparse.above_erase k w
  · next h => exact Sparse.above_insert (Nat.zero_le k) h (Sparse.erase_fst_ne l k) (Sparse.above_erase k w)

theorem Sparse.above_drop {lo : Nat} {l : List (Nat × α)} (p : Nat → Bool) (w : Sparse.above d lo l = true) : Sparse.above d lo (Sparse.drop p l) = true := by
  induction l generalizing lo with
  | nil => rfl
  | cons q t ih =>
    obtain ⟨a, v⟩ := q
    simp only [Sparse.above, Bool.and_eq_true, decide_eq_true_eq] at w
    by_cases hp : p a = true
    · have : Sparse.drop p ((a, v) :: t) = Sparse.drop p t := by simp [Sparse.drop, hp]
      rw [this]
      exact Sparse.above_mono (by omega) (ih w.2)
    · have : Sparse.drop p ((a, v) :: t) = (a, v) :: Sparse.drop p t := by simp [Sparse.drop, hp]
      rw [this]
      simp only [Sparse.above, Bool.and_eq_true, decide_eq_true_eq]
      exact ⟨w.1, ih w.2⟩

/-- Putting addresses back to their unlisted value keeps the canonical form. -/
theorem Sparse.wf_drop {l : List (Nat × α)} (p : Nat → Bool) (w : Sparse.wf d l = true) : Sparse.wf d (Sparse.drop p l) = true :=
  Sparse.above_drop p w

end

theorem Sparse.get_drop_out (l : List (Nat × α)) {p : Nat → Bool} {k : Nat} (h : p k = false) : Sparse.get d (Sparse.drop p l) k = Sparse.get d l k := by
  induction l with
  | nil => rfl
  | cons q t ih =>
    obtain ⟨a, v⟩ := q
    by_cases hp : p a = true
    · have : a ≠ k := by rintro rfl; simp [h] at hp
      have e : Sparse.drop p ((a, v) :: t) = Sparse.drop p t := by simp [Sparse.drop, hp]
      rw [e, ih]; simp [Sparse.get, this]
    · have e : Sparse.drop p ((a, v) :: t) = (a, v) :: Sparse.drop p t := by simp [Sparse.drop, hp]
      rw [e]; by_cases hk : a = k <;> simp [Sparse.get, hk, ih]

theorem Sparse.get_drop_in (l : List (Nat × α)) {p : Nat → Bool} {k : Nat} (h : p k = true) : Sparse.get d (Sparse.drop p l) k = d k := by
  induction l with
  | nil => rfl
  | cons q t ih =>
    obtain ⟨a, v⟩ := q
    by_cases hp : p a = true
    · have e : Sparse.drop p ((a, v) :: t) = Sparse.drop p t := by simp [Sparse.drop, hp]
      rw [e, ih]
    · have e : Sparse.drop p ((a, v) :: t) = (a, v) :: Sparse.drop p t := by simp [Sparse.drop, hp]
      have : a ≠ k := by rintro rfl; simp [h] at hp
      rw [e]; simp [Sparse.get, this, ih]

end Sys2Proof.Machine
end

