-- ==== Sys2Proof/Laws/Ops.lean ====
section
/-! SUPPORT. Registers, fields and memory: a read after a write, what a write leaves alone, and the canonical forms it keeps. -/

namespace Sys2Proof.Machine

/-! ## Fields of a word -/

/-- The number a word becomes when a field is replaced. -/
theorem wSetField_toNat (x : Word) (hi lo v : Nat) (hb : hi < 32) (hl : lo ≤ hi) :
    (wSetField x hi lo v).toNat = x.toNat / 2 ^ (hi + 1) * 2 ^ (hi + 1) + v % 2 ^ (hi + 1 - lo) * 2 ^ lo + x.toNat % 2 ^ lo := by
  have e1 : 2 ^ (hi + 1 - lo) * 2 ^ lo = 2 ^ (hi + 1) := by rw [← Nat.pow_add]; congr 1; omega
  have e2 : 2 ^ (31 - hi) * 2 ^ (hi + 1) = 2 ^ 32 := by rw [← Nat.pow_add]; congr 1; omega
  have hr : x.toNat % 2 ^ lo < 2 ^ lo := Nat.mod_lt _ (Nat.two_pow_pos lo)
  have hv : v % 2 ^ (hi + 1 - lo) < 2 ^ (hi + 1 - lo) := Nat.mod_lt _ (Nat.two_pow_pos _)
  have hv' : (v % 2 ^ (hi + 1 - lo) + 1) * 2 ^ lo ≤ 2 ^ (hi + 1 - lo) * 2 ^ lo := Nat.mul_le_mul_right _ hv
  have hq : x.toNat / 2 ^ (hi + 1) < 2 ^ (31 - hi) := by
    apply Nat.div_lt_of_lt_mul
    rw [Nat.mul_comm, e2]
    exact x.isLt
  have hq' : (x.toNat / 2 ^ (hi + 1) + 1) * 2 ^ (hi + 1) ≤ 2 ^ (31 - hi) * 2 ^ (hi + 1) := Nat.mul_le_mul_right _ hq
  unfold wSetField w32
  rw [BitVec.toNat_ofNat]
  apply Nat.mod_eq_of_lt
  rw [Nat.add_mul] at hv' hq'
  omega

/-- A field that was set reads as the value, cut to its size. -/
theorem wField_wSetField (x : Word) (hi lo v : Nat) (hb : hi < 32) (hl : lo ≤ hi) :
    wField (wSetField x hi lo v) hi lo = v % 2 ^ (hi + 1 - lo) := by
  unfold wField
  rw [wSetField_toNat x hi lo v hb hl]
  have e1 : 2 ^ (hi + 1) = 2 ^ (hi + 1 - lo) * 2 ^ lo := by rw [← Nat.pow_add]; congr 1; omega
  have hr : x.toNat % 2 ^ lo / 2 ^ lo = 0 := Nat.div_eq_of_lt (Nat.mod_lt _ (Nat.two_pow_pos lo))
  have : x.toNat / 2 ^ (hi + 1) * 2 ^ (hi + 1) + v % 2 ^ (hi + 1 - lo) * 2 ^ lo + x.toNat % 2 ^ lo =
      x.toNat % 2 ^ lo + (x.toNat / 2 ^ (hi + 1) * 2 ^ (hi + 1 - lo) + v % 2 ^ (hi + 1 - lo)) * 2 ^ lo := by
    rw [Nat.add_mul, Nat.mul_assoc, ← e1]; omega
  rw [this, Nat.add_mul_div_right _ _ (Nat.two_pow_pos lo), hr, Nat.zero_add, Nat.add_comm, Nat.add_mul_mod_self_right, Nat.mod_mod]

/-- A field below a field that was set stays. -/
theorem wField_wSetField_low (x : Word) (hi lo hi' lo' v : Nat) (hb : hi < 32) (hl : lo ≤ hi) (hd : hi' < lo) (hl' : lo' ≤ hi') :
    wField (wSetField x hi lo v) hi' lo' = wField x hi' lo' := by
  have key (n : Nat) : n / 2 ^ lo' % 2 ^ (hi' + 1 - lo') = n % 2 ^ lo / 2 ^ lo' % 2 ^ (hi' + 1 - lo') := by
    have e : 2 ^ lo = 2 ^ lo' * (2 ^ (hi' + 1 - lo') * 2 ^ (lo - (hi' + 1))) := by
      rw [← Nat.pow_add, ← Nat.pow_add]; congr 1; omega
    rw [e, Nat.mod_mul_right_div_self, Nat.mod_mul_right_mod]
  unfold wField
  rw [key, key x.toNat, wSetField_toNat x hi lo v hb hl]
  congr 2
  have e1 : 2 ^ (hi + 1) = 2 ^ (hi + 1 - lo) * 2 ^ lo := by rw [← Nat.pow_add]; congr 1; omega
  rw [e1, ← Nat.mul_assoc, ← Nat.add_mul, Nat.add_comm, Nat.add_mul_mod_self_right, Nat.mod_mod]

/-- A field above a field that was set stays. -/
theorem wField_wSetField_high (x : Word) (hi lo hi' lo' v : Nat) (hb : hi < 32) (hl : lo ≤ hi) (hd : hi < lo') :
    wField (wSetField x hi lo v) hi' lo' = wField x hi' lo' := by
  have e1 : 2 ^ (hi + 1 - lo) * 2 ^ lo = 2 ^ (hi + 1) := by rw [← Nat.pow_add]; congr 1; omega
  have e2 : 2 ^ lo' = 2 ^ (hi + 1) * 2 ^ (lo' - (hi + 1)) := by rw [← Nat.pow_add]; congr 1; omega
  have hr : x.toNat % 2 ^ lo < 2 ^ lo := Nat.mod_lt _ (Nat.two_pow_pos lo)
  have hv : v % 2 ^ (hi + 1 - lo) < 2 ^ (hi + 1 - lo) := Nat.mod_lt _ (Nat.two_pow_pos _)
  have hv' : (v % 2 ^ (hi + 1 - lo) + 1) * 2 ^ lo ≤ 2 ^ (hi + 1 - lo) * 2 ^ lo := Nat.mul_le_mul_right _ hv
  rw [Nat.add_mul] at hv'
  unfold wField
  congr 1
  rw [wSetField_toNat x hi lo v hb hl, e2, ← Nat.div_div_eq_div_mul, ← Nat.div_div_eq_div_mul]
  congr 1
  rw [Nat.add_assoc, Nat.mul_comm, Nat.mul_add_div (Nat.two_pow_pos _), Nat.div_eq_of_lt (a := _ + _) (by omega), Nat.add_zero]

/-! ## Registers -/

@[simp] theorem State.rd_wr_self (s : State) (a : Nat) (v : Word) : (s.wr a v).rd a = v := Sparse.get_put_self _ _ _

theorem State.rd_wr_ne (s : State) {a b : Nat} (v : Word) (h : b ≠ a) : (s.wr a v).rd b = s.rd b := Sparse.get_put_ne _ _ h

theorem State.rd_wr (s : State) (a b : Nat) (v : Word) : (s.wr a v).rd b = if b = a then v else s.rd b := by
  by_cases h : b = a
  · subst h; simp
  · simp [h, State.rd_wr_ne s v h]

theorem State.rd_fp_ne (s : State) (f : Fld) (v : Nat) {b : Nat} (h : b ≠ f.addr) : (s.fp f v).rd b = s.rd b := State.rd_wr_ne s _ h

theorem State.fg_fp_ne (s : State) (f g : Fld) (v : Nat) (h : g.addr ≠ f.addr) : (s.fp f v).fg g = s.fg g := by
  unfold State.fg; rw [State.rd_fp_ne s f v h]

theorem State.fb_fp_ne (s : State) (f g : Fld) (v : Nat) (h : g.addr ≠ f.addr) : (s.fp f v).fb g = s.fb g := by
  unfold State.fb; rw [State.fg_fp_ne s f g v h]

theorem State.fg_wr_ne (s : State) (a : Nat) (v : Word) (g : Fld) (h : g.addr ≠ a) : (s.wr a v).fg g = s.fg g := by
  unfold State.fg; rw [State.rd_wr_ne s v h]

/-- A field that was written reads as the value, cut to its size. -/
theorem State.fg_fp_self (s : State) (f : Fld) (v : Nat) (hb : f.hi < 32) (hl : f.lo ≤ f.hi) : (s.fp f v).fg f = v % 2 ^ (f.hi + 1 - f.lo) := by
  unfold State.fp State.fg
  rw [State.rd_wr_self, wField_wSetField _ _ _ _ hb hl]

/-- Another field, in another register or beside the one written, keeps its value. -/
theorem State.fg_fp (s : State) (f g : Fld) (v : Nat) (hb : f.hi < 32) (hl : f.lo ≤ f.hi) (hg : g.lo ≤ g.hi)
    (h : g.addr ≠ f.addr ∨ g.hi < f.lo ∨ f.hi < g.lo) : (s.fp f v).fg g = s.fg g := by
  by_cases ha : g.addr = f.addr
  · unfold State.fp State.fg
    rw [ha, State.rd_wr_self]
    rcases h with h | h | h
    · exact absurd ha h
    · exact wField_wSetField_low _ _ _ _ _ _ hb hl h hg
    · exact wField_wSetField_high _ _ _ _ _ _ hb hl h
  · exact State.fg_fp_ne s f g v ha

theorem State.fb_fp (s : State) (f g : Fld) (v : Nat) (hb : f.hi < 32) (hl : f.lo ≤ f.hi) (hg : g.lo ≤ g.hi)
    (h : g.addr ≠ f.addr ∨ g.hi < f.lo ∨ f.hi < g.lo) : (s.fp f v).fb g = s.fb g := by
  unfold State.fb; rw [State.fg_fp s f g v hb hl hg h]

theorem State.rd_fp_self (s : State) (f : Fld) (v : Nat) : (s.fp f v).rd f.addr = wSetField (s.rd f.addr) f.hi f.lo v := State.rd_wr_self _ _ _

theorem w32_two_pow_bit (n : Nat) (hn : n < 32) : (w32 (2 ^ n)).getLsbD n = true := by
  show (2 ^ n % 2 ^ 32).testBit n = true
  rw [Nat.testBit_mod_two_pow]
  simp [hn, Nat.testBit_two_pow_self]

/-- A bit that was set reads as one. -/
theorem State.rbit_rset_self (s : State) (a n : Nat) (hn : n < 32) : (s.rset a n).rbit a n = true := by
  unfold State.rset State.rbit wBit
  rw [State.rd_wr_self, BitVec.getLsbD_or, w32_two_pow_bit n hn, Bool.or_true]

theorem State.rd_rset_ne (s : State) (a n : Nat) {b : Nat} (h : b ≠ a) : (s.rset a n).rd b = s.rd b := State.rd_wr_ne s _ h
theorem State.rd_rclr_ne (s : State) (a n : Nat) {b : Nat} (h : b ≠ a) : (s.rclr a n).rd b = s.rd b := State.rd_wr_ne s _ h

/-- A bit that was cleared reads as zero. -/
theorem State.rbit_rclr_self (s : State) (a n : Nat) (hn : n < 32) : (s.rclr a n).rbit a n = false := by
  unfold State.rclr State.rbit wBit
  rw [State.rd_wr_self, BitVec.getLsbD_and, BitVec.getLsbD_not, w32_two_pow_bit n hn]
  simp

/-! ### A plain write -/

/-- The bits a plain write leaves (Table 0-2). -/
theorem wBit_regWritten (r : RegRow) (o v : Word) (n : Nat) (h : n < 32) :
    wBit (regWritten r o v) n = (if wBit r.w1c n && wBit v n then false else if wBit r.rw n then wBit v n else wBit o n) := by
  simp only [wBit, regWritten]
  simp [h]
  cases r.w1c[n] <;> cases v[n] <;> cases r.rw[n] <;> cases o[n] <;> simp

/-- A plain write touches its own register alone. -/
theorem State.rd_regStore_ne (s : State) (a : Nat) (v : Word) {b : Nat} (h : b ≠ a) : (s.regStore a v).rd b = s.rd b := by
  unfold State.regStore
  split
  · exact State.rd_wr_ne s _ h
  · rfl

theorem State.rb_regStore (s : State) (a b : Nat) (v : Word) : (s.regStore a v).rb b = s.rb b := by
  unfold State.regStore
  split <;> rfl

/-- A register write changes the register file alone. -/
@[simp] theorem State.wr_mem (s : State) (a : Nat) (v : Word) : (s.wr a v).mem = s.mem := rfl
@[simp] theorem State.fp_mem (s : State) (f : Fld) (v : Nat) : (s.fp f v).mem = s.mem := rfl

/-- A register write leaves every octet of memory as it reads. -/
@[simp] theorem State.rb_wr (s : State) (a b : Nat) (v : Word) : (s.wr a v).rb b = s.rb b := rfl
@[simp] theorem State.rb_fp (s : State) (f : Fld) (v b : Nat) : (s.fp f v).rb b = s.rb b := rfl

/-! ## Memory -/

theorem State.rb_wb_ne (s : State) {a b : Nat} (v : Byte) (h : b ≠ a) : (s.wb a v).rb b = s.rb b := by
  have e : Sparse.get memDefault (s.wb a v).mem b = Sparse.get memDefault s.mem b := Sparse.get_put_ne _ _ h
  unfold State.rb
  rw [e]
  rfl

/-- Plain memory: an octet the part does not hold in ROM or flash. -/
theorem State.rb_wb_self (s : State) {a : Nat} (v : Byte) (h : 0x40000 ≤ a) (hf : isFlash a = false) : (s.wb a v).rb a = v := by
  have e : Sparse.get memDefault (s.wb a v).mem a = v := Sparse.get_put_self _ _ _
  unfold State.rb
  rw [e]
  simp [Nat.not_lt.mpr h, hf]

/-- A wide store leaves every octet outside its range alone. -/
theorem State.rb_st_ne (s : State) (a n v : Nat) {b : Nat} (h : b < a ∨ a + n ≤ b) : (s.st a n v).rb b = s.rb b := by
  induction n generalizing s a v with
  | zero => rfl
  | succ n ih =>
    simp only [State.st]
    rw [ih (s := s.wb a (BitVec.ofNat 8 v)) (a := a + 1) (v := v / 256) (by omega), State.rb_wb_ne s _ (by omega)]

/-- Octets written one by one leave every octet outside their range alone. -/
theorem State.rb_putOctets_ne (s : State) (a : Nat) (l : List Byte) {b : Nat} (h : b < a ∨ a + l.length ≤ b) : (s.putOctets a l).rb b = s.rb b := by
  induction l generalizing s a with
  | nil => rfl
  | cons x t ih =>
    simp only [State.putOctets]
    simp only [List.length_cons] at h
    rw [ih (s := s.wb a x) (a := a + 1) (by omega), State.rb_wb_ne s _ (by omega)]

theorem State.rb_putBytes_ne (s : State) (a : Nat) (l : List Byte) {b : Nat} (h : b < a ∨ a + l.length ≤ b) : (s.putBytes a l).rb b = s.rb b :=
  State.rb_putOctets_ne s a l h

theorem State.rb_sw_ne (s : State) (a : Nat) (v : Word) {b : Nat} (h : b < a ∨ a + 4 ≤ b) : (s.sw a v).rb b = s.rb b :=
  State.rb_st_ne s a 4 v.toNat h

/-! ## Canonical forms -/

/-- Memory is in its canonical form. -/
abbrev memWf (m : List Host.Cell) : Prop := Sparse.wf memDefault m = true

theorem State.wb_wf {s : State} (a : Nat) (v : Byte) (h : memWf s.mem) : memWf (s.wb a v).mem := Sparse.wf_put a v h

theorem State.st_wf {s : State} (a n v : Nat) (h : memWf s.mem) : memWf (s.st a n v).mem := by
  induction n generalizing s a v with
  | zero => exact h
  | succ n ih => exact ih (a + 1) (v / 256) (State.wb_wf a _ h)

theorem State.putOctets_wf {s : State} (a : Nat) (l : List Byte) (h : memWf s.mem) : memWf (s.putOctets a l).mem := by
  induction l generalizing s a with
  | nil => exact h
  | cons x t ih => exact ih (a + 1) (State.wb_wf a _ h)

theorem State.eccFix_wf {s : State} (a e : Nat) (h : memWf s.mem) : memWf (s.eccFix a e).mem := h

theorem State.sw_wf {s : State} (a : Nat) (v : Word) (h : memWf s.mem) : memWf (s.sw a v).mem := State.st_wf a 4 v.toNat h

theorem State.putBytes_wf {s : State} (a : Nat) (l : List Byte) (h : memWf s.mem) : memWf (s.putBytes a l).mem := State.putOctets_wf a l h

theorem State.wipe_wf {s : State} (a e : Nat) (h : memWf s.mem) : memWf (s.wipe a e).mem := by
  exact Sparse.wf_drop (d := memDefault) (l := s.mem) (fun x => decide (a ≤ x) && decide (x < e)) h

end Sys2Proof.Machine
end

