-- ==== Sys2Proof/Laws/State.lean ====
section
/-! SUPPORT. What each update function of a part of State leaves in every part: true by rfl. -/

namespace Sys2Proof.Machine

@[simp] theorem State.mPart_part (s : State) (f : Part → Part) : (s.mPart f).part = f s.part := rfl
@[simp] theorem State.mPart_regs (s : State) (f : Part → Part) : (s.mPart f).regs = s.regs := rfl
@[simp] theorem State.mPart_mem (s : State) (f : Part → Part) : (s.mPart f).mem = s.mem := rfl
@[simp] theorem State.mPart_eccBad (s : State) (f : Part → Part) : (s.mPart f).eccBad = s.eccBad := rfl
@[simp] theorem State.mPart_bus (s : State) (f : Part → Part) : (s.mPart f).bus = s.bus := rfl
@[simp] theorem State.mPart_caps (s : State) (f : Part → Part) : (s.mPart f).caps = s.caps := rfl
@[simp] theorem State.mPart_free (s : State) (f : Part → Part) : (s.mPart f).free = s.free := rfl
@[simp] theorem State.mPart_cs (s : State) (f : Part → Part) : (s.mPart f).cs = s.cs := rfl
@[simp] theorem State.mPart_viol (s : State) (f : Part → Part) : (s.mPart f).viol = s.viol := rfl
@[simp] theorem State.mPart_coreA (s : State) (f : Part → Part) : (s.mPart f).coreA = s.coreA := rfl
@[simp] theorem State.mPart_coreB (s : State) (f : Part → Part) : (s.mPart f).coreB = s.coreB := rfl
@[simp] theorem State.mPart_int (s : State) (f : Part → Part) : (s.mPart f).int = s.int := rfl
@[simp] theorem State.mPart_dma (s : State) (f : Part → Part) : (s.mPart f).dma = s.dma := rfl
@[simp] theorem State.mPart_rtc (s : State) (f : Part → Part) : (s.mPart f).rtc = s.rtc := rfl
@[simp] theorem State.mPart_flue (s : State) (f : Part → Part) : (s.mPart f).flue = s.flue := rfl
@[simp] theorem State.mPart_ash (s : State) (f : Part → Part) : (s.mPart f).ash = s.ash := rfl
@[simp] theorem State.mPart_pwr (s : State) (f : Part → Part) : (s.mPart f).pwr = s.pwr := rfl
@[simp] theorem State.mPart_rst (s : State) (f : Part → Part) : (s.mPart f).rst = s.rst := rfl
@[simp] theorem State.mPart_info (s : State) (f : Part → Part) : (s.mPart f).info = s.info := rfl
@[simp] theorem State.mPart_flc (s : State) (f : Part → Part) : (s.mPart f).flc = s.flc := rfl
@[simp] theorem State.mPart_vlt (s : State) (f : Part → Part) : (s.mPart f).vlt = s.vlt := rfl
@[simp] theorem State.mPart_fuse (s : State) (f : Part → Part) : (s.mPart f).fuse = s.fuse := rfl
@[simp] theorem State.mPart_rsv (s : State) (f : Part → Part) : (s.mPart f).rsv = s.rsv := rfl
@[simp] theorem State.mPart_hrt (s : State) (f : Part → Part) : (s.mPart f).hrt = s.hrt := rfl
@[simp] theorem State.mPart_hst (s : State) (f : Part → Part) : (s.mPart f).hst = s.hst := rfl
@[simp] theorem State.mPart_svc (s : State) (f : Part → Part) : (s.mPart f).svc = s.svc := rfl
@[simp] theorem State.mPart_pil (s : State) (f : Part → Part) : (s.mPart f).pil = s.pil := rfl
@[simp] theorem State.mPart_per (s : State) (f : Part → Part) : (s.mPart f).per = s.per := rfl
@[simp] theorem State.mPart_upd (s : State) (f : Part → Part) : (s.mPart f).upd = s.upd := rfl
@[simp] theorem State.mPart_sup (s : State) (f : Part → Part) : (s.mPart f).sup = s.sup := rfl
@[simp] theorem State.mPart_pending (s : State) (f : Part → Part) : (s.mPart f).pending = s.pending := rfl
@[simp] theorem State.mRegs_part (s : State) (f : (List (Nat × Word)) → List (Nat × Word)) : (s.mRegs f).part = s.part := rfl
@[simp] theorem State.mRegs_regs (s : State) (f : (List (Nat × Word)) → List (Nat × Word)) : (s.mRegs f).regs = f s.regs := rfl
@[simp] theorem State.mRegs_mem (s : State) (f : (List (Nat × Word)) → List (Nat × Word)) : (s.mRegs f).mem = s.mem := rfl
@[simp] theorem State.mRegs_eccBad (s : State) (f : (List (Nat × Word)) → List (Nat × Word)) : (s.mRegs f).eccBad = s.eccBad := rfl
@[simp] theorem State.mRegs_bus (s : State) (f : (List (Nat × Word)) → List (Nat × Word)) : (s.mRegs f).bus = s.bus := rfl
@[simp] theorem State.mRegs_caps (s : State) (f : (List (Nat × Word)) → List (Nat × Word)) : (s.mRegs f).caps = s.caps := rfl
@[simp] theorem State.mRegs_free (s : State) (f : (List (Nat × Word)) → List (Nat × Word)) : (s.mRegs f).free = s.free := rfl
@[simp] theorem State.mRegs_cs (s : State) (f : (List (Nat × Word)) → List (Nat × Word)) : (s.mRegs f).cs = s.cs := rfl
@[simp] theorem State.mRegs_viol (s : State) (f : (List (Nat × Word)) → List (Nat × Word)) : (s.mRegs f).viol = s.viol := rfl
@[simp] theorem State.mRegs_coreA (s : State) (f : (List (Nat × Word)) → List (Nat × Word)) : (s.mRegs f).coreA = s.coreA := rfl
@[simp] theorem State.mRegs_coreB (s : State) (f : (List (Nat × Word)) → List (Nat × Word)) : (s.mRegs f).coreB = s.coreB := rfl
@[simp] theorem State.mRegs_int (s : State) (f : (List (Nat × Word)) → List (Nat × Word)) : (s.mRegs f).int = s.int := rfl
@[simp] theorem State.mRegs_dma (s : State) (f : (List (Nat × Word)) → List (Nat × Word)) : (s.mRegs f).dma = s.dma := rfl
@[simp] theorem State.mRegs_rtc (s : State) (f : (List (Nat × Word)) → List (Nat × Word)) : (s.mRegs f).rtc = s.rtc := rfl
@[simp] theorem State.mRegs_flue (s : State) (f : (List (Nat × Word)) → List (Nat × Word)) : (s.mRegs f).flue = s.flue := rfl
@[simp] theorem State.mRegs_ash (s : State) (f : (List (Nat × Word)) → List (Nat × Word)) : (s.mRegs f).ash = s.ash := rfl
@[simp] theorem State.mRegs_pwr (s : State) (f : (List (Nat × Word)) → List (Nat × Word)) : (s.mRegs f).pwr = s.pwr := rfl
@[simp] theorem State.mRegs_rst (s : State) (f : (List (Nat × Word)) → List (Nat × Word)) : (s.mRegs f).rst = s.rst := rfl
@[simp] theorem State.mRegs_info (s : State) (f : (List (Nat × Word)) → List (Nat × Word)) : (s.mRegs f).info = s.info := rfl
@[simp] theorem State.mRegs_flc (s : State) (f : (List (Nat × Word)) → List (Nat × Word)) : (s.mRegs f).flc = s.flc := rfl
@[simp] theorem State.mRegs_vlt (s : State) (f : (List (Nat × Word)) → List (Nat × Word)) : (s.mRegs f).vlt = s.vlt := rfl
@[simp] theorem State.mRegs_fuse (s : State) (f : (List (Nat × Word)) → List (Nat × Word)) : (s.mRegs f).fuse = s.fuse := rfl
@[simp] theorem State.mRegs_rsv (s : State) (f : (List (Nat × Word)) → List (Nat × Word)) : (s.mRegs f).rsv = s.rsv := rfl
@[simp] theorem State.mRegs_hrt (s : State) (f : (List (Nat × Word)) → List (Nat × Word)) : (s.mRegs f).hrt = s.hrt := rfl
@[simp] theorem State.mRegs_hst (s : State) (f : (List (Nat × Word)) → List (Nat × Word)) : (s.mRegs f).hst = s.hst := rfl
@[simp] theorem State.mRegs_svc (s : State) (f : (List (Nat × Word)) → List (Nat × Word)) : (s.mRegs f).svc = s.svc := rfl
@[simp] theorem State.mRegs_pil (s : State) (f : (List (Nat × Word)) → List (Nat × Word)) : (s.mRegs f).pil = s.pil := rfl
@[simp] theorem State.mRegs_per (s : State) (f : (List (Nat × Word)) → List (Nat × Word)) : (s.mRegs f).per = s.per := rfl
@[simp] theorem State.mRegs_upd (s : State) (f : (List (Nat × Word)) → List (Nat × Word)) : (s.mRegs f).upd = s.upd := rfl
@[simp] theorem State.mRegs_sup (s : State) (f : (List (Nat × Word)) → List (Nat × Word)) : (s.mRegs f).sup = s.sup := rfl
@[simp] theorem State.mRegs_pending (s : State) (f : (List (Nat × Word)) → List (Nat × Word)) : (s.mRegs f).pending = s.pending := rfl
@[simp] theorem State.mMem_part (s : State) (f : (List Host.Cell) → List Host.Cell) : (s.mMem f).part = s.part := rfl
@[simp] theorem State.mMem_regs (s : State) (f : (List Host.Cell) → List Host.Cell) : (s.mMem f).regs = s.regs := rfl
@[simp] theorem State.mMem_mem (s : State) (f : (List Host.Cell) → List Host.Cell) : (s.mMem f).mem = f s.mem := rfl
@[simp] theorem State.mMem_eccBad (s : State) (f : (List Host.Cell) → List Host.Cell) : (s.mMem f).eccBad = s.eccBad := rfl
@[simp] theorem State.mMem_bus (s : State) (f : (List Host.Cell) → List Host.Cell) : (s.mMem f).bus = s.bus := rfl
@[simp] theorem State.mMem_caps (s : State) (f : (List Host.Cell) → List Host.Cell) : (s.mMem f).caps = s.caps := rfl
@[simp] theorem State.mMem_free (s : State) (f : (List Host.Cell) → List Host.Cell) : (s.mMem f).free = s.free := rfl
@[simp] theorem State.mMem_cs (s : State) (f : (List Host.Cell) → List Host.Cell) : (s.mMem f).cs = s.cs := rfl
@[simp] theorem State.mMem_viol (s : State) (f : (List Host.Cell) → List Host.Cell) : (s.mMem f).viol = s.viol := rfl
@[simp] theorem State.mMem_coreA (s : State) (f : (List Host.Cell) → List Host.Cell) : (s.mMem f).coreA = s.coreA := rfl
@[simp] theorem State.mMem_coreB (s : State) (f : (List Host.Cell) → List Host.Cell) : (s.mMem f).coreB = s.coreB := rfl
@[simp] theorem State.mMem_int (s : State) (f : (List Host.Cell) → List Host.Cell) : (s.mMem f).int = s.int := rfl
@[simp] theorem State.mMem_dma (s : State) (f : (List Host.Cell) → List Host.Cell) : (s.mMem f).dma = s.dma := rfl
@[simp] theorem State.mMem_rtc (s : State) (f : (List Host.Cell) → List Host.Cell) : (s.mMem f).rtc = s.rtc := rfl
@[simp] theorem State.mMem_flue (s : State) (f : (List Host.Cell) → List Host.Cell) : (s.mMem f).flue = s.flue := rfl
@[simp] theorem State.mMem_ash (s : State) (f : (List Host.Cell) → List Host.Cell) : (s.mMem f).ash = s.ash := rfl
@[simp] theorem State.mMem_pwr (s : State) (f : (List Host.Cell) → List Host.Cell) : (s.mMem f).pwr = s.pwr := rfl
@[simp] theorem State.mMem_rst (s : State) (f : (List Host.Cell) → List Host.Cell) : (s.mMem f).rst = s.rst := rfl
@[simp] theorem State.mMem_info (s : State) (f : (List Host.Cell) → List Host.Cell) : (s.mMem f).info = s.info := rfl
@[simp] theorem State.mMem_flc (s : State) (f : (List Host.Cell) → List Host.Cell) : (s.mMem f).flc = s.flc := rfl
@[simp] theorem State.mMem_vlt (s : State) (f : (List Host.Cell) → List Host.Cell) : (s.mMem f).vlt = s.vlt := rfl
@[simp] theorem State.mMem_fuse (s : State) (f : (List Host.Cell) → List Host.Cell) : (s.mMem f).fuse = s.fuse := rfl
@[simp] theorem State.mMem_rsv (s : State) (f : (List Host.Cell) → List Host.Cell) : (s.mMem f).rsv = s.rsv := rfl
@[simp] theorem State.mMem_hrt (s : State) (f : (List Host.Cell) → List Host.Cell) : (s.mMem f).hrt = s.hrt := rfl
@[simp] theorem State.mMem_hst (s : State) (f : (List Host.Cell) → List Host.Cell) : (s.mMem f).hst = s.hst := rfl
@[simp] theorem State.mMem_svc (s : State) (f : (List Host.Cell) → List Host.Cell) : (s.mMem f).svc = s.svc := rfl
@[simp] theorem State.mMem_pil (s : State) (f : (List Host.Cell) → List Host.Cell) : (s.mMem f).pil = s.pil := rfl
@[simp] theorem State.mMem_per (s : State) (f : (List Host.Cell) → List Host.Cell) : (s.mMem f).per = s.per := rfl
@[simp] theorem State.mMem_upd (s : State) (f : (List Host.Cell) → List Host.Cell) : (s.mMem f).upd = s.upd := rfl
@[simp] theorem State.mMem_sup (s : State) (f : (List Host.Cell) → List Host.Cell) : (s.mMem f).sup = s.sup := rfl
@[simp] theorem State.mMem_pending (s : State) (f : (List Host.Cell) → List Host.Cell) : (s.mMem f).pending = s.pending := rfl
@[simp] theorem State.mEccBad_part (s : State) (f : (List Nat) → List Nat) : (s.mEccBad f).part = s.part := rfl
@[simp] theorem State.mEccBad_regs (s : State) (f : (List Nat) → List Nat) : (s.mEccBad f).regs = s.regs := rfl
@[simp] theorem State.mEccBad_mem (s : State) (f : (List Nat) → List Nat) : (s.mEccBad f).mem = s.mem := rfl
@[simp] theorem State.mEccBad_eccBad (s : State) (f : (List Nat) → List Nat) : (s.mEccBad f).eccBad = f s.eccBad := rfl
@[simp] theorem State.mEccBad_bus (s : State) (f : (List Nat) → List Nat) : (s.mEccBad f).bus = s.bus := rfl
@[simp] theorem State.mEccBad_caps (s : State) (f : (List Nat) → List Nat) : (s.mEccBad f).caps = s.caps := rfl
@[simp] theorem State.mEccBad_free (s : State) (f : (List Nat) → List Nat) : (s.mEccBad f).free = s.free := rfl
@[simp] theorem State.mEccBad_cs (s : State) (f : (List Nat) → List Nat) : (s.mEccBad f).cs = s.cs := rfl
@[simp] theorem State.mEccBad_viol (s : State) (f : (List Nat) → List Nat) : (s.mEccBad f).viol = s.viol := rfl
@[simp] theorem State.mEccBad_coreA (s : State) (f : (List Nat) → List Nat) : (s.mEccBad f).coreA = s.coreA := rfl
@[simp] theorem State.mEccBad_coreB (s : State) (f : (List Nat) → List Nat) : (s.mEccBad f).coreB = s.coreB := rfl
@[simp] theorem State.mEccBad_int (s : State) (f : (List Nat) → List Nat) : (s.mEccBad f).int = s.int := rfl
@[simp] theorem State.mEccBad_dma (s : State) (f : (List Nat) → List Nat) : (s.mEccBad f).dma = s.dma := rfl
@[simp] theorem State.mEccBad_rtc (s : State) (f : (List Nat) → List Nat) : (s.mEccBad f).rtc = s.rtc := rfl
@[simp] theorem State.mEccBad_flue (s : State) (f : (List Nat) → List Nat) : (s.mEccBad f).flue = s.flue := rfl
@[simp] theorem State.mEccBad_ash (s : State) (f : (List Nat) → List Nat) : (s.mEccBad f).ash = s.ash := rfl
@[simp] theorem State.mEccBad_pwr (s : State) (f : (List Nat) → List Nat) : (s.mEccBad f).pwr = s.pwr := rfl
@[simp] theorem State.mEccBad_rst (s : State) (f : (List Nat) → List Nat) : (s.mEccBad f).rst = s.rst := rfl
@[simp] theorem State.mEccBad_info (s : State) (f : (List Nat) → List Nat) : (s.mEccBad f).info = s.info := rfl
@[simp] theorem State.mEccBad_flc (s : State) (f : (List Nat) → List Nat) : (s.mEccBad f).flc = s.flc := rfl
@[simp] theorem State.mEccBad_vlt (s : State) (f : (List Nat) → List Nat) : (s.mEccBad f).vlt = s.vlt := rfl
@[simp] theorem State.mEccBad_fuse (s : State) (f : (List Nat) → List Nat) : (s.mEccBad f).fuse = s.fuse := rfl
@[simp] theorem State.mEccBad_rsv (s : State) (f : (List Nat) → List Nat) : (s.mEccBad f).rsv = s.rsv := rfl
@[simp] theorem State.mEccBad_hrt (s : State) (f : (List Nat) → List Nat) : (s.mEccBad f).hrt = s.hrt := rfl
@[simp] theorem State.mEccBad_hst (s : State) (f : (List Nat) → List Nat) : (s.mEccBad f).hst = s.hst := rfl
@[simp] theorem State.mEccBad_svc (s : State) (f : (List Nat) → List Nat) : (s.mEccBad f).svc = s.svc := rfl
@[simp] theorem State.mEccBad_pil (s : State) (f : (List Nat) → List Nat) : (s.mEccBad f).pil = s.pil := rfl
@[simp] theorem State.mEccBad_per (s : State) (f : (List Nat) → List Nat) : (s.mEccBad f).per = s.per := rfl
@[simp] theorem State.mEccBad_upd (s : State) (f : (List Nat) → List Nat) : (s.mEccBad f).upd = s.upd := rfl
@[simp] theorem State.mEccBad_sup (s : State) (f : (List Nat) → List Nat) : (s.mEccBad f).sup = s.sup := rfl
@[simp] theorem State.mEccBad_pending (s : State) (f : (List Nat) → List Nat) : (s.mEccBad f).pending = s.pending := rfl
@[simp] theorem State.mBus_part (s : State) (f : BusView → BusView) : (s.mBus f).part = s.part := rfl
@[simp] theorem State.mBus_regs (s : State) (f : BusView → BusView) : (s.mBus f).regs = s.regs := rfl
@[simp] theorem State.mBus_mem (s : State) (f : BusView → BusView) : (s.mBus f).mem = s.mem := rfl
@[simp] theorem State.mBus_eccBad (s : State) (f : BusView → BusView) : (s.mBus f).eccBad = s.eccBad := rfl
@[simp] theorem State.mBus_bus (s : State) (f : BusView → BusView) : (s.mBus f).bus = f s.bus := rfl
@[simp] theorem State.mBus_caps (s : State) (f : BusView → BusView) : (s.mBus f).caps = s.caps := rfl
@[simp] theorem State.mBus_free (s : State) (f : BusView → BusView) : (s.mBus f).free = s.free := rfl
@[simp] theorem State.mBus_cs (s : State) (f : BusView → BusView) : (s.mBus f).cs = s.cs := rfl
@[simp] theorem State.mBus_viol (s : State) (f : BusView → BusView) : (s.mBus f).viol = s.viol := rfl
@[simp] theorem State.mBus_coreA (s : State) (f : BusView → BusView) : (s.mBus f).coreA = s.coreA := rfl
@[simp] theorem State.mBus_coreB (s : State) (f : BusView → BusView) : (s.mBus f).coreB = s.coreB := rfl
@[simp] theorem State.mBus_int (s : State) (f : BusView → BusView) : (s.mBus f).int = s.int := rfl
@[simp] theorem State.mBus_dma (s : State) (f : BusView → BusView) : (s.mBus f).dma = s.dma := rfl
@[simp] theorem State.mBus_rtc (s : State) (f : BusView → BusView) : (s.mBus f).rtc = s.rtc := rfl
@[simp] theorem State.mBus_flue (s : State) (f : BusView → BusView) : (s.mBus f).flue = s.flue := rfl
@[simp] theorem State.mBus_ash (s : State) (f : BusView → BusView) : (s.mBus f).ash = s.ash := rfl
@[simp] theorem State.mBus_pwr (s : State) (f : BusView → BusView) : (s.mBus f).pwr = s.pwr := rfl
@[simp] theorem State.mBus_rst (s : State) (f : BusView → BusView) : (s.mBus f).rst = s.rst := rfl
@[simp] theorem State.mBus_info (s : State) (f : BusView → BusView) : (s.mBus f).info = s.info := rfl
@[simp] theorem State.mBus_flc (s : State) (f : BusView → BusView) : (s.mBus f).flc = s.flc := rfl
@[simp] theorem State.mBus_vlt (s : State) (f : BusView → BusView) : (s.mBus f).vlt = s.vlt := rfl
@[simp] theorem State.mBus_fuse (s : State) (f : BusView → BusView) : (s.mBus f).fuse = s.fuse := rfl
@[simp] theorem State.mBus_rsv (s : State) (f : BusView → BusView) : (s.mBus f).rsv = s.rsv := rfl
@[simp] theorem State.mBus_hrt (s : State) (f : BusView → BusView) : (s.mBus f).hrt = s.hrt := rfl
@[simp] theorem State.mBus_hst (s : State) (f : BusView → BusView) : (s.mBus f).hst = s.hst := rfl
@[simp] theorem State.mBus_svc (s : State) (f : BusView → BusView) : (s.mBus f).svc = s.svc := rfl
@[simp] theorem State.mBus_pil (s : State) (f : BusView → BusView) : (s.mBus f).pil = s.pil := rfl
@[simp] theorem State.mBus_per (s : State) (f : BusView → BusView) : (s.mBus f).per = s.per := rfl
@[simp] theorem State.mBus_upd (s : State) (f : BusView → BusView) : (s.mBus f).upd = s.upd := rfl
@[simp] theorem State.mBus_sup (s : State) (f : BusView → BusView) : (s.mBus f).sup = s.sup := rfl
@[simp] theorem State.mBus_pending (s : State) (f : BusView → BusView) : (s.mBus f).pending = s.pending := rfl
@[simp] theorem State.mCaps_part (s : State) (f : (List ((Nat × Nat) × Word)) → List ((Nat × Nat) × Word)) : (s.mCaps f).part = s.part := rfl
@[simp] theorem State.mCaps_regs (s : State) (f : (List ((Nat × Nat) × Word)) → List ((Nat × Nat) × Word)) : (s.mCaps f).regs = s.regs := rfl
@[simp] theorem State.mCaps_mem (s : State) (f : (List ((Nat × Nat) × Word)) → List ((Nat × Nat) × Word)) : (s.mCaps f).mem = s.mem := rfl
@[simp] theorem State.mCaps_eccBad (s : State) (f : (List ((Nat × Nat) × Word)) → List ((Nat × Nat) × Word)) : (s.mCaps f).eccBad = s.eccBad := rfl
@[simp] theorem State.mCaps_bus (s : State) (f : (List ((Nat × Nat) × Word)) → List ((Nat × Nat) × Word)) : (s.mCaps f).bus = s.bus := rfl
@[simp] theorem State.mCaps_caps (s : State) (f : (List ((Nat × Nat) × Word)) → List ((Nat × Nat) × Word)) : (s.mCaps f).caps = f s.caps := rfl
@[simp] theorem State.mCaps_free (s : State) (f : (List ((Nat × Nat) × Word)) → List ((Nat × Nat) × Word)) : (s.mCaps f).free = s.free := rfl
@[simp] theorem State.mCaps_cs (s : State) (f : (List ((Nat × Nat) × Word)) → List ((Nat × Nat) × Word)) : (s.mCaps f).cs = s.cs := rfl
@[simp] theorem State.mCaps_viol (s : State) (f : (List ((Nat × Nat) × Word)) → List ((Nat × Nat) × Word)) : (s.mCaps f).viol = s.viol := rfl
@[simp] theorem State.mCaps_coreA (s : State) (f : (List ((Nat × Nat) × Word)) → List ((Nat × Nat) × Word)) : (s.mCaps f).coreA = s.coreA := rfl
@[simp] theorem State.mCaps_coreB (s : State) (f : (List ((Nat × Nat) × Word)) → List ((Nat × Nat) × Word)) : (s.mCaps f).coreB = s.coreB := rfl
@[simp] theorem State.mCaps_int (s : State) (f : (List ((Nat × Nat) × Word)) → List ((Nat × Nat) × Word)) : (s.mCaps f).int = s.int := rfl
@[simp] theorem State.mCaps_dma (s : State) (f : (List ((Nat × Nat) × Word)) → List ((Nat × Nat) × Word)) : (s.mCaps f).dma = s.dma := rfl
@[simp] theorem State.mCaps_rtc (s : State) (f : (List ((Nat × Nat) × Word)) → List ((Nat × Nat) × Word)) : (s.mCaps f).rtc = s.rtc := rfl
@[simp] theorem State.mCaps_flue (s : State) (f : (List ((Nat × Nat) × Word)) → List ((Nat × Nat) × Word)) : (s.mCaps f).flue = s.flue := rfl
@[simp] theorem State.mCaps_ash (s : State) (f : (List ((Nat × Nat) × Word)) → List ((Nat × Nat) × Word)) : (s.mCaps f).ash = s.ash := rfl
@[simp] theorem State.mCaps_pwr (s : State) (f : (List ((Nat × Nat) × Word)) → List ((Nat × Nat) × Word)) : (s.mCaps f).pwr = s.pwr := rfl
@[simp] theorem State.mCaps_rst (s : State) (f : (List ((Nat × Nat) × Word)) → List ((Nat × Nat) × Word)) : (s.mCaps f).rst = s.rst := rfl
@[simp] theorem State.mCaps_info (s : State) (f : (List ((Nat × Nat) × Word)) → List ((Nat × Nat) × Word)) : (s.mCaps f).info = s.info := rfl
@[simp] theorem State.mCaps_flc (s : State) (f : (List ((Nat × Nat) × Word)) → List ((Nat × Nat) × Word)) : (s.mCaps f).flc = s.flc := rfl
@[simp] theorem State.mCaps_vlt (s : State) (f : (List ((Nat × Nat) × Word)) → List ((Nat × Nat) × Word)) : (s.mCaps f).vlt = s.vlt := rfl
@[simp] theorem State.mCaps_fuse (s : State) (f : (List ((Nat × Nat) × Word)) → List ((Nat × Nat) × Word)) : (s.mCaps f).fuse = s.fuse := rfl
@[simp] theorem State.mCaps_rsv (s : State) (f : (List ((Nat × Nat) × Word)) → List ((Nat × Nat) × Word)) : (s.mCaps f).rsv = s.rsv := rfl
@[simp] theorem State.mCaps_hrt (s : State) (f : (List ((Nat × Nat) × Word)) → List ((Nat × Nat) × Word)) : (s.mCaps f).hrt = s.hrt := rfl
@[simp] theorem State.mCaps_hst (s : State) (f : (List ((Nat × Nat) × Word)) → List ((Nat × Nat) × Word)) : (s.mCaps f).hst = s.hst := rfl
@[simp] theorem State.mCaps_svc (s : State) (f : (List ((Nat × Nat) × Word)) → List ((Nat × Nat) × Word)) : (s.mCaps f).svc = s.svc := rfl
@[simp] theorem State.mCaps_pil (s : State) (f : (List ((Nat × Nat) × Word)) → List ((Nat × Nat) × Word)) : (s.mCaps f).pil = s.pil := rfl
@[simp] theorem State.mCaps_per (s : State) (f : (List ((Nat × Nat) × Word)) → List ((Nat × Nat) × Word)) : (s.mCaps f).per = s.per := rfl
@[simp] theorem State.mCaps_upd (s : State) (f : (List ((Nat × Nat) × Word)) → List ((Nat × Nat) × Word)) : (s.mCaps f).upd = s.upd := rfl
@[simp] theorem State.mCaps_sup (s : State) (f : (List ((Nat × Nat) × Word)) → List ((Nat × Nat) × Word)) : (s.mCaps f).sup = s.sup := rfl
@[simp] theorem State.mCaps_pending (s : State) (f : (List ((Nat × Nat) × Word)) → List ((Nat × Nat) × Word)) : (s.mCaps f).pending = s.pending := rfl
@[simp] theorem State.mFree_part (s : State) (f : Nat → Nat) : (s.mFree f).part = s.part := rfl
@[simp] theorem State.mFree_regs (s : State) (f : Nat → Nat) : (s.mFree f).regs = s.regs := rfl
@[simp] theorem State.mFree_mem (s : State) (f : Nat → Nat) : (s.mFree f).mem = s.mem := rfl
@[simp] theorem State.mFree_eccBad (s : State) (f : Nat → Nat) : (s.mFree f).eccBad = s.eccBad := rfl
@[simp] theorem State.mFree_bus (s : State) (f : Nat → Nat) : (s.mFree f).bus = s.bus := rfl
@[simp] theorem State.mFree_caps (s : State) (f : Nat → Nat) : (s.mFree f).caps = s.caps := rfl
@[simp] theorem State.mFree_free (s : State) (f : Nat → Nat) : (s.mFree f).free = f s.free := rfl
@[simp] theorem State.mFree_cs (s : State) (f : Nat → Nat) : (s.mFree f).cs = s.cs := rfl
@[simp] theorem State.mFree_viol (s : State) (f : Nat → Nat) : (s.mFree f).viol = s.viol := rfl
@[simp] theorem State.mFree_coreA (s : State) (f : Nat → Nat) : (s.mFree f).coreA = s.coreA := rfl
@[simp] theorem State.mFree_coreB (s : State) (f : Nat → Nat) : (s.mFree f).coreB = s.coreB := rfl
@[simp] theorem State.mFree_int (s : State) (f : Nat → Nat) : (s.mFree f).int = s.int := rfl
@[simp] theorem State.mFree_dma (s : State) (f : Nat → Nat) : (s.mFree f).dma = s.dma := rfl
@[simp] theorem State.mFree_rtc (s : State) (f : Nat → Nat) : (s.mFree f).rtc = s.rtc := rfl
@[simp] theorem State.mFree_flue (s : State) (f : Nat → Nat) : (s.mFree f).flue = s.flue := rfl
@[simp] theorem State.mFree_ash (s : State) (f : Nat → Nat) : (s.mFree f).ash = s.ash := rfl
@[simp] theorem State.mFree_pwr (s : State) (f : Nat → Nat) : (s.mFree f).pwr = s.pwr := rfl
@[simp] theorem State.mFree_rst (s : State) (f : Nat → Nat) : (s.mFree f).rst = s.rst := rfl
@[simp] theorem State.mFree_info (s : State) (f : Nat → Nat) : (s.mFree f).info = s.info := rfl
@[simp] theorem State.mFree_flc (s : State) (f : Nat → Nat) : (s.mFree f).flc = s.flc := rfl
@[simp] theorem State.mFree_vlt (s : State) (f : Nat → Nat) : (s.mFree f).vlt = s.vlt := rfl
@[simp] theorem State.mFree_fuse (s : State) (f : Nat → Nat) : (s.mFree f).fuse = s.fuse := rfl
@[simp] theorem State.mFree_rsv (s : State) (f : Nat → Nat) : (s.mFree f).rsv = s.rsv := rfl
@[simp] theorem State.mFree_hrt (s : State) (f : Nat → Nat) : (s.mFree f).hrt = s.hrt := rfl
@[simp] theorem State.mFree_hst (s : State) (f : Nat → Nat) : (s.mFree f).hst = s.hst := rfl
@[simp] theorem State.mFree_svc (s : State) (f : Nat → Nat) : (s.mFree f).svc = s.svc := rfl
@[simp] theorem State.mFree_pil (s : State) (f : Nat → Nat) : (s.mFree f).pil = s.pil := rfl
@[simp] theorem State.mFree_per (s : State) (f : Nat → Nat) : (s.mFree f).per = s.per := rfl
@[simp] theorem State.mFree_upd (s : State) (f : Nat → Nat) : (s.mFree f).upd = s.upd := rfl
@[simp] theorem State.mFree_sup (s : State) (f : Nat → Nat) : (s.mFree f).sup = s.sup := rfl
@[simp] theorem State.mFree_pending (s : State) (f : Nat → Nat) : (s.mFree f).pending = s.pending := rfl
@[simp] theorem State.mCs_part (s : State) (f : (List CsId) → List CsId) : (s.mCs f).part = s.part := rfl
@[simp] theorem State.mCs_regs (s : State) (f : (List CsId) → List CsId) : (s.mCs f).regs = s.regs := rfl
@[simp] theorem State.mCs_mem (s : State) (f : (List CsId) → List CsId) : (s.mCs f).mem = s.mem := rfl
@[simp] theorem State.mCs_eccBad (s : State) (f : (List CsId) → List CsId) : (s.mCs f).eccBad = s.eccBad := rfl
@[simp] theorem State.mCs_bus (s : State) (f : (List CsId) → List CsId) : (s.mCs f).bus = s.bus := rfl
@[simp] theorem State.mCs_caps (s : State) (f : (List CsId) → List CsId) : (s.mCs f).caps = s.caps := rfl
@[simp] theorem State.mCs_free (s : State) (f : (List CsId) → List CsId) : (s.mCs f).free = s.free := rfl
@[simp] theorem State.mCs_cs (s : State) (f : (List CsId) → List CsId) : (s.mCs f).cs = f s.cs := rfl
@[simp] theorem State.mCs_viol (s : State) (f : (List CsId) → List CsId) : (s.mCs f).viol = s.viol := rfl
@[simp] theorem State.mCs_coreA (s : State) (f : (List CsId) → List CsId) : (s.mCs f).coreA = s.coreA := rfl
@[simp] theorem State.mCs_coreB (s : State) (f : (List CsId) → List CsId) : (s.mCs f).coreB = s.coreB := rfl
@[simp] theorem State.mCs_int (s : State) (f : (List CsId) → List CsId) : (s.mCs f).int = s.int := rfl
@[simp] theorem State.mCs_dma (s : State) (f : (List CsId) → List CsId) : (s.mCs f).dma = s.dma := rfl
@[simp] theorem State.mCs_rtc (s : State) (f : (List CsId) → List CsId) : (s.mCs f).rtc = s.rtc := rfl
@[simp] theorem State.mCs_flue (s : State) (f : (List CsId) → List CsId) : (s.mCs f).flue = s.flue := rfl
@[simp] theorem State.mCs_ash (s : State) (f : (List CsId) → List CsId) : (s.mCs f).ash = s.ash := rfl
@[simp] theorem State.mCs_pwr (s : State) (f : (List CsId) → List CsId) : (s.mCs f).pwr = s.pwr := rfl
@[simp] theorem State.mCs_rst (s : State) (f : (List CsId) → List CsId) : (s.mCs f).rst = s.rst := rfl
@[simp] theorem State.mCs_info (s : State) (f : (List CsId) → List CsId) : (s.mCs f).info = s.info := rfl
@[simp] theorem State.mCs_flc (s : State) (f : (List CsId) → List CsId) : (s.mCs f).flc = s.flc := rfl
@[simp] theorem State.mCs_vlt (s : State) (f : (List CsId) → List CsId) : (s.mCs f).vlt = s.vlt := rfl
@[simp] theorem State.mCs_fuse (s : State) (f : (List CsId) → List CsId) : (s.mCs f).fuse = s.fuse := rfl
@[simp] theorem State.mCs_rsv (s : State) (f : (List CsId) → List CsId) : (s.mCs f).rsv = s.rsv := rfl
@[simp] theorem State.mCs_hrt (s : State) (f : (List CsId) → List CsId) : (s.mCs f).hrt = s.hrt := rfl
@[simp] theorem State.mCs_hst (s : State) (f : (List CsId) → List CsId) : (s.mCs f).hst = s.hst := rfl
@[simp] theorem State.mCs_svc (s : State) (f : (List CsId) → List CsId) : (s.mCs f).svc = s.svc := rfl
@[simp] theorem State.mCs_pil (s : State) (f : (List CsId) → List CsId) : (s.mCs f).pil = s.pil := rfl
@[simp] theorem State.mCs_per (s : State) (f : (List CsId) → List CsId) : (s.mCs f).per = s.per := rfl
@[simp] theorem State.mCs_upd (s : State) (f : (List CsId) → List CsId) : (s.mCs f).upd = s.upd := rfl
@[simp] theorem State.mCs_sup (s : State) (f : (List CsId) → List CsId) : (s.mCs f).sup = s.sup := rfl
@[simp] theorem State.mCs_pending (s : State) (f : (List CsId) → List CsId) : (s.mCs f).pending = s.pending := rfl
@[simp] theorem State.mViol_part (s : State) (f : (List (Nat × Nat)) → List (Nat × Nat)) : (s.mViol f).part = s.part := rfl
@[simp] theorem State.mViol_regs (s : State) (f : (List (Nat × Nat)) → List (Nat × Nat)) : (s.mViol f).regs = s.regs := rfl
@[simp] theorem State.mViol_mem (s : State) (f : (List (Nat × Nat)) → List (Nat × Nat)) : (s.mViol f).mem = s.mem := rfl
@[simp] theorem State.mViol_eccBad (s : State) (f : (List (Nat × Nat)) → List (Nat × Nat)) : (s.mViol f).eccBad = s.eccBad := rfl
@[simp] theorem State.mViol_bus (s : State) (f : (List (Nat × Nat)) → List (Nat × Nat)) : (s.mViol f).bus = s.bus := rfl
@[simp] theorem State.mViol_caps (s : State) (f : (List (Nat × Nat)) → List (Nat × Nat)) : (s.mViol f).caps = s.caps := rfl
@[simp] theorem State.mViol_free (s : State) (f : (List (Nat × Nat)) → List (Nat × Nat)) : (s.mViol f).free = s.free := rfl
@[simp] theorem State.mViol_cs (s : State) (f : (List (Nat × Nat)) → List (Nat × Nat)) : (s.mViol f).cs = s.cs := rfl
@[simp] theorem State.mViol_viol (s : State) (f : (List (Nat × Nat)) → List (Nat × Nat)) : (s.mViol f).viol = f s.viol := rfl
@[simp] theorem State.mViol_coreA (s : State) (f : (List (Nat × Nat)) → List (Nat × Nat)) : (s.mViol f).coreA = s.coreA := rfl
@[simp] theorem State.mViol_coreB (s : State) (f : (List (Nat × Nat)) → List (Nat × Nat)) : (s.mViol f).coreB = s.coreB := rfl
@[simp] theorem State.mViol_int (s : State) (f : (List (Nat × Nat)) → List (Nat × Nat)) : (s.mViol f).int = s.int := rfl
@[simp] theorem State.mViol_dma (s : State) (f : (List (Nat × Nat)) → List (Nat × Nat)) : (s.mViol f).dma = s.dma := rfl
@[simp] theorem State.mViol_rtc (s : State) (f : (List (Nat × Nat)) → List (Nat × Nat)) : (s.mViol f).rtc = s.rtc := rfl
@[simp] theorem State.mViol_flue (s : State) (f : (List (Nat × Nat)) → List (Nat × Nat)) : (s.mViol f).flue = s.flue := rfl
@[simp] theorem State.mViol_ash (s : State) (f : (List (Nat × Nat)) → List (Nat × Nat)) : (s.mViol f).ash = s.ash := rfl
@[simp] theorem State.mViol_pwr (s : State) (f : (List (Nat × Nat)) → List (Nat × Nat)) : (s.mViol f).pwr = s.pwr := rfl
@[simp] theorem State.mViol_rst (s : State) (f : (List (Nat × Nat)) → List (Nat × Nat)) : (s.mViol f).rst = s.rst := rfl
@[simp] theorem State.mViol_info (s : State) (f : (List (Nat × Nat)) → List (Nat × Nat)) : (s.mViol f).info = s.info := rfl
@[simp] theorem State.mViol_flc (s : State) (f : (List (Nat × Nat)) → List (Nat × Nat)) : (s.mViol f).flc = s.flc := rfl
@[simp] theorem State.mViol_vlt (s : State) (f : (List (Nat × Nat)) → List (Nat × Nat)) : (s.mViol f).vlt = s.vlt := rfl
@[simp] theorem State.mViol_fuse (s : State) (f : (List (Nat × Nat)) → List (Nat × Nat)) : (s.mViol f).fuse = s.fuse := rfl
@[simp] theorem State.mViol_rsv (s : State) (f : (List (Nat × Nat)) → List (Nat × Nat)) : (s.mViol f).rsv = s.rsv := rfl
@[simp] theorem State.mViol_hrt (s : State) (f : (List (Nat × Nat)) → List (Nat × Nat)) : (s.mViol f).hrt = s.hrt := rfl
@[simp] theorem State.mViol_hst (s : State) (f : (List (Nat × Nat)) → List (Nat × Nat)) : (s.mViol f).hst = s.hst := rfl
@[simp] theorem State.mViol_svc (s : State) (f : (List (Nat × Nat)) → List (Nat × Nat)) : (s.mViol f).svc = s.svc := rfl
@[simp] theorem State.mViol_pil (s : State) (f : (List (Nat × Nat)) → List (Nat × Nat)) : (s.mViol f).pil = s.pil := rfl
@[simp] theorem State.mViol_per (s : State) (f : (List (Nat × Nat)) → List (Nat × Nat)) : (s.mViol f).per = s.per := rfl
@[simp] theorem State.mViol_upd (s : State) (f : (List (Nat × Nat)) → List (Nat × Nat)) : (s.mViol f).upd = s.upd := rfl
@[simp] theorem State.mViol_sup (s : State) (f : (List (Nat × Nat)) → List (Nat × Nat)) : (s.mViol f).sup = s.sup := rfl
@[simp] theorem State.mViol_pending (s : State) (f : (List (Nat × Nat)) → List (Nat × Nat)) : (s.mViol f).pending = s.pending := rfl
@[simp] theorem State.mCoreA_part (s : State) (f : CoreSt → CoreSt) : (s.mCoreA f).part = s.part := rfl
@[simp] theorem State.mCoreA_regs (s : State) (f : CoreSt → CoreSt) : (s.mCoreA f).regs = s.regs := rfl
@[simp] theorem State.mCoreA_mem (s : State) (f : CoreSt → CoreSt) : (s.mCoreA f).mem = s.mem := rfl
@[simp] theorem State.mCoreA_eccBad (s : State) (f : CoreSt → CoreSt) : (s.mCoreA f).eccBad = s.eccBad := rfl
@[simp] theorem State.mCoreA_bus (s : State) (f : CoreSt → CoreSt) : (s.mCoreA f).bus = s.bus := rfl
@[simp] theorem State.mCoreA_caps (s : State) (f : CoreSt → CoreSt) : (s.mCoreA f).caps = s.caps := rfl
@[simp] theorem State.mCoreA_free (s : State) (f : CoreSt → CoreSt) : (s.mCoreA f).free = s.free := rfl
@[simp] theorem State.mCoreA_cs (s : State) (f : CoreSt → CoreSt) : (s.mCoreA f).cs = s.cs := rfl
@[simp] theorem State.mCoreA_viol (s : State) (f : CoreSt → CoreSt) : (s.mCoreA f).viol = s.viol := rfl
@[simp] theorem State.mCoreA_coreA (s : State) (f : CoreSt → CoreSt) : (s.mCoreA f).coreA = f s.coreA := rfl
@[simp] theorem State.mCoreA_coreB (s : State) (f : CoreSt → CoreSt) : (s.mCoreA f).coreB = s.coreB := rfl
@[simp] theorem State.mCoreA_int (s : State) (f : CoreSt → CoreSt) : (s.mCoreA f).int = s.int := rfl
@[simp] theorem State.mCoreA_dma (s : State) (f : CoreSt → CoreSt) : (s.mCoreA f).dma = s.dma := rfl
@[simp] theorem State.mCoreA_rtc (s : State) (f : CoreSt → CoreSt) : (s.mCoreA f).rtc = s.rtc := rfl
@[simp] theorem State.mCoreA_flue (s : State) (f : CoreSt → CoreSt) : (s.mCoreA f).flue = s.flue := rfl
@[simp] theorem State.mCoreA_ash (s : State) (f : CoreSt → CoreSt) : (s.mCoreA f).ash = s.ash := rfl
@[simp] theorem State.mCoreA_pwr (s : State) (f : CoreSt → CoreSt) : (s.mCoreA f).pwr = s.pwr := rfl
@[simp] theorem State.mCoreA_rst (s : State) (f : CoreSt → CoreSt) : (s.mCoreA f).rst = s.rst := rfl
@[simp] theorem State.mCoreA_info (s : State) (f : CoreSt → CoreSt) : (s.mCoreA f).info = s.info := rfl
@[simp] theorem State.mCoreA_flc (s : State) (f : CoreSt → CoreSt) : (s.mCoreA f).flc = s.flc := rfl
@[simp] theorem State.mCoreA_vlt (s : State) (f : CoreSt → CoreSt) : (s.mCoreA f).vlt = s.vlt := rfl
@[simp] theorem State.mCoreA_fuse (s : State) (f : CoreSt → CoreSt) : (s.mCoreA f).fuse = s.fuse := rfl
@[simp] theorem State.mCoreA_rsv (s : State) (f : CoreSt → CoreSt) : (s.mCoreA f).rsv = s.rsv := rfl
@[simp] theorem State.mCoreA_hrt (s : State) (f : CoreSt → CoreSt) : (s.mCoreA f).hrt = s.hrt := rfl
@[simp] theorem State.mCoreA_hst (s : State) (f : CoreSt → CoreSt) : (s.mCoreA f).hst = s.hst := rfl
@[simp] theorem State.mCoreA_svc (s : State) (f : CoreSt → CoreSt) : (s.mCoreA f).svc = s.svc := rfl
@[simp] theorem State.mCoreA_pil (s : State) (f : CoreSt → CoreSt) : (s.mCoreA f).pil = s.pil := rfl
@[simp] theorem State.mCoreA_per (s : State) (f : CoreSt → CoreSt) : (s.mCoreA f).per = s.per := rfl
@[simp] theorem State.mCoreA_upd (s : State) (f : CoreSt → CoreSt) : (s.mCoreA f).upd = s.upd := rfl
@[simp] theorem State.mCoreA_sup (s : State) (f : CoreSt → CoreSt) : (s.mCoreA f).sup = s.sup := rfl
@[simp] theorem State.mCoreA_pending (s : State) (f : CoreSt → CoreSt) : (s.mCoreA f).pending = s.pending := rfl
@[simp] theorem State.mCoreB_part (s : State) (f : CoreSt → CoreSt) : (s.mCoreB f).part = s.part := rfl
@[simp] theorem State.mCoreB_regs (s : State) (f : CoreSt → CoreSt) : (s.mCoreB f).regs = s.regs := rfl
@[simp] theorem State.mCoreB_mem (s : State) (f : CoreSt → CoreSt) : (s.mCoreB f).mem = s.mem := rfl
@[simp] theorem State.mCoreB_eccBad (s : State) (f : CoreSt → CoreSt) : (s.mCoreB f).eccBad = s.eccBad := rfl
@[simp] theorem State.mCoreB_bus (s : State) (f : CoreSt → CoreSt) : (s.mCoreB f).bus = s.bus := rfl
@[simp] theorem State.mCoreB_caps (s : State) (f : CoreSt → CoreSt) : (s.mCoreB f).caps = s.caps := rfl
@[simp] theorem State.mCoreB_free (s : State) (f : CoreSt → CoreSt) : (s.mCoreB f).free = s.free := rfl
@[simp] theorem State.mCoreB_cs (s : State) (f : CoreSt → CoreSt) : (s.mCoreB f).cs = s.cs := rfl
@[simp] theorem State.mCoreB_viol (s : State) (f : CoreSt → CoreSt) : (s.mCoreB f).viol = s.viol := rfl
@[simp] theorem State.mCoreB_coreA (s : State) (f : CoreSt → CoreSt) : (s.mCoreB f).coreA = s.coreA := rfl
@[simp] theorem State.mCoreB_coreB (s : State) (f : CoreSt → CoreSt) : (s.mCoreB f).coreB = f s.coreB := rfl
@[simp] theorem State.mCoreB_int (s : State) (f : CoreSt → CoreSt) : (s.mCoreB f).int = s.int := rfl
@[simp] theorem State.mCoreB_dma (s : State) (f : CoreSt → CoreSt) : (s.mCoreB f).dma = s.dma := rfl
@[simp] theorem State.mCoreB_rtc (s : State) (f : CoreSt → CoreSt) : (s.mCoreB f).rtc = s.rtc := rfl
@[simp] theorem State.mCoreB_flue (s : State) (f : CoreSt → CoreSt) : (s.mCoreB f).flue = s.flue := rfl
@[simp] theorem State.mCoreB_ash (s : State) (f : CoreSt → CoreSt) : (s.mCoreB f).ash = s.ash := rfl
@[simp] theorem State.mCoreB_pwr (s : State) (f : CoreSt → CoreSt) : (s.mCoreB f).pwr = s.pwr := rfl
@[simp] theorem State.mCoreB_rst (s : State) (f : CoreSt → CoreSt) : (s.mCoreB f).rst = s.rst := rfl
@[simp] theorem State.mCoreB_info (s : State) (f : CoreSt → CoreSt) : (s.mCoreB f).info = s.info := rfl
@[simp] theorem State.mCoreB_flc (s : State) (f : CoreSt → CoreSt) : (s.mCoreB f).flc = s.flc := rfl
@[simp] theorem State.mCoreB_vlt (s : State) (f : CoreSt → CoreSt) : (s.mCoreB f).vlt = s.vlt := rfl
@[simp] theorem State.mCoreB_fuse (s : State) (f : CoreSt → CoreSt) : (s.mCoreB f).fuse = s.fuse := rfl
@[simp] theorem State.mCoreB_rsv (s : State) (f : CoreSt → CoreSt) : (s.mCoreB f).rsv = s.rsv := rfl
@[simp] theorem State.mCoreB_hrt (s : State) (f : CoreSt → CoreSt) : (s.mCoreB f).hrt = s.hrt := rfl
@[simp] theorem State.mCoreB_hst (s : State) (f : CoreSt → CoreSt) : (s.mCoreB f).hst = s.hst := rfl
@[simp] theorem State.mCoreB_svc (s : State) (f : CoreSt → CoreSt) : (s.mCoreB f).svc = s.svc := rfl
@[simp] theorem State.mCoreB_pil (s : State) (f : CoreSt → CoreSt) : (s.mCoreB f).pil = s.pil := rfl
@[simp] theorem State.mCoreB_per (s : State) (f : CoreSt → CoreSt) : (s.mCoreB f).per = s.per := rfl
@[simp] theorem State.mCoreB_upd (s : State) (f : CoreSt → CoreSt) : (s.mCoreB f).upd = s.upd := rfl
@[simp] theorem State.mCoreB_sup (s : State) (f : CoreSt → CoreSt) : (s.mCoreB f).sup = s.sup := rfl
@[simp] theorem State.mCoreB_pending (s : State) (f : CoreSt → CoreSt) : (s.mCoreB f).pending = s.pending := rfl
@[simp] theorem State.mInt_part (s : State) (f : IntSt → IntSt) : (s.mInt f).part = s.part := rfl
@[simp] theorem State.mInt_regs (s : State) (f : IntSt → IntSt) : (s.mInt f).regs = s.regs := rfl
@[simp] theorem State.mInt_mem (s : State) (f : IntSt → IntSt) : (s.mInt f).mem = s.mem := rfl
@[simp] theorem State.mInt_eccBad (s : State) (f : IntSt → IntSt) : (s.mInt f).eccBad = s.eccBad := rfl
@[simp] theorem State.mInt_bus (s : State) (f : IntSt → IntSt) : (s.mInt f).bus = s.bus := rfl
@[simp] theorem State.mInt_caps (s : State) (f : IntSt → IntSt) : (s.mInt f).caps = s.caps := rfl
@[simp] theorem State.mInt_free (s : State) (f : IntSt → IntSt) : (s.mInt f).free = s.free := rfl
@[simp] theorem State.mInt_cs (s : State) (f : IntSt → IntSt) : (s.mInt f).cs = s.cs := rfl
@[simp] theorem State.mInt_viol (s : State) (f : IntSt → IntSt) : (s.mInt f).viol = s.viol := rfl
@[simp] theorem State.mInt_coreA (s : State) (f : IntSt → IntSt) : (s.mInt f).coreA = s.coreA := rfl
@[simp] theorem State.mInt_coreB (s : State) (f : IntSt → IntSt) : (s.mInt f).coreB = s.coreB := rfl
@[simp] theorem State.mInt_int (s : State) (f : IntSt → IntSt) : (s.mInt f).int = f s.int := rfl
@[simp] theorem State.mInt_dma (s : State) (f : IntSt → IntSt) : (s.mInt f).dma = s.dma := rfl
@[simp] theorem State.mInt_rtc (s : State) (f : IntSt → IntSt) : (s.mInt f).rtc = s.rtc := rfl
@[simp] theorem State.mInt_flue (s : State) (f : IntSt → IntSt) : (s.mInt f).flue = s.flue := rfl
@[simp] theorem State.mInt_ash (s : State) (f : IntSt → IntSt) : (s.mInt f).ash = s.ash := rfl
@[simp] theorem State.mInt_pwr (s : State) (f : IntSt → IntSt) : (s.mInt f).pwr = s.pwr := rfl
@[simp] theorem State.mInt_rst (s : State) (f : IntSt → IntSt) : (s.mInt f).rst = s.rst := rfl
@[simp] theorem State.mInt_info (s : State) (f : IntSt → IntSt) : (s.mInt f).info = s.info := rfl
@[simp] theorem State.mInt_flc (s : State) (f : IntSt → IntSt) : (s.mInt f).flc = s.flc := rfl
@[simp] theorem State.mInt_vlt (s : State) (f : IntSt → IntSt) : (s.mInt f).vlt = s.vlt := rfl
@[simp] theorem State.mInt_fuse (s : State) (f : IntSt → IntSt) : (s.mInt f).fuse = s.fuse := rfl
@[simp] theorem State.mInt_rsv (s : State) (f : IntSt → IntSt) : (s.mInt f).rsv = s.rsv := rfl
@[simp] theorem State.mInt_hrt (s : State) (f : IntSt → IntSt) : (s.mInt f).hrt = s.hrt := rfl
@[simp] theorem State.mInt_hst (s : State) (f : IntSt → IntSt) : (s.mInt f).hst = s.hst := rfl
@[simp] theorem State.mInt_svc (s : State) (f : IntSt → IntSt) : (s.mInt f).svc = s.svc := rfl
@[simp] theorem State.mInt_pil (s : State) (f : IntSt → IntSt) : (s.mInt f).pil = s.pil := rfl
@[simp] theorem State.mInt_per (s : State) (f : IntSt → IntSt) : (s.mInt f).per = s.per := rfl
@[simp] theorem State.mInt_upd (s : State) (f : IntSt → IntSt) : (s.mInt f).upd = s.upd := rfl
@[simp] theorem State.mInt_sup (s : State) (f : IntSt → IntSt) : (s.mInt f).sup = s.sup := rfl
@[simp] theorem State.mInt_pending (s : State) (f : IntSt → IntSt) : (s.mInt f).pending = s.pending := rfl
@[simp] theorem State.mDma_part (s : State) (f : (List DmaCh) → List DmaCh) : (s.mDma f).part = s.part := rfl
@[simp] theorem State.mDma_regs (s : State) (f : (List DmaCh) → List DmaCh) : (s.mDma f).regs = s.regs := rfl
@[simp] theorem State.mDma_mem (s : State) (f : (List DmaCh) → List DmaCh) : (s.mDma f).mem = s.mem := rfl
@[simp] theorem State.mDma_eccBad (s : State) (f : (List DmaCh) → List DmaCh) : (s.mDma f).eccBad = s.eccBad := rfl
@[simp] theorem State.mDma_bus (s : State) (f : (List DmaCh) → List DmaCh) : (s.mDma f).bus = s.bus := rfl
@[simp] theorem State.mDma_caps (s : State) (f : (List DmaCh) → List DmaCh) : (s.mDma f).caps = s.caps := rfl
@[simp] theorem State.mDma_free (s : State) (f : (List DmaCh) → List DmaCh) : (s.mDma f).free = s.free := rfl
@[simp] theorem State.mDma_cs (s : State) (f : (List DmaCh) → List DmaCh) : (s.mDma f).cs = s.cs := rfl
@[simp] theorem State.mDma_viol (s : State) (f : (List DmaCh) → List DmaCh) : (s.mDma f).viol = s.viol := rfl
@[simp] theorem State.mDma_coreA (s : State) (f : (List DmaCh) → List DmaCh) : (s.mDma f).coreA = s.coreA := rfl
@[simp] theorem State.mDma_coreB (s : State) (f : (List DmaCh) → List DmaCh) : (s.mDma f).coreB = s.coreB := rfl
@[simp] theorem State.mDma_int (s : State) (f : (List DmaCh) → List DmaCh) : (s.mDma f).int = s.int := rfl
@[simp] theorem State.mDma_dma (s : State) (f : (List DmaCh) → List DmaCh) : (s.mDma f).dma = f s.dma := rfl
@[simp] theorem State.mDma_rtc (s : State) (f : (List DmaCh) → List DmaCh) : (s.mDma f).rtc = s.rtc := rfl
@[simp] theorem State.mDma_flue (s : State) (f : (List DmaCh) → List DmaCh) : (s.mDma f).flue = s.flue := rfl
@[simp] theorem State.mDma_ash (s : State) (f : (List DmaCh) → List DmaCh) : (s.mDma f).ash = s.ash := rfl
@[simp] theorem State.mDma_pwr (s : State) (f : (List DmaCh) → List DmaCh) : (s.mDma f).pwr = s.pwr := rfl
@[simp] theorem State.mDma_rst (s : State) (f : (List DmaCh) → List DmaCh) : (s.mDma f).rst = s.rst := rfl
@[simp] theorem State.mDma_info (s : State) (f : (List DmaCh) → List DmaCh) : (s.mDma f).info = s.info := rfl
@[simp] theorem State.mDma_flc (s : State) (f : (List DmaCh) → List DmaCh) : (s.mDma f).flc = s.flc := rfl
@[simp] theorem State.mDma_vlt (s : State) (f : (List DmaCh) → List DmaCh) : (s.mDma f).vlt = s.vlt := rfl
@[simp] theorem State.mDma_fuse (s : State) (f : (List DmaCh) → List DmaCh) : (s.mDma f).fuse = s.fuse := rfl
@[simp] theorem State.mDma_rsv (s : State) (f : (List DmaCh) → List DmaCh) : (s.mDma f).rsv = s.rsv := rfl
@[simp] theorem State.mDma_hrt (s : State) (f : (List DmaCh) → List DmaCh) : (s.mDma f).hrt = s.hrt := rfl
@[simp] theorem State.mDma_hst (s : State) (f : (List DmaCh) → List DmaCh) : (s.mDma f).hst = s.hst := rfl
@[simp] theorem State.mDma_svc (s : State) (f : (List DmaCh) → List DmaCh) : (s.mDma f).svc = s.svc := rfl
@[simp] theorem State.mDma_pil (s : State) (f : (List DmaCh) → List DmaCh) : (s.mDma f).pil = s.pil := rfl
@[simp] theorem State.mDma_per (s : State) (f : (List DmaCh) → List DmaCh) : (s.mDma f).per = s.per := rfl
@[simp] theorem State.mDma_upd (s : State) (f : (List DmaCh) → List DmaCh) : (s.mDma f).upd = s.upd := rfl
@[simp] theorem State.mDma_sup (s : State) (f : (List DmaCh) → List DmaCh) : (s.mDma f).sup = s.sup := rfl
@[simp] theorem State.mDma_pending (s : State) (f : (List DmaCh) → List DmaCh) : (s.mDma f).pending = s.pending := rfl
@[simp] theorem State.mRtc_part (s : State) (f : RtcSt → RtcSt) : (s.mRtc f).part = s.part := rfl
@[simp] theorem State.mRtc_regs (s : State) (f : RtcSt → RtcSt) : (s.mRtc f).regs = s.regs := rfl
@[simp] theorem State.mRtc_mem (s : State) (f : RtcSt → RtcSt) : (s.mRtc f).mem = s.mem := rfl
@[simp] theorem State.mRtc_eccBad (s : State) (f : RtcSt → RtcSt) : (s.mRtc f).eccBad = s.eccBad := rfl
@[simp] theorem State.mRtc_bus (s : State) (f : RtcSt → RtcSt) : (s.mRtc f).bus = s.bus := rfl
@[simp] theorem State.mRtc_caps (s : State) (f : RtcSt → RtcSt) : (s.mRtc f).caps = s.caps := rfl
@[simp] theorem State.mRtc_free (s : State) (f : RtcSt → RtcSt) : (s.mRtc f).free = s.free := rfl
@[simp] theorem State.mRtc_cs (s : State) (f : RtcSt → RtcSt) : (s.mRtc f).cs = s.cs := rfl
@[simp] theorem State.mRtc_viol (s : State) (f : RtcSt → RtcSt) : (s.mRtc f).viol = s.viol := rfl
@[simp] theorem State.mRtc_coreA (s : State) (f : RtcSt → RtcSt) : (s.mRtc f).coreA = s.coreA := rfl
@[simp] theorem State.mRtc_coreB (s : State) (f : RtcSt → RtcSt) : (s.mRtc f).coreB = s.coreB := rfl
@[simp] theorem State.mRtc_int (s : State) (f : RtcSt → RtcSt) : (s.mRtc f).int = s.int := rfl
@[simp] theorem State.mRtc_dma (s : State) (f : RtcSt → RtcSt) : (s.mRtc f).dma = s.dma := rfl
@[simp] theorem State.mRtc_rtc (s : State) (f : RtcSt → RtcSt) : (s.mRtc f).rtc = f s.rtc := rfl
@[simp] theorem State.mRtc_flue (s : State) (f : RtcSt → RtcSt) : (s.mRtc f).flue = s.flue := rfl
@[simp] theorem State.mRtc_ash (s : State) (f : RtcSt → RtcSt) : (s.mRtc f).ash = s.ash := rfl
@[simp] theorem State.mRtc_pwr (s : State) (f : RtcSt → RtcSt) : (s.mRtc f).pwr = s.pwr := rfl
@[simp] theorem State.mRtc_rst (s : State) (f : RtcSt → RtcSt) : (s.mRtc f).rst = s.rst := rfl
@[simp] theorem State.mRtc_info (s : State) (f : RtcSt → RtcSt) : (s.mRtc f).info = s.info := rfl
@[simp] theorem State.mRtc_flc (s : State) (f : RtcSt → RtcSt) : (s.mRtc f).flc = s.flc := rfl
@[simp] theorem State.mRtc_vlt (s : State) (f : RtcSt → RtcSt) : (s.mRtc f).vlt = s.vlt := rfl
@[simp] theorem State.mRtc_fuse (s : State) (f : RtcSt → RtcSt) : (s.mRtc f).fuse = s.fuse := rfl
@[simp] theorem State.mRtc_rsv (s : State) (f : RtcSt → RtcSt) : (s.mRtc f).rsv = s.rsv := rfl
@[simp] theorem State.mRtc_hrt (s : State) (f : RtcSt → RtcSt) : (s.mRtc f).hrt = s.hrt := rfl
@[simp] theorem State.mRtc_hst (s : State) (f : RtcSt → RtcSt) : (s.mRtc f).hst = s.hst := rfl
@[simp] theorem State.mRtc_svc (s : State) (f : RtcSt → RtcSt) : (s.mRtc f).svc = s.svc := rfl
@[simp] theorem State.mRtc_pil (s : State) (f : RtcSt → RtcSt) : (s.mRtc f).pil = s.pil := rfl
@[simp] theorem State.mRtc_per (s : State) (f : RtcSt → RtcSt) : (s.mRtc f).per = s.per := rfl
@[simp] theorem State.mRtc_upd (s : State) (f : RtcSt → RtcSt) : (s.mRtc f).upd = s.upd := rfl
@[simp] theorem State.mRtc_sup (s : State) (f : RtcSt → RtcSt) : (s.mRtc f).sup = s.sup := rfl
@[simp] theorem State.mRtc_pending (s : State) (f : RtcSt → RtcSt) : (s.mRtc f).pending = s.pending := rfl
@[simp] theorem State.mFlue_part (s : State) (f : FlueSt → FlueSt) : (s.mFlue f).part = s.part := rfl
@[simp] theorem State.mFlue_regs (s : State) (f : FlueSt → FlueSt) : (s.mFlue f).regs = s.regs := rfl
@[simp] theorem State.mFlue_mem (s : State) (f : FlueSt → FlueSt) : (s.mFlue f).mem = s.mem := rfl
@[simp] theorem State.mFlue_eccBad (s : State) (f : FlueSt → FlueSt) : (s.mFlue f).eccBad = s.eccBad := rfl
@[simp] theorem State.mFlue_bus (s : State) (f : FlueSt → FlueSt) : (s.mFlue f).bus = s.bus := rfl
@[simp] theorem State.mFlue_caps (s : State) (f : FlueSt → FlueSt) : (s.mFlue f).caps = s.caps := rfl
@[simp] theorem State.mFlue_free (s : State) (f : FlueSt → FlueSt) : (s.mFlue f).free = s.free := rfl
@[simp] theorem State.mFlue_cs (s : State) (f : FlueSt → FlueSt) : (s.mFlue f).cs = s.cs := rfl
@[simp] theorem State.mFlue_viol (s : State) (f : FlueSt → FlueSt) : (s.mFlue f).viol = s.viol := rfl
@[simp] theorem State.mFlue_coreA (s : State) (f : FlueSt → FlueSt) : (s.mFlue f).coreA = s.coreA := rfl
@[simp] theorem State.mFlue_coreB (s : State) (f : FlueSt → FlueSt) : (s.mFlue f).coreB = s.coreB := rfl
@[simp] theorem State.mFlue_int (s : State) (f : FlueSt → FlueSt) : (s.mFlue f).int = s.int := rfl
@[simp] theorem State.mFlue_dma (s : State) (f : FlueSt → FlueSt) : (s.mFlue f).dma = s.dma := rfl
@[simp] theorem State.mFlue_rtc (s : State) (f : FlueSt → FlueSt) : (s.mFlue f).rtc = s.rtc := rfl
@[simp] theorem State.mFlue_flue (s : State) (f : FlueSt → FlueSt) : (s.mFlue f).flue = f s.flue := rfl
@[simp] theorem State.mFlue_ash (s : State) (f : FlueSt → FlueSt) : (s.mFlue f).ash = s.ash := rfl
@[simp] theorem State.mFlue_pwr (s : State) (f : FlueSt → FlueSt) : (s.mFlue f).pwr = s.pwr := rfl
@[simp] theorem State.mFlue_rst (s : State) (f : FlueSt → FlueSt) : (s.mFlue f).rst = s.rst := rfl
@[simp] theorem State.mFlue_info (s : State) (f : FlueSt → FlueSt) : (s.mFlue f).info = s.info := rfl
@[simp] theorem State.mFlue_flc (s : State) (f : FlueSt → FlueSt) : (s.mFlue f).flc = s.flc := rfl
@[simp] theorem State.mFlue_vlt (s : State) (f : FlueSt → FlueSt) : (s.mFlue f).vlt = s.vlt := rfl
@[simp] theorem State.mFlue_fuse (s : State) (f : FlueSt → FlueSt) : (s.mFlue f).fuse = s.fuse := rfl
@[simp] theorem State.mFlue_rsv (s : State) (f : FlueSt → FlueSt) : (s.mFlue f).rsv = s.rsv := rfl
@[simp] theorem State.mFlue_hrt (s : State) (f : FlueSt → FlueSt) : (s.mFlue f).hrt = s.hrt := rfl
@[simp] theorem State.mFlue_hst (s : State) (f : FlueSt → FlueSt) : (s.mFlue f).hst = s.hst := rfl
@[simp] theorem State.mFlue_svc (s : State) (f : FlueSt → FlueSt) : (s.mFlue f).svc = s.svc := rfl
@[simp] theorem State.mFlue_pil (s : State) (f : FlueSt → FlueSt) : (s.mFlue f).pil = s.pil := rfl
@[simp] theorem State.mFlue_per (s : State) (f : FlueSt → FlueSt) : (s.mFlue f).per = s.per := rfl
@[simp] theorem State.mFlue_upd (s : State) (f : FlueSt → FlueSt) : (s.mFlue f).upd = s.upd := rfl
@[simp] theorem State.mFlue_sup (s : State) (f : FlueSt → FlueSt) : (s.mFlue f).sup = s.sup := rfl
@[simp] theorem State.mFlue_pending (s : State) (f : FlueSt → FlueSt) : (s.mFlue f).pending = s.pending := rfl
@[simp] theorem State.mAsh_part (s : State) (f : AshSt → AshSt) : (s.mAsh f).part = s.part := rfl
@[simp] theorem State.mAsh_regs (s : State) (f : AshSt → AshSt) : (s.mAsh f).regs = s.regs := rfl
@[simp] theorem State.mAsh_mem (s : State) (f : AshSt → AshSt) : (s.mAsh f).mem = s.mem := rfl
@[simp] theorem State.mAsh_eccBad (s : State) (f : AshSt → AshSt) : (s.mAsh f).eccBad = s.eccBad := rfl
@[simp] theorem State.mAsh_bus (s : State) (f : AshSt → AshSt) : (s.mAsh f).bus = s.bus := rfl
@[simp] theorem State.mAsh_caps (s : State) (f : AshSt → AshSt) : (s.mAsh f).caps = s.caps := rfl
@[simp] theorem State.mAsh_free (s : State) (f : AshSt → AshSt) : (s.mAsh f).free = s.free := rfl
@[simp] theorem State.mAsh_cs (s : State) (f : AshSt → AshSt) : (s.mAsh f).cs = s.cs := rfl
@[simp] theorem State.mAsh_viol (s : State) (f : AshSt → AshSt) : (s.mAsh f).viol = s.viol := rfl
@[simp] theorem State.mAsh_coreA (s : State) (f : AshSt → AshSt) : (s.mAsh f).coreA = s.coreA := rfl
@[simp] theorem State.mAsh_coreB (s : State) (f : AshSt → AshSt) : (s.mAsh f).coreB = s.coreB := rfl
@[simp] theorem State.mAsh_int (s : State) (f : AshSt → AshSt) : (s.mAsh f).int = s.int := rfl
@[simp] theorem State.mAsh_dma (s : State) (f : AshSt → AshSt) : (s.mAsh f).dma = s.dma := rfl
@[simp] theorem State.mAsh_rtc (s : State) (f : AshSt → AshSt) : (s.mAsh f).rtc = s.rtc := rfl
@[simp] theorem State.mAsh_flue (s : State) (f : AshSt → AshSt) : (s.mAsh f).flue = s.flue := rfl
@[simp] theorem State.mAsh_ash (s : State) (f : AshSt → AshSt) : (s.mAsh f).ash = f s.ash := rfl
@[simp] theorem State.mAsh_pwr (s : State) (f : AshSt → AshSt) : (s.mAsh f).pwr = s.pwr := rfl
@[simp] theorem State.mAsh_rst (s : State) (f : AshSt → AshSt) : (s.mAsh f).rst = s.rst := rfl
@[simp] theorem State.mAsh_info (s : State) (f : AshSt → AshSt) : (s.mAsh f).info = s.info := rfl
@[simp] theorem State.mAsh_flc (s : State) (f : AshSt → AshSt) : (s.mAsh f).flc = s.flc := rfl
@[simp] theorem State.mAsh_vlt (s : State) (f : AshSt → AshSt) : (s.mAsh f).vlt = s.vlt := rfl
@[simp] theorem State.mAsh_fuse (s : State) (f : AshSt → AshSt) : (s.mAsh f).fuse = s.fuse := rfl
@[simp] theorem State.mAsh_rsv (s : State) (f : AshSt → AshSt) : (s.mAsh f).rsv = s.rsv := rfl
@[simp] theorem State.mAsh_hrt (s : State) (f : AshSt → AshSt) : (s.mAsh f).hrt = s.hrt := rfl
@[simp] theorem State.mAsh_hst (s : State) (f : AshSt → AshSt) : (s.mAsh f).hst = s.hst := rfl
@[simp] theorem State.mAsh_svc (s : State) (f : AshSt → AshSt) : (s.mAsh f).svc = s.svc := rfl
@[simp] theorem State.mAsh_pil (s : State) (f : AshSt → AshSt) : (s.mAsh f).pil = s.pil := rfl
@[simp] theorem State.mAsh_per (s : State) (f : AshSt → AshSt) : (s.mAsh f).per = s.per := rfl
@[simp] theorem State.mAsh_upd (s : State) (f : AshSt → AshSt) : (s.mAsh f).upd = s.upd := rfl
@[simp] theorem State.mAsh_sup (s : State) (f : AshSt → AshSt) : (s.mAsh f).sup = s.sup := rfl
@[simp] theorem State.mAsh_pending (s : State) (f : AshSt → AshSt) : (s.mAsh f).pending = s.pending := rfl
@[simp] theorem State.mPwr_part (s : State) (f : PwrSt → PwrSt) : (s.mPwr f).part = s.part := rfl
@[simp] theorem State.mPwr_regs (s : State) (f : PwrSt → PwrSt) : (s.mPwr f).regs = s.regs := rfl
@[simp] theorem State.mPwr_mem (s : State) (f : PwrSt → PwrSt) : (s.mPwr f).mem = s.mem := rfl
@[simp] theorem State.mPwr_eccBad (s : State) (f : PwrSt → PwrSt) : (s.mPwr f).eccBad = s.eccBad := rfl
@[simp] theorem State.mPwr_bus (s : State) (f : PwrSt → PwrSt) : (s.mPwr f).bus = s.bus := rfl
@[simp] theorem State.mPwr_caps (s : State) (f : PwrSt → PwrSt) : (s.mPwr f).caps = s.caps := rfl
@[simp] theorem State.mPwr_free (s : State) (f : PwrSt → PwrSt) : (s.mPwr f).free = s.free := rfl
@[simp] theorem State.mPwr_cs (s : State) (f : PwrSt → PwrSt) : (s.mPwr f).cs = s.cs := rfl
@[simp] theorem State.mPwr_viol (s : State) (f : PwrSt → PwrSt) : (s.mPwr f).viol = s.viol := rfl
@[simp] theorem State.mPwr_coreA (s : State) (f : PwrSt → PwrSt) : (s.mPwr f).coreA = s.coreA := rfl
@[simp] theorem State.mPwr_coreB (s : State) (f : PwrSt → PwrSt) : (s.mPwr f).coreB = s.coreB := rfl
@[simp] theorem State.mPwr_int (s : State) (f : PwrSt → PwrSt) : (s.mPwr f).int = s.int := rfl
@[simp] theorem State.mPwr_dma (s : State) (f : PwrSt → PwrSt) : (s.mPwr f).dma = s.dma := rfl
@[simp] theorem State.mPwr_rtc (s : State) (f : PwrSt → PwrSt) : (s.mPwr f).rtc = s.rtc := rfl
@[simp] theorem State.mPwr_flue (s : State) (f : PwrSt → PwrSt) : (s.mPwr f).flue = s.flue := rfl
@[simp] theorem State.mPwr_ash (s : State) (f : PwrSt → PwrSt) : (s.mPwr f).ash = s.ash := rfl
@[simp] theorem State.mPwr_pwr (s : State) (f : PwrSt → PwrSt) : (s.mPwr f).pwr = f s.pwr := rfl
@[simp] theorem State.mPwr_rst (s : State) (f : PwrSt → PwrSt) : (s.mPwr f).rst = s.rst := rfl
@[simp] theorem State.mPwr_info (s : State) (f : PwrSt → PwrSt) : (s.mPwr f).info = s.info := rfl
@[simp] theorem State.mPwr_flc (s : State) (f : PwrSt → PwrSt) : (s.mPwr f).flc = s.flc := rfl
@[simp] theorem State.mPwr_vlt (s : State) (f : PwrSt → PwrSt) : (s.mPwr f).vlt = s.vlt := rfl
@[simp] theorem State.mPwr_fuse (s : State) (f : PwrSt → PwrSt) : (s.mPwr f).fuse = s.fuse := rfl
@[simp] theorem State.mPwr_rsv (s : State) (f : PwrSt → PwrSt) : (s.mPwr f).rsv = s.rsv := rfl
@[simp] theorem State.mPwr_hrt (s : State) (f : PwrSt → PwrSt) : (s.mPwr f).hrt = s.hrt := rfl
@[simp] theorem State.mPwr_hst (s : State) (f : PwrSt → PwrSt) : (s.mPwr f).hst = s.hst := rfl
@[simp] theorem State.mPwr_svc (s : State) (f : PwrSt → PwrSt) : (s.mPwr f).svc = s.svc := rfl
@[simp] theorem State.mPwr_pil (s : State) (f : PwrSt → PwrSt) : (s.mPwr f).pil = s.pil := rfl
@[simp] theorem State.mPwr_per (s : State) (f : PwrSt → PwrSt) : (s.mPwr f).per = s.per := rfl
@[simp] theorem State.mPwr_upd (s : State) (f : PwrSt → PwrSt) : (s.mPwr f).upd = s.upd := rfl
@[simp] theorem State.mPwr_sup (s : State) (f : PwrSt → PwrSt) : (s.mPwr f).sup = s.sup := rfl
@[simp] theorem State.mPwr_pending (s : State) (f : PwrSt → PwrSt) : (s.mPwr f).pending = s.pending := rfl
@[simp] theorem State.mRst_part (s : State) (f : RstSt → RstSt) : (s.mRst f).part = s.part := rfl
@[simp] theorem State.mRst_regs (s : State) (f : RstSt → RstSt) : (s.mRst f).regs = s.regs := rfl
@[simp] theorem State.mRst_mem (s : State) (f : RstSt → RstSt) : (s.mRst f).mem = s.mem := rfl
@[simp] theorem State.mRst_eccBad (s : State) (f : RstSt → RstSt) : (s.mRst f).eccBad = s.eccBad := rfl
@[simp] theorem State.mRst_bus (s : State) (f : RstSt → RstSt) : (s.mRst f).bus = s.bus := rfl
@[simp] theorem State.mRst_caps (s : State) (f : RstSt → RstSt) : (s.mRst f).caps = s.caps := rfl
@[simp] theorem State.mRst_free (s : State) (f : RstSt → RstSt) : (s.mRst f).free = s.free := rfl
@[simp] theorem State.mRst_cs (s : State) (f : RstSt → RstSt) : (s.mRst f).cs = s.cs := rfl
@[simp] theorem State.mRst_viol (s : State) (f : RstSt → RstSt) : (s.mRst f).viol = s.viol := rfl
@[simp] theorem State.mRst_coreA (s : State) (f : RstSt → RstSt) : (s.mRst f).coreA = s.coreA := rfl
@[simp] theorem State.mRst_coreB (s : State) (f : RstSt → RstSt) : (s.mRst f).coreB = s.coreB := rfl
@[simp] theorem State.mRst_int (s : State) (f : RstSt → RstSt) : (s.mRst f).int = s.int := rfl
@[simp] theorem State.mRst_dma (s : State) (f : RstSt → RstSt) : (s.mRst f).dma = s.dma := rfl
@[simp] theorem State.mRst_rtc (s : State) (f : RstSt → RstSt) : (s.mRst f).rtc = s.rtc := rfl
@[simp] theorem State.mRst_flue (s : State) (f : RstSt → RstSt) : (s.mRst f).flue = s.flue := rfl
@[simp] theorem State.mRst_ash (s : State) (f : RstSt → RstSt) : (s.mRst f).ash = s.ash := rfl
@[simp] theorem State.mRst_pwr (s : State) (f : RstSt → RstSt) : (s.mRst f).pwr = s.pwr := rfl
@[simp] theorem State.mRst_rst (s : State) (f : RstSt → RstSt) : (s.mRst f).rst = f s.rst := rfl
@[simp] theorem State.mRst_info (s : State) (f : RstSt → RstSt) : (s.mRst f).info = s.info := rfl
@[simp] theorem State.mRst_flc (s : State) (f : RstSt → RstSt) : (s.mRst f).flc = s.flc := rfl
@[simp] theorem State.mRst_vlt (s : State) (f : RstSt → RstSt) : (s.mRst f).vlt = s.vlt := rfl
@[simp] theorem State.mRst_fuse (s : State) (f : RstSt → RstSt) : (s.mRst f).fuse = s.fuse := rfl
@[simp] theorem State.mRst_rsv (s : State) (f : RstSt → RstSt) : (s.mRst f).rsv = s.rsv := rfl
@[simp] theorem State.mRst_hrt (s : State) (f : RstSt → RstSt) : (s.mRst f).hrt = s.hrt := rfl
@[simp] theorem State.mRst_hst (s : State) (f : RstSt → RstSt) : (s.mRst f).hst = s.hst := rfl
@[simp] theorem State.mRst_svc (s : State) (f : RstSt → RstSt) : (s.mRst f).svc = s.svc := rfl
@[simp] theorem State.mRst_pil (s : State) (f : RstSt → RstSt) : (s.mRst f).pil = s.pil := rfl
@[simp] theorem State.mRst_per (s : State) (f : RstSt → RstSt) : (s.mRst f).per = s.per := rfl
@[simp] theorem State.mRst_upd (s : State) (f : RstSt → RstSt) : (s.mRst f).upd = s.upd := rfl
@[simp] theorem State.mRst_sup (s : State) (f : RstSt → RstSt) : (s.mRst f).sup = s.sup := rfl
@[simp] theorem State.mRst_pending (s : State) (f : RstSt → RstSt) : (s.mRst f).pending = s.pending := rfl
@[simp] theorem State.mInfo_part (s : State) (f : InfoArea → InfoArea) : (s.mInfo f).part = s.part := rfl
@[simp] theorem State.mInfo_regs (s : State) (f : InfoArea → InfoArea) : (s.mInfo f).regs = s.regs := rfl
@[simp] theorem State.mInfo_mem (s : State) (f : InfoArea → InfoArea) : (s.mInfo f).mem = s.mem := rfl
@[simp] theorem State.mInfo_eccBad (s : State) (f : InfoArea → InfoArea) : (s.mInfo f).eccBad = s.eccBad := rfl
@[simp] theorem State.mInfo_bus (s : State) (f : InfoArea → InfoArea) : (s.mInfo f).bus = s.bus := rfl
@[simp] theorem State.mInfo_caps (s : State) (f : InfoArea → InfoArea) : (s.mInfo f).caps = s.caps := rfl
@[simp] theorem State.mInfo_free (s : State) (f : InfoArea → InfoArea) : (s.mInfo f).free = s.free := rfl
@[simp] theorem State.mInfo_cs (s : State) (f : InfoArea → InfoArea) : (s.mInfo f).cs = s.cs := rfl
@[simp] theorem State.mInfo_viol (s : State) (f : InfoArea → InfoArea) : (s.mInfo f).viol = s.viol := rfl
@[simp] theorem State.mInfo_coreA (s : State) (f : InfoArea → InfoArea) : (s.mInfo f).coreA = s.coreA := rfl
@[simp] theorem State.mInfo_coreB (s : State) (f : InfoArea → InfoArea) : (s.mInfo f).coreB = s.coreB := rfl
@[simp] theorem State.mInfo_int (s : State) (f : InfoArea → InfoArea) : (s.mInfo f).int = s.int := rfl
@[simp] theorem State.mInfo_dma (s : State) (f : InfoArea → InfoArea) : (s.mInfo f).dma = s.dma := rfl
@[simp] theorem State.mInfo_rtc (s : State) (f : InfoArea → InfoArea) : (s.mInfo f).rtc = s.rtc := rfl
@[simp] theorem State.mInfo_flue (s : State) (f : InfoArea → InfoArea) : (s.mInfo f).flue = s.flue := rfl
@[simp] theorem State.mInfo_ash (s : State) (f : InfoArea → InfoArea) : (s.mInfo f).ash = s.ash := rfl
@[simp] theorem State.mInfo_pwr (s : State) (f : InfoArea → InfoArea) : (s.mInfo f).pwr = s.pwr := rfl
@[simp] theorem State.mInfo_rst (s : State) (f : InfoArea → InfoArea) : (s.mInfo f).rst = s.rst := rfl
@[simp] theorem State.mInfo_info (s : State) (f : InfoArea → InfoArea) : (s.mInfo f).info = f s.info := rfl
@[simp] theorem State.mInfo_flc (s : State) (f : InfoArea → InfoArea) : (s.mInfo f).flc = s.flc := rfl
@[simp] theorem State.mInfo_vlt (s : State) (f : InfoArea → InfoArea) : (s.mInfo f).vlt = s.vlt := rfl
@[simp] theorem State.mInfo_fuse (s : State) (f : InfoArea → InfoArea) : (s.mInfo f).fuse = s.fuse := rfl
@[simp] theorem State.mInfo_rsv (s : State) (f : InfoArea → InfoArea) : (s.mInfo f).rsv = s.rsv := rfl
@[simp] theorem State.mInfo_hrt (s : State) (f : InfoArea → InfoArea) : (s.mInfo f).hrt = s.hrt := rfl
@[simp] theorem State.mInfo_hst (s : State) (f : InfoArea → InfoArea) : (s.mInfo f).hst = s.hst := rfl
@[simp] theorem State.mInfo_svc (s : State) (f : InfoArea → InfoArea) : (s.mInfo f).svc = s.svc := rfl
@[simp] theorem State.mInfo_pil (s : State) (f : InfoArea → InfoArea) : (s.mInfo f).pil = s.pil := rfl
@[simp] theorem State.mInfo_per (s : State) (f : InfoArea → InfoArea) : (s.mInfo f).per = s.per := rfl
@[simp] theorem State.mInfo_upd (s : State) (f : InfoArea → InfoArea) : (s.mInfo f).upd = s.upd := rfl
@[simp] theorem State.mInfo_sup (s : State) (f : InfoArea → InfoArea) : (s.mInfo f).sup = s.sup := rfl
@[simp] theorem State.mInfo_pending (s : State) (f : InfoArea → InfoArea) : (s.mInfo f).pending = s.pending := rfl
@[simp] theorem State.mFlc_part (s : State) (f : FlcSt → FlcSt) : (s.mFlc f).part = s.part := rfl
@[simp] theorem State.mFlc_regs (s : State) (f : FlcSt → FlcSt) : (s.mFlc f).regs = s.regs := rfl
@[simp] theorem State.mFlc_mem (s : State) (f : FlcSt → FlcSt) : (s.mFlc f).mem = s.mem := rfl
@[simp] theorem State.mFlc_eccBad (s : State) (f : FlcSt → FlcSt) : (s.mFlc f).eccBad = s.eccBad := rfl
@[simp] theorem State.mFlc_bus (s : State) (f : FlcSt → FlcSt) : (s.mFlc f).bus = s.bus := rfl
@[simp] theorem State.mFlc_caps (s : State) (f : FlcSt → FlcSt) : (s.mFlc f).caps = s.caps := rfl
@[simp] theorem State.mFlc_free (s : State) (f : FlcSt → FlcSt) : (s.mFlc f).free = s.free := rfl
@[simp] theorem State.mFlc_cs (s : State) (f : FlcSt → FlcSt) : (s.mFlc f).cs = s.cs := rfl
@[simp] theorem State.mFlc_viol (s : State) (f : FlcSt → FlcSt) : (s.mFlc f).viol = s.viol := rfl
@[simp] theorem State.mFlc_coreA (s : State) (f : FlcSt → FlcSt) : (s.mFlc f).coreA = s.coreA := rfl
@[simp] theorem State.mFlc_coreB (s : State) (f : FlcSt → FlcSt) : (s.mFlc f).coreB = s.coreB := rfl
@[simp] theorem State.mFlc_int (s : State) (f : FlcSt → FlcSt) : (s.mFlc f).int = s.int := rfl
@[simp] theorem State.mFlc_dma (s : State) (f : FlcSt → FlcSt) : (s.mFlc f).dma = s.dma := rfl
@[simp] theorem State.mFlc_rtc (s : State) (f : FlcSt → FlcSt) : (s.mFlc f).rtc = s.rtc := rfl
@[simp] theorem State.mFlc_flue (s : State) (f : FlcSt → FlcSt) : (s.mFlc f).flue = s.flue := rfl
@[simp] theorem State.mFlc_ash (s : State) (f : FlcSt → FlcSt) : (s.mFlc f).ash = s.ash := rfl
@[simp] theorem State.mFlc_pwr (s : State) (f : FlcSt → FlcSt) : (s.mFlc f).pwr = s.pwr := rfl
@[simp] theorem State.mFlc_rst (s : State) (f : FlcSt → FlcSt) : (s.mFlc f).rst = s.rst := rfl
@[simp] theorem State.mFlc_info (s : State) (f : FlcSt → FlcSt) : (s.mFlc f).info = s.info := rfl
@[simp] theorem State.mFlc_flc (s : State) (f : FlcSt → FlcSt) : (s.mFlc f).flc = f s.flc := rfl
@[simp] theorem State.mFlc_vlt (s : State) (f : FlcSt → FlcSt) : (s.mFlc f).vlt = s.vlt := rfl
@[simp] theorem State.mFlc_fuse (s : State) (f : FlcSt → FlcSt) : (s.mFlc f).fuse = s.fuse := rfl
@[simp] theorem State.mFlc_rsv (s : State) (f : FlcSt → FlcSt) : (s.mFlc f).rsv = s.rsv := rfl
@[simp] theorem State.mFlc_hrt (s : State) (f : FlcSt → FlcSt) : (s.mFlc f).hrt = s.hrt := rfl
@[simp] theorem State.mFlc_hst (s : State) (f : FlcSt → FlcSt) : (s.mFlc f).hst = s.hst := rfl
@[simp] theorem State.mFlc_svc (s : State) (f : FlcSt → FlcSt) : (s.mFlc f).svc = s.svc := rfl
@[simp] theorem State.mFlc_pil (s : State) (f : FlcSt → FlcSt) : (s.mFlc f).pil = s.pil := rfl
@[simp] theorem State.mFlc_per (s : State) (f : FlcSt → FlcSt) : (s.mFlc f).per = s.per := rfl
@[simp] theorem State.mFlc_upd (s : State) (f : FlcSt → FlcSt) : (s.mFlc f).upd = s.upd := rfl
@[simp] theorem State.mFlc_sup (s : State) (f : FlcSt → FlcSt) : (s.mFlc f).sup = s.sup := rfl
@[simp] theorem State.mFlc_pending (s : State) (f : FlcSt → FlcSt) : (s.mFlc f).pending = s.pending := rfl
@[simp] theorem State.mVlt_part (s : State) (f : VaultSt → VaultSt) : (s.mVlt f).part = s.part := rfl
@[simp] theorem State.mVlt_regs (s : State) (f : VaultSt → VaultSt) : (s.mVlt f).regs = s.regs := rfl
@[simp] theorem State.mVlt_mem (s : State) (f : VaultSt → VaultSt) : (s.mVlt f).mem = s.mem := rfl
@[simp] theorem State.mVlt_eccBad (s : State) (f : VaultSt → VaultSt) : (s.mVlt f).eccBad = s.eccBad := rfl
@[simp] theorem State.mVlt_bus (s : State) (f : VaultSt → VaultSt) : (s.mVlt f).bus = s.bus := rfl
@[simp] theorem State.mVlt_caps (s : State) (f : VaultSt → VaultSt) : (s.mVlt f).caps = s.caps := rfl
@[simp] theorem State.mVlt_free (s : State) (f : VaultSt → VaultSt) : (s.mVlt f).free = s.free := rfl
@[simp] theorem State.mVlt_cs (s : State) (f : VaultSt → VaultSt) : (s.mVlt f).cs = s.cs := rfl
@[simp] theorem State.mVlt_viol (s : State) (f : VaultSt → VaultSt) : (s.mVlt f).viol = s.viol := rfl
@[simp] theorem State.mVlt_coreA (s : State) (f : VaultSt → VaultSt) : (s.mVlt f).coreA = s.coreA := rfl
@[simp] theorem State.mVlt_coreB (s : State) (f : VaultSt → VaultSt) : (s.mVlt f).coreB = s.coreB := rfl
@[simp] theorem State.mVlt_int (s : State) (f : VaultSt → VaultSt) : (s.mVlt f).int = s.int := rfl
@[simp] theorem State.mVlt_dma (s : State) (f : VaultSt → VaultSt) : (s.mVlt f).dma = s.dma := rfl
@[simp] theorem State.mVlt_rtc (s : State) (f : VaultSt → VaultSt) : (s.mVlt f).rtc = s.rtc := rfl
@[simp] theorem State.mVlt_flue (s : State) (f : VaultSt → VaultSt) : (s.mVlt f).flue = s.flue := rfl
@[simp] theorem State.mVlt_ash (s : State) (f : VaultSt → VaultSt) : (s.mVlt f).ash = s.ash := rfl
@[simp] theorem State.mVlt_pwr (s : State) (f : VaultSt → VaultSt) : (s.mVlt f).pwr = s.pwr := rfl
@[simp] theorem State.mVlt_rst (s : State) (f : VaultSt → VaultSt) : (s.mVlt f).rst = s.rst := rfl
@[simp] theorem State.mVlt_info (s : State) (f : VaultSt → VaultSt) : (s.mVlt f).info = s.info := rfl
@[simp] theorem State.mVlt_flc (s : State) (f : VaultSt → VaultSt) : (s.mVlt f).flc = s.flc := rfl
@[simp] theorem State.mVlt_vlt (s : State) (f : VaultSt → VaultSt) : (s.mVlt f).vlt = f s.vlt := rfl
@[simp] theorem State.mVlt_fuse (s : State) (f : VaultSt → VaultSt) : (s.mVlt f).fuse = s.fuse := rfl
@[simp] theorem State.mVlt_rsv (s : State) (f : VaultSt → VaultSt) : (s.mVlt f).rsv = s.rsv := rfl
@[simp] theorem State.mVlt_hrt (s : State) (f : VaultSt → VaultSt) : (s.mVlt f).hrt = s.hrt := rfl
@[simp] theorem State.mVlt_hst (s : State) (f : VaultSt → VaultSt) : (s.mVlt f).hst = s.hst := rfl
@[simp] theorem State.mVlt_svc (s : State) (f : VaultSt → VaultSt) : (s.mVlt f).svc = s.svc := rfl
@[simp] theorem State.mVlt_pil (s : State) (f : VaultSt → VaultSt) : (s.mVlt f).pil = s.pil := rfl
@[simp] theorem State.mVlt_per (s : State) (f : VaultSt → VaultSt) : (s.mVlt f).per = s.per := rfl
@[simp] theorem State.mVlt_upd (s : State) (f : VaultSt → VaultSt) : (s.mVlt f).upd = s.upd := rfl
@[simp] theorem State.mVlt_sup (s : State) (f : VaultSt → VaultSt) : (s.mVlt f).sup = s.sup := rfl
@[simp] theorem State.mVlt_pending (s : State) (f : VaultSt → VaultSt) : (s.mVlt f).pending = s.pending := rfl
@[simp] theorem State.mFuse_part (s : State) (f : FuseSt → FuseSt) : (s.mFuse f).part = s.part := rfl
@[simp] theorem State.mFuse_regs (s : State) (f : FuseSt → FuseSt) : (s.mFuse f).regs = s.regs := rfl
@[simp] theorem State.mFuse_mem (s : State) (f : FuseSt → FuseSt) : (s.mFuse f).mem = s.mem := rfl
@[simp] theorem State.mFuse_eccBad (s : State) (f : FuseSt → FuseSt) : (s.mFuse f).eccBad = s.eccBad := rfl
@[simp] theorem State.mFuse_bus (s : State) (f : FuseSt → FuseSt) : (s.mFuse f).bus = s.bus := rfl
@[simp] theorem State.mFuse_caps (s : State) (f : FuseSt → FuseSt) : (s.mFuse f).caps = s.caps := rfl
@[simp] theorem State.mFuse_free (s : State) (f : FuseSt → FuseSt) : (s.mFuse f).free = s.free := rfl
@[simp] theorem State.mFuse_cs (s : State) (f : FuseSt → FuseSt) : (s.mFuse f).cs = s.cs := rfl
@[simp] theorem State.mFuse_viol (s : State) (f : FuseSt → FuseSt) : (s.mFuse f).viol = s.viol := rfl
@[simp] theorem State.mFuse_coreA (s : State) (f : FuseSt → FuseSt) : (s.mFuse f).coreA = s.coreA := rfl
@[simp] theorem State.mFuse_coreB (s : State) (f : FuseSt → FuseSt) : (s.mFuse f).coreB = s.coreB := rfl
@[simp] theorem State.mFuse_int (s : State) (f : FuseSt → FuseSt) : (s.mFuse f).int = s.int := rfl
@[simp] theorem State.mFuse_dma (s : State) (f : FuseSt → FuseSt) : (s.mFuse f).dma = s.dma := rfl
@[simp] theorem State.mFuse_rtc (s : State) (f : FuseSt → FuseSt) : (s.mFuse f).rtc = s.rtc := rfl
@[simp] theorem State.mFuse_flue (s : State) (f : FuseSt → FuseSt) : (s.mFuse f).flue = s.flue := rfl
@[simp] theorem State.mFuse_ash (s : State) (f : FuseSt → FuseSt) : (s.mFuse f).ash = s.ash := rfl
@[simp] theorem State.mFuse_pwr (s : State) (f : FuseSt → FuseSt) : (s.mFuse f).pwr = s.pwr := rfl
@[simp] theorem State.mFuse_rst (s : State) (f : FuseSt → FuseSt) : (s.mFuse f).rst = s.rst := rfl
@[simp] theorem State.mFuse_info (s : State) (f : FuseSt → FuseSt) : (s.mFuse f).info = s.info := rfl
@[simp] theorem State.mFuse_flc (s : State) (f : FuseSt → FuseSt) : (s.mFuse f).flc = s.flc := rfl
@[simp] theorem State.mFuse_vlt (s : State) (f : FuseSt → FuseSt) : (s.mFuse f).vlt = s.vlt := rfl
@[simp] theorem State.mFuse_fuse (s : State) (f : FuseSt → FuseSt) : (s.mFuse f).fuse = f s.fuse := rfl
@[simp] theorem State.mFuse_rsv (s : State) (f : FuseSt → FuseSt) : (s.mFuse f).rsv = s.rsv := rfl
@[simp] theorem State.mFuse_hrt (s : State) (f : FuseSt → FuseSt) : (s.mFuse f).hrt = s.hrt := rfl
@[simp] theorem State.mFuse_hst (s : State) (f : FuseSt → FuseSt) : (s.mFuse f).hst = s.hst := rfl
@[simp] theorem State.mFuse_svc (s : State) (f : FuseSt → FuseSt) : (s.mFuse f).svc = s.svc := rfl
@[simp] theorem State.mFuse_pil (s : State) (f : FuseSt → FuseSt) : (s.mFuse f).pil = s.pil := rfl
@[simp] theorem State.mFuse_per (s : State) (f : FuseSt → FuseSt) : (s.mFuse f).per = s.per := rfl
@[simp] theorem State.mFuse_upd (s : State) (f : FuseSt → FuseSt) : (s.mFuse f).upd = s.upd := rfl
@[simp] theorem State.mFuse_sup (s : State) (f : FuseSt → FuseSt) : (s.mFuse f).sup = s.sup := rfl
@[simp] theorem State.mFuse_pending (s : State) (f : FuseSt → FuseSt) : (s.mFuse f).pending = s.pending := rfl
@[simp] theorem State.mRsv_part (s : State) (f : RsvSt → RsvSt) : (s.mRsv f).part = s.part := rfl
@[simp] theorem State.mRsv_regs (s : State) (f : RsvSt → RsvSt) : (s.mRsv f).regs = s.regs := rfl
@[simp] theorem State.mRsv_mem (s : State) (f : RsvSt → RsvSt) : (s.mRsv f).mem = s.mem := rfl
@[simp] theorem State.mRsv_eccBad (s : State) (f : RsvSt → RsvSt) : (s.mRsv f).eccBad = s.eccBad := rfl
@[simp] theorem State.mRsv_bus (s : State) (f : RsvSt → RsvSt) : (s.mRsv f).bus = s.bus := rfl
@[simp] theorem State.mRsv_caps (s : State) (f : RsvSt → RsvSt) : (s.mRsv f).caps = s.caps := rfl
@[simp] theorem State.mRsv_free (s : State) (f : RsvSt → RsvSt) : (s.mRsv f).free = s.free := rfl
@[simp] theorem State.mRsv_cs (s : State) (f : RsvSt → RsvSt) : (s.mRsv f).cs = s.cs := rfl
@[simp] theorem State.mRsv_viol (s : State) (f : RsvSt → RsvSt) : (s.mRsv f).viol = s.viol := rfl
@[simp] theorem State.mRsv_coreA (s : State) (f : RsvSt → RsvSt) : (s.mRsv f).coreA = s.coreA := rfl
@[simp] theorem State.mRsv_coreB (s : State) (f : RsvSt → RsvSt) : (s.mRsv f).coreB = s.coreB := rfl
@[simp] theorem State.mRsv_int (s : State) (f : RsvSt → RsvSt) : (s.mRsv f).int = s.int := rfl
@[simp] theorem State.mRsv_dma (s : State) (f : RsvSt → RsvSt) : (s.mRsv f).dma = s.dma := rfl
@[simp] theorem State.mRsv_rtc (s : State) (f : RsvSt → RsvSt) : (s.mRsv f).rtc = s.rtc := rfl
@[simp] theorem State.mRsv_flue (s : State) (f : RsvSt → RsvSt) : (s.mRsv f).flue = s.flue := rfl
@[simp] theorem State.mRsv_ash (s : State) (f : RsvSt → RsvSt) : (s.mRsv f).ash = s.ash := rfl
@[simp] theorem State.mRsv_pwr (s : State) (f : RsvSt → RsvSt) : (s.mRsv f).pwr = s.pwr := rfl
@[simp] theorem State.mRsv_rst (s : State) (f : RsvSt → RsvSt) : (s.mRsv f).rst = s.rst := rfl
@[simp] theorem State.mRsv_info (s : State) (f : RsvSt → RsvSt) : (s.mRsv f).info = s.info := rfl
@[simp] theorem State.mRsv_flc (s : State) (f : RsvSt → RsvSt) : (s.mRsv f).flc = s.flc := rfl
@[simp] theorem State.mRsv_vlt (s : State) (f : RsvSt → RsvSt) : (s.mRsv f).vlt = s.vlt := rfl
@[simp] theorem State.mRsv_fuse (s : State) (f : RsvSt → RsvSt) : (s.mRsv f).fuse = s.fuse := rfl
@[simp] theorem State.mRsv_rsv (s : State) (f : RsvSt → RsvSt) : (s.mRsv f).rsv = f s.rsv := rfl
@[simp] theorem State.mRsv_hrt (s : State) (f : RsvSt → RsvSt) : (s.mRsv f).hrt = s.hrt := rfl
@[simp] theorem State.mRsv_hst (s : State) (f : RsvSt → RsvSt) : (s.mRsv f).hst = s.hst := rfl
@[simp] theorem State.mRsv_svc (s : State) (f : RsvSt → RsvSt) : (s.mRsv f).svc = s.svc := rfl
@[simp] theorem State.mRsv_pil (s : State) (f : RsvSt → RsvSt) : (s.mRsv f).pil = s.pil := rfl
@[simp] theorem State.mRsv_per (s : State) (f : RsvSt → RsvSt) : (s.mRsv f).per = s.per := rfl
@[simp] theorem State.mRsv_upd (s : State) (f : RsvSt → RsvSt) : (s.mRsv f).upd = s.upd := rfl
@[simp] theorem State.mRsv_sup (s : State) (f : RsvSt → RsvSt) : (s.mRsv f).sup = s.sup := rfl
@[simp] theorem State.mRsv_pending (s : State) (f : RsvSt → RsvSt) : (s.mRsv f).pending = s.pending := rfl
@[simp] theorem State.mHrt_part (s : State) (f : HearthSt → HearthSt) : (s.mHrt f).part = s.part := rfl
@[simp] theorem State.mHrt_regs (s : State) (f : HearthSt → HearthSt) : (s.mHrt f).regs = s.regs := rfl
@[simp] theorem State.mHrt_mem (s : State) (f : HearthSt → HearthSt) : (s.mHrt f).mem = s.mem := rfl
@[simp] theorem State.mHrt_eccBad (s : State) (f : HearthSt → HearthSt) : (s.mHrt f).eccBad = s.eccBad := rfl
@[simp] theorem State.mHrt_bus (s : State) (f : HearthSt → HearthSt) : (s.mHrt f).bus = s.bus := rfl
@[simp] theorem State.mHrt_caps (s : State) (f : HearthSt → HearthSt) : (s.mHrt f).caps = s.caps := rfl
@[simp] theorem State.mHrt_free (s : State) (f : HearthSt → HearthSt) : (s.mHrt f).free = s.free := rfl
@[simp] theorem State.mHrt_cs (s : State) (f : HearthSt → HearthSt) : (s.mHrt f).cs = s.cs := rfl
@[simp] theorem State.mHrt_viol (s : State) (f : HearthSt → HearthSt) : (s.mHrt f).viol = s.viol := rfl
@[simp] theorem State.mHrt_coreA (s : State) (f : HearthSt → HearthSt) : (s.mHrt f).coreA = s.coreA := rfl
@[simp] theorem State.mHrt_coreB (s : State) (f : HearthSt → HearthSt) : (s.mHrt f).coreB = s.coreB := rfl
@[simp] theorem State.mHrt_int (s : State) (f : HearthSt → HearthSt) : (s.mHrt f).int = s.int := rfl
@[simp] theorem State.mHrt_dma (s : State) (f : HearthSt → HearthSt) : (s.mHrt f).dma = s.dma := rfl
@[simp] theorem State.mHrt_rtc (s : State) (f : HearthSt → HearthSt) : (s.mHrt f).rtc = s.rtc := rfl
@[simp] theorem State.mHrt_flue (s : State) (f : HearthSt → HearthSt) : (s.mHrt f).flue = s.flue := rfl
@[simp] theorem State.mHrt_ash (s : State) (f : HearthSt → HearthSt) : (s.mHrt f).ash = s.ash := rfl
@[simp] theorem State.mHrt_pwr (s : State) (f : HearthSt → HearthSt) : (s.mHrt f).pwr = s.pwr := rfl
@[simp] theorem State.mHrt_rst (s : State) (f : HearthSt → HearthSt) : (s.mHrt f).rst = s.rst := rfl
@[simp] theorem State.mHrt_info (s : State) (f : HearthSt → HearthSt) : (s.mHrt f).info = s.info := rfl
@[simp] theorem State.mHrt_flc (s : State) (f : HearthSt → HearthSt) : (s.mHrt f).flc = s.flc := rfl
@[simp] theorem State.mHrt_vlt (s : State) (f : HearthSt → HearthSt) : (s.mHrt f).vlt = s.vlt := rfl
@[simp] theorem State.mHrt_fuse (s : State) (f : HearthSt → HearthSt) : (s.mHrt f).fuse = s.fuse := rfl
@[simp] theorem State.mHrt_rsv (s : State) (f : HearthSt → HearthSt) : (s.mHrt f).rsv = s.rsv := rfl
@[simp] theorem State.mHrt_hrt (s : State) (f : HearthSt → HearthSt) : (s.mHrt f).hrt = f s.hrt := rfl
@[simp] theorem State.mHrt_hst (s : State) (f : HearthSt → HearthSt) : (s.mHrt f).hst = s.hst := rfl
@[simp] theorem State.mHrt_svc (s : State) (f : HearthSt → HearthSt) : (s.mHrt f).svc = s.svc := rfl
@[simp] theorem State.mHrt_pil (s : State) (f : HearthSt → HearthSt) : (s.mHrt f).pil = s.pil := rfl
@[simp] theorem State.mHrt_per (s : State) (f : HearthSt → HearthSt) : (s.mHrt f).per = s.per := rfl
@[simp] theorem State.mHrt_upd (s : State) (f : HearthSt → HearthSt) : (s.mHrt f).upd = s.upd := rfl
@[simp] theorem State.mHrt_sup (s : State) (f : HearthSt → HearthSt) : (s.mHrt f).sup = s.sup := rfl
@[simp] theorem State.mHrt_pending (s : State) (f : HearthSt → HearthSt) : (s.mHrt f).pending = s.pending := rfl
@[simp] theorem State.mHst_part (s : State) (f : HstSt → HstSt) : (s.mHst f).part = s.part := rfl
@[simp] theorem State.mHst_regs (s : State) (f : HstSt → HstSt) : (s.mHst f).regs = s.regs := rfl
@[simp] theorem State.mHst_mem (s : State) (f : HstSt → HstSt) : (s.mHst f).mem = s.mem := rfl
@[simp] theorem State.mHst_eccBad (s : State) (f : HstSt → HstSt) : (s.mHst f).eccBad = s.eccBad := rfl
@[simp] theorem State.mHst_bus (s : State) (f : HstSt → HstSt) : (s.mHst f).bus = s.bus := rfl
@[simp] theorem State.mHst_caps (s : State) (f : HstSt → HstSt) : (s.mHst f).caps = s.caps := rfl
@[simp] theorem State.mHst_free (s : State) (f : HstSt → HstSt) : (s.mHst f).free = s.free := rfl
@[simp] theorem State.mHst_cs (s : State) (f : HstSt → HstSt) : (s.mHst f).cs = s.cs := rfl
@[simp] theorem State.mHst_viol (s : State) (f : HstSt → HstSt) : (s.mHst f).viol = s.viol := rfl
@[simp] theorem State.mHst_coreA (s : State) (f : HstSt → HstSt) : (s.mHst f).coreA = s.coreA := rfl
@[simp] theorem State.mHst_coreB (s : State) (f : HstSt → HstSt) : (s.mHst f).coreB = s.coreB := rfl
@[simp] theorem State.mHst_int (s : State) (f : HstSt → HstSt) : (s.mHst f).int = s.int := rfl
@[simp] theorem State.mHst_dma (s : State) (f : HstSt → HstSt) : (s.mHst f).dma = s.dma := rfl
@[simp] theorem State.mHst_rtc (s : State) (f : HstSt → HstSt) : (s.mHst f).rtc = s.rtc := rfl
@[simp] theorem State.mHst_flue (s : State) (f : HstSt → HstSt) : (s.mHst f).flue = s.flue := rfl
@[simp] theorem State.mHst_ash (s : State) (f : HstSt → HstSt) : (s.mHst f).ash = s.ash := rfl
@[simp] theorem State.mHst_pwr (s : State) (f : HstSt → HstSt) : (s.mHst f).pwr = s.pwr := rfl
@[simp] theorem State.mHst_rst (s : State) (f : HstSt → HstSt) : (s.mHst f).rst = s.rst := rfl
@[simp] theorem State.mHst_info (s : State) (f : HstSt → HstSt) : (s.mHst f).info = s.info := rfl
@[simp] theorem State.mHst_flc (s : State) (f : HstSt → HstSt) : (s.mHst f).flc = s.flc := rfl
@[simp] theorem State.mHst_vlt (s : State) (f : HstSt → HstSt) : (s.mHst f).vlt = s.vlt := rfl
@[simp] theorem State.mHst_fuse (s : State) (f : HstSt → HstSt) : (s.mHst f).fuse = s.fuse := rfl
@[simp] theorem State.mHst_rsv (s : State) (f : HstSt → HstSt) : (s.mHst f).rsv = s.rsv := rfl
@[simp] theorem State.mHst_hrt (s : State) (f : HstSt → HstSt) : (s.mHst f).hrt = s.hrt := rfl
@[simp] theorem State.mHst_hst (s : State) (f : HstSt → HstSt) : (s.mHst f).hst = f s.hst := rfl
@[simp] theorem State.mHst_svc (s : State) (f : HstSt → HstSt) : (s.mHst f).svc = s.svc := rfl
@[simp] theorem State.mHst_pil (s : State) (f : HstSt → HstSt) : (s.mHst f).pil = s.pil := rfl
@[simp] theorem State.mHst_per (s : State) (f : HstSt → HstSt) : (s.mHst f).per = s.per := rfl
@[simp] theorem State.mHst_upd (s : State) (f : HstSt → HstSt) : (s.mHst f).upd = s.upd := rfl
@[simp] theorem State.mHst_sup (s : State) (f : HstSt → HstSt) : (s.mHst f).sup = s.sup := rfl
@[simp] theorem State.mHst_pending (s : State) (f : HstSt → HstSt) : (s.mHst f).pending = s.pending := rfl
@[simp] theorem State.mSvc_part (s : State) (f : SvcSt → SvcSt) : (s.mSvc f).part = s.part := rfl
@[simp] theorem State.mSvc_regs (s : State) (f : SvcSt → SvcSt) : (s.mSvc f).regs = s.regs := rfl
@[simp] theorem State.mSvc_mem (s : State) (f : SvcSt → SvcSt) : (s.mSvc f).mem = s.mem := rfl
@[simp] theorem State.mSvc_eccBad (s : State) (f : SvcSt → SvcSt) : (s.mSvc f).eccBad = s.eccBad := rfl
@[simp] theorem State.mSvc_bus (s : State) (f : SvcSt → SvcSt) : (s.mSvc f).bus = s.bus := rfl
@[simp] theorem State.mSvc_caps (s : State) (f : SvcSt → SvcSt) : (s.mSvc f).caps = s.caps := rfl
@[simp] theorem State.mSvc_free (s : State) (f : SvcSt → SvcSt) : (s.mSvc f).free = s.free := rfl
@[simp] theorem State.mSvc_cs (s : State) (f : SvcSt → SvcSt) : (s.mSvc f).cs = s.cs := rfl
@[simp] theorem State.mSvc_viol (s : State) (f : SvcSt → SvcSt) : (s.mSvc f).viol = s.viol := rfl
@[simp] theorem State.mSvc_coreA (s : State) (f : SvcSt → SvcSt) : (s.mSvc f).coreA = s.coreA := rfl
@[simp] theorem State.mSvc_coreB (s : State) (f : SvcSt → SvcSt) : (s.mSvc f).coreB = s.coreB := rfl
@[simp] theorem State.mSvc_int (s : State) (f : SvcSt → SvcSt) : (s.mSvc f).int = s.int := rfl
@[simp] theorem State.mSvc_dma (s : State) (f : SvcSt → SvcSt) : (s.mSvc f).dma = s.dma := rfl
@[simp] theorem State.mSvc_rtc (s : State) (f : SvcSt → SvcSt) : (s.mSvc f).rtc = s.rtc := rfl
@[simp] theorem State.mSvc_flue (s : State) (f : SvcSt → SvcSt) : (s.mSvc f).flue = s.flue := rfl
@[simp] theorem State.mSvc_ash (s : State) (f : SvcSt → SvcSt) : (s.mSvc f).ash = s.ash := rfl
@[simp] theorem State.mSvc_pwr (s : State) (f : SvcSt → SvcSt) : (s.mSvc f).pwr = s.pwr := rfl
@[simp] theorem State.mSvc_rst (s : State) (f : SvcSt → SvcSt) : (s.mSvc f).rst = s.rst := rfl
@[simp] theorem State.mSvc_info (s : State) (f : SvcSt → SvcSt) : (s.mSvc f).info = s.info := rfl
@[simp] theorem State.mSvc_flc (s : State) (f : SvcSt → SvcSt) : (s.mSvc f).flc = s.flc := rfl
@[simp] theorem State.mSvc_vlt (s : State) (f : SvcSt → SvcSt) : (s.mSvc f).vlt = s.vlt := rfl
@[simp] theorem State.mSvc_fuse (s : State) (f : SvcSt → SvcSt) : (s.mSvc f).fuse = s.fuse := rfl
@[simp] theorem State.mSvc_rsv (s : State) (f : SvcSt → SvcSt) : (s.mSvc f).rsv = s.rsv := rfl
@[simp] theorem State.mSvc_hrt (s : State) (f : SvcSt → SvcSt) : (s.mSvc f).hrt = s.hrt := rfl
@[simp] theorem State.mSvc_hst (s : State) (f : SvcSt → SvcSt) : (s.mSvc f).hst = s.hst := rfl
@[simp] theorem State.mSvc_svc (s : State) (f : SvcSt → SvcSt) : (s.mSvc f).svc = f s.svc := rfl
@[simp] theorem State.mSvc_pil (s : State) (f : SvcSt → SvcSt) : (s.mSvc f).pil = s.pil := rfl
@[simp] theorem State.mSvc_per (s : State) (f : SvcSt → SvcSt) : (s.mSvc f).per = s.per := rfl
@[simp] theorem State.mSvc_upd (s : State) (f : SvcSt → SvcSt) : (s.mSvc f).upd = s.upd := rfl
@[simp] theorem State.mSvc_sup (s : State) (f : SvcSt → SvcSt) : (s.mSvc f).sup = s.sup := rfl
@[simp] theorem State.mSvc_pending (s : State) (f : SvcSt → SvcSt) : (s.mSvc f).pending = s.pending := rfl
@[simp] theorem State.mPil_part (s : State) (f : PilotSt → PilotSt) : (s.mPil f).part = s.part := rfl
@[simp] theorem State.mPil_regs (s : State) (f : PilotSt → PilotSt) : (s.mPil f).regs = s.regs := rfl
@[simp] theorem State.mPil_mem (s : State) (f : PilotSt → PilotSt) : (s.mPil f).mem = s.mem := rfl
@[simp] theorem State.mPil_eccBad (s : State) (f : PilotSt → PilotSt) : (s.mPil f).eccBad = s.eccBad := rfl
@[simp] theorem State.mPil_bus (s : State) (f : PilotSt → PilotSt) : (s.mPil f).bus = s.bus := rfl
@[simp] theorem State.mPil_caps (s : State) (f : PilotSt → PilotSt) : (s.mPil f).caps = s.caps := rfl
@[simp] theorem State.mPil_free (s : State) (f : PilotSt → PilotSt) : (s.mPil f).free = s.free := rfl
@[simp] theorem State.mPil_cs (s : State) (f : PilotSt → PilotSt) : (s.mPil f).cs = s.cs := rfl
@[simp] theorem State.mPil_viol (s : State) (f : PilotSt → PilotSt) : (s.mPil f).viol = s.viol := rfl
@[simp] theorem State.mPil_coreA (s : State) (f : PilotSt → PilotSt) : (s.mPil f).coreA = s.coreA := rfl
@[simp] theorem State.mPil_coreB (s : State) (f : PilotSt → PilotSt) : (s.mPil f).coreB = s.coreB := rfl
@[simp] theorem State.mPil_int (s : State) (f : PilotSt → PilotSt) : (s.mPil f).int = s.int := rfl
@[simp] theorem State.mPil_dma (s : State) (f : PilotSt → PilotSt) : (s.mPil f).dma = s.dma := rfl
@[simp] theorem State.mPil_rtc (s : State) (f : PilotSt → PilotSt) : (s.mPil f).rtc = s.rtc := rfl
@[simp] theorem State.mPil_flue (s : State) (f : PilotSt → PilotSt) : (s.mPil f).flue = s.flue := rfl
@[simp] theorem State.mPil_ash (s : State) (f : PilotSt → PilotSt) : (s.mPil f).ash = s.ash := rfl
@[simp] theorem State.mPil_pwr (s : State) (f : PilotSt → PilotSt) : (s.mPil f).pwr = s.pwr := rfl
@[simp] theorem State.mPil_rst (s : State) (f : PilotSt → PilotSt) : (s.mPil f).rst = s.rst := rfl
@[simp] theorem State.mPil_info (s : State) (f : PilotSt → PilotSt) : (s.mPil f).info = s.info := rfl
@[simp] theorem State.mPil_flc (s : State) (f : PilotSt → PilotSt) : (s.mPil f).flc = s.flc := rfl
@[simp] theorem State.mPil_vlt (s : State) (f : PilotSt → PilotSt) : (s.mPil f).vlt = s.vlt := rfl
@[simp] theorem State.mPil_fuse (s : State) (f : PilotSt → PilotSt) : (s.mPil f).fuse = s.fuse := rfl
@[simp] theorem State.mPil_rsv (s : State) (f : PilotSt → PilotSt) : (s.mPil f).rsv = s.rsv := rfl
@[simp] theorem State.mPil_hrt (s : State) (f : PilotSt → PilotSt) : (s.mPil f).hrt = s.hrt := rfl
@[simp] theorem State.mPil_hst (s : State) (f : PilotSt → PilotSt) : (s.mPil f).hst = s.hst := rfl
@[simp] theorem State.mPil_svc (s : State) (f : PilotSt → PilotSt) : (s.mPil f).svc = s.svc := rfl
@[simp] theorem State.mPil_pil (s : State) (f : PilotSt → PilotSt) : (s.mPil f).pil = f s.pil := rfl
@[simp] theorem State.mPil_per (s : State) (f : PilotSt → PilotSt) : (s.mPil f).per = s.per := rfl
@[simp] theorem State.mPil_upd (s : State) (f : PilotSt → PilotSt) : (s.mPil f).upd = s.upd := rfl
@[simp] theorem State.mPil_sup (s : State) (f : PilotSt → PilotSt) : (s.mPil f).sup = s.sup := rfl
@[simp] theorem State.mPil_pending (s : State) (f : PilotSt → PilotSt) : (s.mPil f).pending = s.pending := rfl
@[simp] theorem State.mPer_part (s : State) (f : PerSt → PerSt) : (s.mPer f).part = s.part := rfl
@[simp] theorem State.mPer_regs (s : State) (f : PerSt → PerSt) : (s.mPer f).regs = s.regs := rfl
@[simp] theorem State.mPer_mem (s : State) (f : PerSt → PerSt) : (s.mPer f).mem = s.mem := rfl
@[simp] theorem State.mPer_eccBad (s : State) (f : PerSt → PerSt) : (s.mPer f).eccBad = s.eccBad := rfl
@[simp] theorem State.mPer_bus (s : State) (f : PerSt → PerSt) : (s.mPer f).bus = s.bus := rfl
@[simp] theorem State.mPer_caps (s : State) (f : PerSt → PerSt) : (s.mPer f).caps = s.caps := rfl
@[simp] theorem State.mPer_free (s : State) (f : PerSt → PerSt) : (s.mPer f).free = s.free := rfl
@[simp] theorem State.mPer_cs (s : State) (f : PerSt → PerSt) : (s.mPer f).cs = s.cs := rfl
@[simp] theorem State.mPer_viol (s : State) (f : PerSt → PerSt) : (s.mPer f).viol = s.viol := rfl
@[simp] theorem State.mPer_coreA (s : State) (f : PerSt → PerSt) : (s.mPer f).coreA = s.coreA := rfl
@[simp] theorem State.mPer_coreB (s : State) (f : PerSt → PerSt) : (s.mPer f).coreB = s.coreB := rfl
@[simp] theorem State.mPer_int (s : State) (f : PerSt → PerSt) : (s.mPer f).int = s.int := rfl
@[simp] theorem State.mPer_dma (s : State) (f : PerSt → PerSt) : (s.mPer f).dma = s.dma := rfl
@[simp] theorem State.mPer_rtc (s : State) (f : PerSt → PerSt) : (s.mPer f).rtc = s.rtc := rfl
@[simp] theorem State.mPer_flue (s : State) (f : PerSt → PerSt) : (s.mPer f).flue = s.flue := rfl
@[simp] theorem State.mPer_ash (s : State) (f : PerSt → PerSt) : (s.mPer f).ash = s.ash := rfl
@[simp] theorem State.mPer_pwr (s : State) (f : PerSt → PerSt) : (s.mPer f).pwr = s.pwr := rfl
@[simp] theorem State.mPer_rst (s : State) (f : PerSt → PerSt) : (s.mPer f).rst = s.rst := rfl
@[simp] theorem State.mPer_info (s : State) (f : PerSt → PerSt) : (s.mPer f).info = s.info := rfl
@[simp] theorem State.mPer_flc (s : State) (f : PerSt → PerSt) : (s.mPer f).flc = s.flc := rfl
@[simp] theorem State.mPer_vlt (s : State) (f : PerSt → PerSt) : (s.mPer f).vlt = s.vlt := rfl
@[simp] theorem State.mPer_fuse (s : State) (f : PerSt → PerSt) : (s.mPer f).fuse = s.fuse := rfl
@[simp] theorem State.mPer_rsv (s : State) (f : PerSt → PerSt) : (s.mPer f).rsv = s.rsv := rfl
@[simp] theorem State.mPer_hrt (s : State) (f : PerSt → PerSt) : (s.mPer f).hrt = s.hrt := rfl
@[simp] theorem State.mPer_hst (s : State) (f : PerSt → PerSt) : (s.mPer f).hst = s.hst := rfl
@[simp] theorem State.mPer_svc (s : State) (f : PerSt → PerSt) : (s.mPer f).svc = s.svc := rfl
@[simp] theorem State.mPer_pil (s : State) (f : PerSt → PerSt) : (s.mPer f).pil = s.pil := rfl
@[simp] theorem State.mPer_per (s : State) (f : PerSt → PerSt) : (s.mPer f).per = f s.per := rfl
@[simp] theorem State.mPer_upd (s : State) (f : PerSt → PerSt) : (s.mPer f).upd = s.upd := rfl
@[simp] theorem State.mPer_sup (s : State) (f : PerSt → PerSt) : (s.mPer f).sup = s.sup := rfl
@[simp] theorem State.mPer_pending (s : State) (f : PerSt → PerSt) : (s.mPer f).pending = s.pending := rfl
@[simp] theorem State.mUpd_part (s : State) (f : UpdSt → UpdSt) : (s.mUpd f).part = s.part := rfl
@[simp] theorem State.mUpd_regs (s : State) (f : UpdSt → UpdSt) : (s.mUpd f).regs = s.regs := rfl
@[simp] theorem State.mUpd_mem (s : State) (f : UpdSt → UpdSt) : (s.mUpd f).mem = s.mem := rfl
@[simp] theorem State.mUpd_eccBad (s : State) (f : UpdSt → UpdSt) : (s.mUpd f).eccBad = s.eccBad := rfl
@[simp] theorem State.mUpd_bus (s : State) (f : UpdSt → UpdSt) : (s.mUpd f).bus = s.bus := rfl
@[simp] theorem State.mUpd_caps (s : State) (f : UpdSt → UpdSt) : (s.mUpd f).caps = s.caps := rfl
@[simp] theorem State.mUpd_free (s : State) (f : UpdSt → UpdSt) : (s.mUpd f).free = s.free := rfl
@[simp] theorem State.mUpd_cs (s : State) (f : UpdSt → UpdSt) : (s.mUpd f).cs = s.cs := rfl
@[simp] theorem State.mUpd_viol (s : State) (f : UpdSt → UpdSt) : (s.mUpd f).viol = s.viol := rfl
@[simp] theorem State.mUpd_coreA (s : State) (f : UpdSt → UpdSt) : (s.mUpd f).coreA = s.coreA := rfl
@[simp] theorem State.mUpd_coreB (s : State) (f : UpdSt → UpdSt) : (s.mUpd f).coreB = s.coreB := rfl
@[simp] theorem State.mUpd_int (s : State) (f : UpdSt → UpdSt) : (s.mUpd f).int = s.int := rfl
@[simp] theorem State.mUpd_dma (s : State) (f : UpdSt → UpdSt) : (s.mUpd f).dma = s.dma := rfl
@[simp] theorem State.mUpd_rtc (s : State) (f : UpdSt → UpdSt) : (s.mUpd f).rtc = s.rtc := rfl
@[simp] theorem State.mUpd_flue (s : State) (f : UpdSt → UpdSt) : (s.mUpd f).flue = s.flue := rfl
@[simp] theorem State.mUpd_ash (s : State) (f : UpdSt → UpdSt) : (s.mUpd f).ash = s.ash := rfl
@[simp] theorem State.mUpd_pwr (s : State) (f : UpdSt → UpdSt) : (s.mUpd f).pwr = s.pwr := rfl
@[simp] theorem State.mUpd_rst (s : State) (f : UpdSt → UpdSt) : (s.mUpd f).rst = s.rst := rfl
@[simp] theorem State.mUpd_info (s : State) (f : UpdSt → UpdSt) : (s.mUpd f).info = s.info := rfl
@[simp] theorem State.mUpd_flc (s : State) (f : UpdSt → UpdSt) : (s.mUpd f).flc = s.flc := rfl
@[simp] theorem State.mUpd_vlt (s : State) (f : UpdSt → UpdSt) : (s.mUpd f).vlt = s.vlt := rfl
@[simp] theorem State.mUpd_fuse (s : State) (f : UpdSt → UpdSt) : (s.mUpd f).fuse = s.fuse := rfl
@[simp] theorem State.mUpd_rsv (s : State) (f : UpdSt → UpdSt) : (s.mUpd f).rsv = s.rsv := rfl
@[simp] theorem State.mUpd_hrt (s : State) (f : UpdSt → UpdSt) : (s.mUpd f).hrt = s.hrt := rfl
@[simp] theorem State.mUpd_hst (s : State) (f : UpdSt → UpdSt) : (s.mUpd f).hst = s.hst := rfl
@[simp] theorem State.mUpd_svc (s : State) (f : UpdSt → UpdSt) : (s.mUpd f).svc = s.svc := rfl
@[simp] theorem State.mUpd_pil (s : State) (f : UpdSt → UpdSt) : (s.mUpd f).pil = s.pil := rfl
@[simp] theorem State.mUpd_per (s : State) (f : UpdSt → UpdSt) : (s.mUpd f).per = s.per := rfl
@[simp] theorem State.mUpd_upd (s : State) (f : UpdSt → UpdSt) : (s.mUpd f).upd = f s.upd := rfl
@[simp] theorem State.mUpd_sup (s : State) (f : UpdSt → UpdSt) : (s.mUpd f).sup = s.sup := rfl
@[simp] theorem State.mUpd_pending (s : State) (f : UpdSt → UpdSt) : (s.mUpd f).pending = s.pending := rfl
@[simp] theorem State.mSup_part (s : State) (f : SupSt → SupSt) : (s.mSup f).part = s.part := rfl
@[simp] theorem State.mSup_regs (s : State) (f : SupSt → SupSt) : (s.mSup f).regs = s.regs := rfl
@[simp] theorem State.mSup_mem (s : State) (f : SupSt → SupSt) : (s.mSup f).mem = s.mem := rfl
@[simp] theorem State.mSup_eccBad (s : State) (f : SupSt → SupSt) : (s.mSup f).eccBad = s.eccBad := rfl
@[simp] theorem State.mSup_bus (s : State) (f : SupSt → SupSt) : (s.mSup f).bus = s.bus := rfl
@[simp] theorem State.mSup_caps (s : State) (f : SupSt → SupSt) : (s.mSup f).caps = s.caps := rfl
@[simp] theorem State.mSup_free (s : State) (f : SupSt → SupSt) : (s.mSup f).free = s.free := rfl
@[simp] theorem State.mSup_cs (s : State) (f : SupSt → SupSt) : (s.mSup f).cs = s.cs := rfl
@[simp] theorem State.mSup_viol (s : State) (f : SupSt → SupSt) : (s.mSup f).viol = s.viol := rfl
@[simp] theorem State.mSup_coreA (s : State) (f : SupSt → SupSt) : (s.mSup f).coreA = s.coreA := rfl
@[simp] theorem State.mSup_coreB (s : State) (f : SupSt → SupSt) : (s.mSup f).coreB = s.coreB := rfl
@[simp] theorem State.mSup_int (s : State) (f : SupSt → SupSt) : (s.mSup f).int = s.int := rfl
@[simp] theorem State.mSup_dma (s : State) (f : SupSt → SupSt) : (s.mSup f).dma = s.dma := rfl
@[simp] theorem State.mSup_rtc (s : State) (f : SupSt → SupSt) : (s.mSup f).rtc = s.rtc := rfl
@[simp] theorem State.mSup_flue (s : State) (f : SupSt → SupSt) : (s.mSup f).flue = s.flue := rfl
@[simp] theorem State.mSup_ash (s : State) (f : SupSt → SupSt) : (s.mSup f).ash = s.ash := rfl
@[simp] theorem State.mSup_pwr (s : State) (f : SupSt → SupSt) : (s.mSup f).pwr = s.pwr := rfl
@[simp] theorem State.mSup_rst (s : State) (f : SupSt → SupSt) : (s.mSup f).rst = s.rst := rfl
@[simp] theorem State.mSup_info (s : State) (f : SupSt → SupSt) : (s.mSup f).info = s.info := rfl
@[simp] theorem State.mSup_flc (s : State) (f : SupSt → SupSt) : (s.mSup f).flc = s.flc := rfl
@[simp] theorem State.mSup_vlt (s : State) (f : SupSt → SupSt) : (s.mSup f).vlt = s.vlt := rfl
@[simp] theorem State.mSup_fuse (s : State) (f : SupSt → SupSt) : (s.mSup f).fuse = s.fuse := rfl
@[simp] theorem State.mSup_rsv (s : State) (f : SupSt → SupSt) : (s.mSup f).rsv = s.rsv := rfl
@[simp] theorem State.mSup_hrt (s : State) (f : SupSt → SupSt) : (s.mSup f).hrt = s.hrt := rfl
@[simp] theorem State.mSup_hst (s : State) (f : SupSt → SupSt) : (s.mSup f).hst = s.hst := rfl
@[simp] theorem State.mSup_svc (s : State) (f : SupSt → SupSt) : (s.mSup f).svc = s.svc := rfl
@[simp] theorem State.mSup_pil (s : State) (f : SupSt → SupSt) : (s.mSup f).pil = s.pil := rfl
@[simp] theorem State.mSup_per (s : State) (f : SupSt → SupSt) : (s.mSup f).per = s.per := rfl
@[simp] theorem State.mSup_upd (s : State) (f : SupSt → SupSt) : (s.mSup f).upd = s.upd := rfl
@[simp] theorem State.mSup_sup (s : State) (f : SupSt → SupSt) : (s.mSup f).sup = f s.sup := rfl
@[simp] theorem State.mSup_pending (s : State) (f : SupSt → SupSt) : (s.mSup f).pending = s.pending := rfl
@[simp] theorem State.mPending_part (s : State) (f : (List Instr) → List Instr) : (s.mPending f).part = s.part := rfl
@[simp] theorem State.mPending_regs (s : State) (f : (List Instr) → List Instr) : (s.mPending f).regs = s.regs := rfl
@[simp] theorem State.mPending_mem (s : State) (f : (List Instr) → List Instr) : (s.mPending f).mem = s.mem := rfl
@[simp] theorem State.mPending_eccBad (s : State) (f : (List Instr) → List Instr) : (s.mPending f).eccBad = s.eccBad := rfl
@[simp] theorem State.mPending_bus (s : State) (f : (List Instr) → List Instr) : (s.mPending f).bus = s.bus := rfl
@[simp] theorem State.mPending_caps (s : State) (f : (List Instr) → List Instr) : (s.mPending f).caps = s.caps := rfl
@[simp] theorem State.mPending_free (s : State) (f : (List Instr) → List Instr) : (s.mPending f).free = s.free := rfl
@[simp] theorem State.mPending_cs (s : State) (f : (List Instr) → List Instr) : (s.mPending f).cs = s.cs := rfl
@[simp] theorem State.mPending_viol (s : State) (f : (List Instr) → List Instr) : (s.mPending f).viol = s.viol := rfl
@[simp] theorem State.mPending_coreA (s : State) (f : (List Instr) → List Instr) : (s.mPending f).coreA = s.coreA := rfl
@[simp] theorem State.mPending_coreB (s : State) (f : (List Instr) → List Instr) : (s.mPending f).coreB = s.coreB := rfl
@[simp] theorem State.mPending_int (s : State) (f : (List Instr) → List Instr) : (s.mPending f).int = s.int := rfl
@[simp] theorem State.mPending_dma (s : State) (f : (List Instr) → List Instr) : (s.mPending f).dma = s.dma := rfl
@[simp] theorem State.mPending_rtc (s : State) (f : (List Instr) → List Instr) : (s.mPending f).rtc = s.rtc := rfl
@[simp] theorem State.mPending_flue (s : State) (f : (List Instr) → List Instr) : (s.mPending f).flue = s.flue := rfl
@[simp] theorem State.mPending_ash (s : State) (f : (List Instr) → List Instr) : (s.mPending f).ash = s.ash := rfl
@[simp] theorem State.mPending_pwr (s : State) (f : (List Instr) → List Instr) : (s.mPending f).pwr = s.pwr := rfl
@[simp] theorem State.mPending_rst (s : State) (f : (List Instr) → List Instr) : (s.mPending f).rst = s.rst := rfl
@[simp] theorem State.mPending_info (s : State) (f : (List Instr) → List Instr) : (s.mPending f).info = s.info := rfl
@[simp] theorem State.mPending_flc (s : State) (f : (List Instr) → List Instr) : (s.mPending f).flc = s.flc := rfl
@[simp] theorem State.mPending_vlt (s : State) (f : (List Instr) → List Instr) : (s.mPending f).vlt = s.vlt := rfl
@[simp] theorem State.mPending_fuse (s : State) (f : (List Instr) → List Instr) : (s.mPending f).fuse = s.fuse := rfl
@[simp] theorem State.mPending_rsv (s : State) (f : (List Instr) → List Instr) : (s.mPending f).rsv = s.rsv := rfl
@[simp] theorem State.mPending_hrt (s : State) (f : (List Instr) → List Instr) : (s.mPending f).hrt = s.hrt := rfl
@[simp] theorem State.mPending_hst (s : State) (f : (List Instr) → List Instr) : (s.mPending f).hst = s.hst := rfl
@[simp] theorem State.mPending_svc (s : State) (f : (List Instr) → List Instr) : (s.mPending f).svc = s.svc := rfl
@[simp] theorem State.mPending_pil (s : State) (f : (List Instr) → List Instr) : (s.mPending f).pil = s.pil := rfl
@[simp] theorem State.mPending_per (s : State) (f : (List Instr) → List Instr) : (s.mPending f).per = s.per := rfl
@[simp] theorem State.mPending_upd (s : State) (f : (List Instr) → List Instr) : (s.mPending f).upd = s.upd := rfl
@[simp] theorem State.mPending_sup (s : State) (f : (List Instr) → List Instr) : (s.mPending f).sup = s.sup := rfl
@[simp] theorem State.mPending_pending (s : State) (f : (List Instr) → List Instr) : (s.mPending f).pending = f s.pending := rfl

end Sys2Proof.Machine
end

