-- ==== Sys2Proof/Laws/Bus.lean ====
section
/-! SUPPORT. Register accesses: what a permitted access comes to, and what the parts of it leave alone. -/

namespace Sys2Proof.Machine

/-! ## The bus's answer changes nothing else -/

@[simp] theorem State.answer_regs (s : State) (v : Word) : (s.answer v).regs = s.regs := rfl
@[simp] theorem State.answer_mem (s : State) (v : Word) : (s.answer v).mem = s.mem := rfl
@[simp] theorem State.answer_rd (s : State) (v : Word) (a : Nat) : (s.answer v).rd a = s.rd a := rfl
@[simp] theorem State.answer_fg (s : State) (v : Word) (f : Fld) : (s.answer v).fg f = s.fg f := rfl
@[simp] theorem State.answer_fb (s : State) (v : Word) (f : Fld) : (s.answer v).fb f = s.fb f := rfl
@[simp] theorem State.answer_rb (s : State) (v : Word) (a : Nat) : (s.answer v).rb a = s.rb a := rfl
@[simp] theorem State.answer_owner (s : State) (v : Word) (w : Initiator) : (s.answer v).owner w = s.owner w := by cases w <;> rfl
@[simp] theorem State.answer_secure (s : State) (v : Word) (w : Initiator) : (s.answer v).secure w = s.secure w := by cases w <;> rfl

/-! ## A permitted access -/

/-- A permitted word write of a register that is no ownership register and that the part has. -/
theorem State.regTo_write {s : State} {who : Initiator} {a : Nat} {v : Word} (h : s.mayWrite who a) (h4 : a % 4 = 0) (ho : a % 0x1000 ≠ 0xFFC)
    (hb : a / 0x1000 ≠ 0x40060 ∨ s.hasB = true) : s.regTo who a (.write v) = (s.answer 0).regWrite who a v := by
  obtain ⟨hl, hs⟩ := h
  have e : ¬ (a / 0x1000 = 0x40060 ∧ s.hasB = false) := by rcases hb with hb | hb <;> simp [hb]
  have e2 : ¬ (a / 0x1000 = 0x40060 ∧ (s.answer 0).hasB = false) := e
  simp only [State.regTo, hl, if_true, State.regAccess, State.regPermitted, hs, Size.octets, h4, e2, ho]
  simp

/-- A permitted write of REGISTER_WRITE comes to the same. -/
theorem State.regAccess_write {s : State} {who : Initiator} {a : Nat} {v : Word} (hl : s.live who = true) :
    s.regAccess who a .word (.write v) = s.regTo who a (.write v) := by simp [State.regTo, hl]

/-- A permitted word read of a register that the part has. -/
theorem State.regTo_read {s : State} {who : Initiator} {a : Nat} (h : s.mayRead who a) (h4 : a % 4 = 0)
    (hb : a / 0x1000 ≠ 0x40060 ∨ s.hasB = true) :
    s.regTo who a .read = (s.regRead (s.capKey who) (s.owner who) (s.secure who) a).2.answer (s.regRead (s.capKey who) (s.owner who) (s.secure who) a).1 := by
  obtain ⟨hl, hs⟩ := h
  have e : ¬ (a / 0x1000 = 0x40060 ∧ s.hasB = false) := by rcases hb with hb | hb <;> simp [hb]
  simp only [State.regTo, hl, if_true, State.regAccess, State.regPermitted, hs, Size.octets, h4, e]
  simp

/-- A refused access is a forbidden access (R26). -/
theorem State.regTo_forbid {s : State} {who : Initiator} {a : Nat} {v : Word} {x : Nat} (hl : s.live who = true) (h4 : a % 4 = 0)
    (hs : s.regSyn (s.owner who) (s.secure who) a true = x) (hx : x ≠ 0) : s.regTo who a (.write v) = s.forbid who a true x := by
  simp only [State.regTo, hl, if_true, State.regAccess, State.regPermitted, hs, Size.octets, h4]
  simp [hx]

end Sys2Proof.Machine
end

