-- ==== Sys2Proof/Laws/Frames.lean ====
section
/-! SUPPORT. What the shared operations leave alone: `Only p s t` says that the registers that changed from `s` to `t` all satisfy `p`, and that
memory reads as it did. One lemma per operation, so that no frame proof unfolds it. -/

namespace Sys2Proof.Machine

/-- Only registers that `p` accepts changed, and memory reads as before. -/
def Only (p : Nat → Prop) (s t : State) : Prop := (∀ a, ¬ p a → t.rd a = s.rd a) ∧ s.sameMem t

variable {p q : Nat → Prop} {s t u : State}

theorem Only.refl (s : State) : Only p s s := ⟨fun _ _ => rfl, fun _ => rfl⟩

theorem Only.trans (h : Only p s t) (k : Only p t u) : Only p s u :=
  ⟨fun a ha => (k.1 a ha).trans (h.1 a ha), fun a => (k.2 a).trans (h.2 a)⟩

theorem Only.mono (h : Only p s t) (i : ∀ a, p a → q a) : Only q s t := ⟨fun a ha => h.1 a (fun hp => ha (i a hp)), h.2⟩

/-- A change of what no register and no octet holds. -/
theorem Only.of_regs (h : t.regs = s.regs) (k : s.sameMem t) : Only p s t := ⟨fun a _ => by unfold State.rd; rw [h], k⟩

theorem Only.ite {c : Prop} [Decidable c] (h : Only p s t) (k : Only p s u) : Only p s (if c then t else u) := by split <;> assumption

/-- A list of changes. -/
theorem Only.forEach {α : Type} (l : List α) (f : State → α → State) (h : ∀ s x, x ∈ l → Only p s (f s x)) : Only p s (s.forEach l f) := by
  unfold State.forEach
  induction l generalizing s with
  | nil => exact .refl s
  | cons x t ih => exact (h s x (by simp)).trans (ih (fun s y hy => h s y (by simp [hy])))

/-- From the list form of a frame. -/
theorem Only.sameRegs {l : List Nat} (h : Only (fun a => a ∈ l) s t) : s.sameRegs t l := h.1

/-! ## Registers -/

theorem Only.wr {a : Nat} (v : Word) (h : p a) : Only p s (s.wr a v) := ⟨fun _ hb => State.rd_wr_ne s v (by rintro rfl; exact hb h), fun _ => rfl⟩
theorem Only.fp {f : Fld} (v : Nat) (h : p f.addr) : Only p s (s.fp f v) := Only.wr _ h
theorem Only.fset {f : Fld} (h : p f.addr) : Only p s (s.fset f) := Only.fp 1 h
theorem Only.fclr {f : Fld} (h : p f.addr) : Only p s (s.fclr f) := Only.fp 0 h
theorem Only.fadd {f : Fld} (n : Nat) (h : p f.addr) : Only p s (s.fadd f n) := Only.fp _ h
theorem Only.fsat {f : Fld} (h : p f.addr) : Only p s (s.fsat f) := Only.fp _ h
theorem Only.rset {a : Nat} (n : Nat) (h : p a) : Only p s (s.rset a n) := Only.wr _ h
theorem Only.rclr {a : Nat} (n : Nat) (h : p a) : Only p s (s.rclr a n) := Only.wr _ h
theorem Only.rsat {a : Nat} (h : p a) : Only p s (s.rsat a) := Only.wr _ h
theorem Only.rinc {a : Nat} (h : p a) : Only p s (s.rinc a) := Only.wr _ h
theorem Only.regStore {a : Nat} (v : Word) (h : p a) : Only p s (s.regStore a v) :=
  ⟨fun _ hb => State.rd_regStore_ne s a v (by rintro rfl; exact hb h), fun _ => State.rb_regStore _ _ _ _⟩
theorem Only.answer (v : Word) : Only p s (s.answer v) := ⟨fun _ _ => rfl, fun _ => rfl⟩

/-! ## Parts of the state that no register and no octet shows as such -/

theorem Only.mPart (f : _ → _) : Only p s (s.mPart f) := ⟨fun _ _ => rfl, fun _ => rfl⟩
theorem Only.mEccBad (f : _ → _) : Only p s (s.mEccBad f) := ⟨fun _ _ => rfl, fun _ => rfl⟩
theorem Only.mBus (f : _ → _) : Only p s (s.mBus f) := ⟨fun _ _ => rfl, fun _ => rfl⟩
theorem Only.mCaps (f : _ → _) : Only p s (s.mCaps f) := ⟨fun _ _ => rfl, fun _ => rfl⟩
theorem Only.mFree (f : _ → _) : Only p s (s.mFree f) := ⟨fun _ _ => rfl, fun _ => rfl⟩
theorem Only.mCs (f : _ → _) : Only p s (s.mCs f) := ⟨fun _ _ => rfl, fun _ => rfl⟩
theorem Only.mViol (f : _ → _) : Only p s (s.mViol f) := ⟨fun _ _ => rfl, fun _ => rfl⟩
theorem Only.mCoreA (f : _ → _) : Only p s (s.mCoreA f) := ⟨fun _ _ => rfl, fun _ => rfl⟩
theorem Only.mCoreB (f : _ → _) : Only p s (s.mCoreB f) := ⟨fun _ _ => rfl, fun _ => rfl⟩
theorem Only.mInt (f : _ → _) : Only p s (s.mInt f) := ⟨fun _ _ => rfl, fun _ => rfl⟩
theorem Only.mDma (f : _ → _) : Only p s (s.mDma f) := ⟨fun _ _ => rfl, fun _ => rfl⟩
theorem Only.mRtc (f : _ → _) : Only p s (s.mRtc f) := ⟨fun _ _ => rfl, fun _ => rfl⟩
theorem Only.mFlue (f : _ → _) : Only p s (s.mFlue f) := ⟨fun _ _ => rfl, fun _ => rfl⟩
theorem Only.mAsh (f : _ → _) : Only p s (s.mAsh f) := ⟨fun _ _ => rfl, fun _ => rfl⟩
theorem Only.mPwr (f : _ → _) : Only p s (s.mPwr f) := ⟨fun _ _ => rfl, fun _ => rfl⟩
theorem Only.mRst (f : _ → _) : Only p s (s.mRst f) := ⟨fun _ _ => rfl, fun _ => rfl⟩
theorem Only.mInfo (f : _ → _) : Only p s (s.mInfo f) := ⟨fun _ _ => rfl, fun _ => rfl⟩
theorem Only.mVlt (f : _ → _) : Only p s (s.mVlt f) := ⟨fun _ _ => rfl, fun _ => rfl⟩
theorem Only.mFuse (f : _ → _) : Only p s (s.mFuse f) := ⟨fun _ _ => rfl, fun _ => rfl⟩
theorem Only.mRsv (f : _ → _) : Only p s (s.mRsv f) := ⟨fun _ _ => rfl, fun _ => rfl⟩
theorem Only.mHrt (f : _ → _) : Only p s (s.mHrt f) := ⟨fun _ _ => rfl, fun _ => rfl⟩
theorem Only.mHst (f : _ → _) : Only p s (s.mHst f) := ⟨fun _ _ => rfl, fun _ => rfl⟩
theorem Only.mSvc (f : _ → _) : Only p s (s.mSvc f) := ⟨fun _ _ => rfl, fun _ => rfl⟩
theorem Only.mPil (f : _ → _) : Only p s (s.mPil f) := ⟨fun _ _ => rfl, fun _ => rfl⟩
theorem Only.mPer (f : _ → _) : Only p s (s.mPer f) := ⟨fun _ _ => rfl, fun _ => rfl⟩
theorem Only.mUpd (f : _ → _) : Only p s (s.mUpd f) := ⟨fun _ _ => rfl, fun _ => rfl⟩
theorem Only.mSup (f : _ → _) : Only p s (s.mSup f) := ⟨fun _ _ => rfl, fun _ => rfl⟩
theorem Only.mPending (f : _ → _) : Only p s (s.mPending f) := ⟨fun _ _ => rfl, fun _ => rfl⟩

/-! ## The flue's input, free values, flash requests -/

theorem Only.emit (c h : Nat) : Only p s (s.emit c h) := ⟨fun _ _ => rfl, fun _ => rfl⟩
theorem Only.emitChained (c k : Nat) : Only p s (s.emitChained c k) := by unfold State.emitChained; split <;> exact Only.emit _ _
theorem Only.setHop (k : Nat) (h : Option Nat) : Only p s (s.setHop k h) := ⟨fun _ _ => rfl, fun _ => rfl⟩
theorem Only.draw : Only p s s.draw.2 := ⟨fun _ _ => rfl, fun _ => rfl⟩
theorem Only.flcEnqueue (r : Nat) (o : FlashOp) (x : Bool) (k : Nat) : Only p s (s.flcEnqueue r o x k) := ⟨fun _ _ => rfl, fun _ => rfl⟩
theorem Only.wakeEvent (n : Nat) : Only p s (s.wakeEvent n) := by unfold State.wakeEvent; dsimp only; split <;> exact ⟨fun _ _ => rfl, fun _ => rfl⟩

/-! ## Ash records touch the Ash page alone -/

/-- The registers of ASH. -/
def isAsh (a : Nat) : Prop := a / 0x1000 = 0x40009

theorem Only.ashTake (a b : Nat) (c : Bool) (d e f : Word) : Only p s (s.ashTake a b c d e f) := by
  unfold State.ashTake; exact .ite (.mAsh _) (.mAsh _)

theorem Only.ashLostNote : Only p s s.ashLostNote := by
  unfold State.ashLostNote
  exact .ite (.refl s) ((Only.ashTake _ _ _ _ _ _).trans (Only.mAsh _))

theorem Only.ashFlushEnd : Only isAsh s s.ashFlushEnd := by
  unfold State.ashFlushEnd
  exact ((((Only.mAsh _).trans (Only.fclr (f := F.ASH_STAT_FLUSHING) (by unfold isAsh; decide))).trans
    (Only.fset (f := F.ASH_EVT_FLUSHED) (by unfold isAsh; decide))).trans (Only.emitChained _ _)).trans (Only.setHop _ _)

theorem Only.ashPump : Only isAsh s s.ashPump := by
  unfold State.ashPump
  split
  · exact .refl s
  · refine .ite (.refl s) (.ite .ashFlushEnd (.ite (.refl s) (.ite (.refl s) ?_)))
    exact ((Only.fp (f := F.ASH_STAT_BLOCK) _ (by unfold isAsh; decide)).trans (Only.mAsh _)).trans (Only.flcEnqueue _ _ _ _)

theorem Only.ashFlushStart (x : Bool) (k : Option Nat) : Only isAsh s (s.ashFlushStart x k) := by
  unfold State.ashFlushStart
  exact .ite (.mAsh _) ((((Only.mAsh _).trans (Only.fset (f := F.ASH_STAT_FLUSHING) (by unfold isAsh; decide))).trans (Only.setHop _ _)).trans
    Only.ashPump)

theorem Only.ashArrive (a b : Nat) (c : Bool) (d e f : Word) : Only isAsh s (s.ashArrive a b c d e f) := by
  unfold State.ashArrive
  refine Only.trans (t := s.ashLostNote) .ashLostNote (.ite ?_ (Only.trans (t := s.ashLostNote.ashTake a b c d e f) (.ashTake _ _ _ _ _ _) (.ite (.ashFlushStart _ _) (.refl _))))
  exact ((Only.mAsh _).trans (Only.fsat (f := F.ASH_LOST_CNT_FULL) (by unfold isAsh; decide))).trans (Only.fset (f := F.ASH_EVT_LOST) (by unfold isAsh; decide))

theorem Only.ashEnter (w : AshWait) : Only isAsh s (s.ashEnter w) := by
  unfold State.ashEnter
  exact .ite (.ashArrive _ _ _ _ _ _) (.mAsh _)

theorem Only.ash3 (c : Nat) (d e f : Word) : Only isAsh s (s.ash3 c d e f) := .ashEnter _

/-! ## Faults -/

/-- A core's fault registers. -/
def isFaultReg (a : Nat) : Prop := a = R.INT_FAULT_A_ADDR ∨ a = R.INT_FAULT_A_SYN ∨ a = R.INT_FAULT_B_ADDR ∨ a = R.INT_FAULT_B_SYN

theorem Only.coreFault (c : CoreId) (a : Nat) (w : Bool) (x : Nat) : Only isFaultReg s (s.coreFault c a w x) := by
  unfold State.coreFault
  cases c
  · exact .ite (Only.fset (Or.inr (Or.inl rfl))) ((Only.wr _ (Or.inl rfl)).trans (Only.wr _ (Or.inr (Or.inl rfl))))
  · exact .ite (Only.fset (Or.inr (Or.inr (Or.inr rfl)))) ((Only.wr _ (Or.inr (Or.inr (Or.inl rfl)))).trans (Only.wr _ (Or.inr (Or.inr (Or.inr rfl)))))

theorem Only.busFault (who : Initiator) (a : Nat) (w : Bool) (x : Nat) : Only isFaultReg s (s.busFault who a w x) := by
  unfold State.busFault
  dsimp only
  refine Only.trans (t := s.mBus (fun _ => ⟨0, x⟩)) (Only.mBus _) ?_
  split
  · exact .coreFault _ _ _ _
  · exact .refl _

theorem Only.forbid (who : Initiator) (a : Nat) (w : Bool) (x : Nat) :
    Only (fun b => isFaultReg b ∨ b = R.INT_VIOL ∨ isAsh b) s (s.forbid who a w x) := by
  unfold State.forbid
  dsimp only
  refine ((Only.busFault who a w x).mono (fun _ h => Or.inl h)).trans ((Only.rset (a := R.INT_VIOL) (s.owner who) (Or.inr (Or.inl rfl))).trans ?_)
  refine .ite (.refl _) (Only.trans ?_ ((Only.ash3 _ _ _ _).mono (fun _ h => Or.inr (Or.inr h))))
  exact Only.mViol _

/-! ## Staged sets and command sets touch their own COMMIT or result register -/

theorem Only.stgEnd (x : SetId) (a b : Nat) (h : p x.commit) : Only p s (s.stgEnd x a b) := ((Only.fp _ h).trans (Only.fp _ h)).trans (Only.fp _ h)
theorem Only.stgArm (x : SetId) (r : Nat) (h : p x.commit) : Only p s (s.stgArm x r) := by
  unfold State.stgArm; exact .ite ((Only.fp _ h).trans (Only.fp _ h)) (.stgEnd x _ _ h)
theorem Only.stgCancel (x : SetId) (w : Nat) (h : p x.commit) : Only p s (s.stgCancel x w) := by
  unfold State.stgCancel; exact .ite (.refl s) (.ite (.stgEnd x _ _ h) (.fset h))
theorem Only.stgWrite (x : SetId) (w : Nat) (f : State → State) (h : p x.commit) (hf : ∀ s, Only p s (f s)) : Only p s (s.stgWrite x w f) := by
  unfold State.stgWrite; exact .ite ((Only.fp _ h).trans (hf _)) (.fset h)
theorem Only.stgDone (x : SetId) (h : p x.commit) (k : p x.casn) : Only p s (s.stgDone x) := by
  unfold State.stgDone; exact ((Only.stgEnd x _ _ h).trans (Only.fp _ h)).trans (Only.wr _ k)

theorem CsId.state_addr (c : CsId) : c.state.addr = c.res := by cases c <;> rfl

theorem Only.csTake (c : CsId) (w : Nat) (g : Bool) (h : p c.res) : Only p s (s.csTake c w g) :=
  (Only.fp (f := c.writer) w h).trans (Only.mCs _)
theorem Only.csWrite (c : CsId) (w : Nat) (g : Bool) (f : State → State) (h : p c.res) (hf : ∀ s, Only p s (f s)) : Only p s (s.csWrite c w g f) := by
  unfold State.csWrite; exact .ite ((Only.csTake c w g h).trans (hf _)) (Only.fset (f := c.werr) h)
theorem Only.csRun (c : CsId) (h : p c.res) : Only p s (s.csRun c) :=
  (Only.fp _ (by rw [CsId.state_addr]; exact h)).trans (Only.fp (f := c.code) _ h)
theorem Only.csEnd (c : CsId) (n : Nat) (h : p c.res) : Only p s (s.csEnd c n) :=
  (Only.fp _ (by rw [CsId.state_addr]; exact h)).trans (Only.fp (f := c.code) _ h)
theorem Only.csRelease (c : CsId) (w : Nat) (h : p c.res) : Only p s (s.csRelease c w) := by
  unfold State.csRelease; exact .ite ((Only.fp (f := c.writer) _ h).trans (Only.mCs _)) (.refl s)

end Sys2Proof.Machine
end

