-- ==== Sys2Proof/WellFormed.lean ====
section
/-! DEFINITION. Which terms of `Instr` are commands that can come: every operand lies in the range its place in the manual has. A meaning
never asks for it: it is what a claim may assume of a command, and what an input is checked against. -/

namespace Sys2Proof

/-- A number of at most `b` bits. -/
def fits (b n : Nat) : Bool := decide (n < 2 ^ b)

/-- One of the sixteen DMA channels, or any other initiator (Table 1-1). -/
def Initiator.wf : Initiator → Bool
  | .dma ch => decide (ch < 16)
  | _ => true

/-- One of the two verify contexts, or any other command set (R251). -/
def CsId.wf : CsId → Bool
  | .pk ctx => decide (ctx < 2)
  | _ => true

/-- A port payload (R406). -/
def payOk (pay : List Byte) : Bool := decide (pay.length ≤ 2176)

/-- The octets of a frame, its FCS left out (R69: at most 2,047). -/
def octetsOk (octets : List Byte) : Bool := decide (octets.length ≤ 2047)

/-- A level in dBm that a signed octet holds. -/
def levelOk (x : Int) : Bool := decide (-128 ≤ x) && decide (x ≤ 127)

/-- A frame's octets so far, with the µs to the next armed action. -/
def HeaderIn.wf (o : HeaderIn) : Bool := octetsOk o.octets && fits 32 o.gap

/-- Levels in dBm. -/
def levelsOk (l : List Int) : Bool := l.all levelOk

/-- A signal-to-noise ratio in 1/16 dB that a signed 16-bit field holds. -/
def snrOk (x : Int) : Bool := decide (-32768 ≤ x) && decide (x ≤ 32767)

/-- A temperature that a signed 16-bit field holds, in 1/16 °C. -/
def tempOk (x : Int) : Bool := decide (-32768 ≤ x) && decide (x ≤ 32767)

/-- Fuses blown before the supply fails, or a reset of Table 10-1 other than POR and WAKEFAIL comes (R259). -/
def cutOk : Option LcsCut → Bool
  | some (.power n) => decide (n ≤ 3)
  | some (.reset n c _) => decide (n ≤ 3) && (decide (2 ≤ c) && decide (c ≤ 14) && c != 8)
  | none => true

/-- An initiator that opens debug, or an access of a stepped core at a 32-bit address (R262, R263). -/
def DebugReq.wf : DebugReq → Bool
  | .openBy who => who.wf
  | .core (.step _ (some b)) => fits 32 b.addr
  | .core _ => true

/-- ADC results of 12 bits (R441). -/
def resultsOk (l : List Nat) : Bool := l.all (fits 12)

/-- The four counts and the two ticks of a flue delivery. -/
def FlueEnv.wf (e : FlueEnv) : Bool := fits 32 e.tickA && fits 32 e.tickB && (e.counts.length == 4 && e.counts.all (fits 32))

/-- SEQ, CODE and payload of a refused frame (Table 14-1); octets that the receive buffer can hold (R413). -/
def FrameFault.wf : FrameFault → Bool
  | .oversize seq code => fits 8 seq && fits 6 code
  | .badCode seq code pay => fits 8 seq && fits 6 code && payOk pay
  | .octets l => decide (l.length ≤ 4096)
  | _ => true

/-- The command can come. -/
def Instr.wf : Instr → Bool
  | .registerWrite who a _ _ => who.wf && fits 32 a
  | .memoryAccess who a _ _ _ => who.wf && fits 32 a
  | .ownershipWrite who a _ => who.wf && fits 32 a
  | .clearOnRead who a => who.wf && fits 32 a
  | .counterLowRead who a => who.wf && fits 32 a
  | .activeSetCaptureRead who a => who.wf && fits 32 a
  | .intClaim who _ => who.wf
  | .intDone who _ _ => who.wf
  | .intDoorbell who _ => who.wf
  | .intCfgWrite who _ _ => who.wf
  | .dmaClaim who _ _ => who.wf
  | .dmaStart who _ => who.wf
  | .dmaStop who _ => who.wf
  | .dmaAbort who _ => who.wf
  | .dmaBeat _ _ => true
  | .rtcAlarmLoWrite who _ => who.wf
  | .rtcAlarmHiWrite who _ => who.wf
  | .rtcAlarmMatch => true
  | .rtcEvSecond => true
  | .stagedWrite who _ k _ => who.wf && fits 4 k
  | .commitGo who _ _ => who.wf
  | .commitCancel who _ => who.wf
  | .stagedSetApply _ => true
  | .snapshotRequest who _ => who.wf
  | .snapshotReady => true
  | .snapshotRelease who => who.wf
  | .snapshotLeaseExpiry => true
  | .hearthStart => true
  | .sequencerVote _ => true
  | .slotBoundary _ _ gap => fits 32 gap
  | .slotArm _ _ _ => true
  | .lockstepMismatch => true
  | .lockstepRecovery _ us => fits 32 us
  | .hearthFatal => true
  | .queueProdWrite who _ _ => who.wf
  | .queueReclWrite who _ _ => who.wf
  | .queueFlush who _ => who.wf
  | .bufferAlloc who => who.wf
  | .bufferReturn who _ => who.wf
  | .descriptorWrite who _ _ _ _ => who.wf
  | .immediateTransmit _ ch mode => fits 8 ch && fits 4 mode
  | .immediateLockTimeout _ gap => fits 32 gap
  | .retuneStart _ => true
  | .synthLock _ => true
  | .ccaStart _ => true
  | .ccaComplete _ l gap => levelsOk l.pre && fits 32 gap
  | .txStart _ sfd gap _ => fits 32 sfd && fits 32 gap
  | .txLockTimeout _ gap => fits 32 gap
  | .txEnd _ gap => fits 32 gap
  | .txPowerCorrection _ _ => true
  | .ackWindowClose _ gap => fits 32 gap
  | .ackTransmit _ _ _ => true
  | .rxWindowOpen _ => true
  | .rxWindowClose _ gap => fits 32 gap
  | .preambleDetected _ _ phy level us => fits 8 phy && levelOk level && fits 32 us
  | .sfdDetected _ _ phy tick rssi snr => fits 8 phy && fits 32 tick && levelOk rssi && snrOk snr
  | .sfdTimeout _ _ => true
  | .muteExpiry _ _ => true
  | .phrReceived _ _ len code _ _ _ gap => fits 11 len && fits 8 code && fits 32 gap
  | .frameControlReceived _ _ o => o.wf
  | .destinationReceived _ _ o => o.wf
  | .sourceLookup _ _ o => o.wf
  | .auxHeaderReceived _ _ o => o.wf
  | .earlyDeliveryPost _ _ octets => octetsOk octets
  | .frameEnd _ _ octets _ gap => octetsOk octets && fits 32 gap
  | .modelAgeCheck => true
  | .dieSample temp => tempOk temp
  | .gatherListClose => true
  | .gatheredAckTransmit _ => true
  | .joinCollectExpiry _ => true
  | .joinWindowOpen _ => true
  | .joinWindowClose _ => true
  | .scheduleCellEdit who _ => who.wf
  | .scheduleSfEdit who _ => who.wf
  | .pendingFrameTransmit _ _ sfd gap _ => fits 32 sfd && fits 32 gap
  | .openPollRepoll _ => true
  | .vinDebounceExpiry => true
  | .ledgerSecond => true
  | .exclHoldExpiry _ ch => fits 8 ch
  | .exclusionVersionCreate _ => true
  | .nbrAdd who _ => who.wf
  | .nbrRemove who _ => who.wf
  | .nbrPin who _ => who.wf
  | .nbrUnpin who _ => who.wf
  | .nbrBlock who _ => who.wf
  | .nbrLookup who _ => who.wf
  | .nbrSetShort who _ => who.wf
  | .nbrAddChild who _ => who.wf
  | .nbrDelChild who _ => who.wf
  | .commandSetWrite who x k _ => who.wf && x.wf && fits 4 k
  | .commandResultRead who x => who.wf && x.wf
  | .commandSetLapse x => x.wf
  | .neighbourAgeCheck => true
  | .childTimeoutCheck => true
  | .indexCamMove => true
  | .xoStartTimeout => true
  | .xoRestart _ => true
  | .calibrationStart _ _ => true
  | .calibrationEnd _ _ temp gap => tempOk temp && fits 32 gap
  | .radioTestWrite who _ _ => who.wf
  | .fblLeave _ => true
  | .gainStepDown _ => true
  | .gainStepUp _ => true
  | .keyWordWrite who _ _ _ _ => who.wf
  | .keyLoad who _ _ _ => who.wf
  | .keyClear who _ _ _ => who.wf
  | .keyPageWipe who _ => who.wf
  | .reservationTimeout => true
  | .reservationRetry => true
  | .lceJobCtr who _ => who.wf
  | .lceJobCbcMac who _ => who.wf
  | .lceJobCmac who _ => who.wf
  | .lceJobEnd => true
  | .vaultGen who _ => who.wf
  | .vaultVerify who _ => who.wf
  | .vaultUnwrap who _ => who.wf
  | .vaultWrap who _ => who.wf
  | .vaultRewrap who _ => who.wf
  | .vaultCommandEnd => true
  | .pkJobGo who _ _ => who.wf
  | .pkAbort who _ => who.wf
  | .pkStepEnd => true
  | .trngOutput _ => true
  | .trngRead who => who.wf
  | .trngRestart => true
  | .alarm bit _ => fits 2 bit
  | .setOwner who => who.wf
  | .openField who cut => who.wf && cutOk cut
  | .seal who cut => who.wf && cutOk cut
  | .retire who cut => who.wf && cutOk cut
  | .debugOpen req => req.wf
  | .newChallenge who => who.wf
  | .challengeExpiry => true
  | .flueEvent n env => fits 16 n && env.wf
  | .flueHeldDelivery env => env.wf
  | .flueChannelConfig who _ _ => who.wf
  | .flueTaskWrite who _ _ => who.wf
  | .coreWfiDoze _ => true
  | .coreJoin _ _ => true
  | .damperGrant code _ => fits 5 code
  | .damperTimeout => true
  | .powerStateEntered => true
  | .bankedWake _ => true
  | .cinderWake => true
  | .wakeFailure _ => true
  | .wakeRetry => true
  | .clockSelect who _ => who.wf
  | .perfLevelChange who _ => who.wf
  | .perfLevelDone => true
  | .pllLock => true
  | .pllLockLoss => true
  | .x32Fail => true
  | .x32Retry _ => true
  | .powerOnReset vin vkeep vsys => fits 16 vin && fits 16 vkeep && fits 16 vsys
  | .brownOut _ => true
  | .resetPin => true
  | .watchdogExpiry _ => true
  | .lockup _ => true
  | .softReset who _ => who.wf
  | .deferredResetTaken us => fits 32 us
  | .kindlingSlowRetry => true
  | .kindlingDone us => fits 32 us
  | .bootStart => true
  | .watchdogKick who _ _ => who.wf
  | .securePageSet who _ _ => who.wf
  | .optionWrite who => who.wf
  | .flashProgram who _ => who.wf
  | .flashErase who _ => who.wf
  | .flashQuery who _ => who.wf
  | .flashCancel who _ _ => who.wf
  | .flashStepEnd _ => true
  | .flashPause who _ => who.wf
  | .pauseExpiry id _ => fits 3 id
  | .updBegin who _ => who.wf
  | .updResume who _ => who.wf
  | .updWrite who _ => who.wf
  | .updEnd who _ => who.wf
  | .updStart who _ => who.wf
  | .shadowLoadDone => true
  | .updInstall who _ => who.wf
  | .updAbort who _ => who.wf
  | .updCommit who _ => who.wf
  | .updRollback who _ => who.wf
  | .updLock who _ => who.wf
  | .updIdleTimeout => true
  | .handoverAsk who => who.wf
  | .handoverExported who => who.wf
  | .handoverAccept who => who.wf
  | .handoverDecline who => who.wf
  | .handoverTimeout => true
  | .swapBlocked => true
  | .probationExpiry => true
  | .commitRetry => true
  | .pilotStatus => true
  | .pilotLamp => true
  | .pilotReboot => true
  | .pilotImgBegin => true
  | .pilotImgWrite => true
  | .pilotImgEnd => true
  | .pilotImgInstall => true
  | .pilotAshRead => true
  | .ashSoftwareRecord who _ => who.wf
  | .ashFlush who => who.wf
  | .ashRebuild => true
  | .ashClear who => who.wf
  | .ashReadRequest who _ => who.wf
  | .ashReadDone => true
  | .portFrameReject _ e => e.wf
  | .frameCut _ => true
  | .hostPing seq pay => fits 8 seq && payOk pay
  | .hostSetBaud seq pay => fits 8 seq && payOk pay
  | .hostRd32 seq pay => fits 8 seq && payOk pay
  | .hostWr32 seq pay => fits 8 seq && payOk pay
  | .hostRdmem seq pay => fits 8 seq && payOk pay
  | .hostWrmem seq pay => fits 8 seq && payOk pay
  | .hostReset seq pay => fits 8 seq && payOk pay
  | .hostTxFrame seq pay => fits 8 seq && payOk pay
  | .hostReclaim seq pay => fits 8 seq && payOk pay
  | .hostGetRx seq pay => fits 8 seq && payOk pay
  | .hostKeypage seq pay => fits 8 seq && payOk pay
  | .hostKeyLoad seq pay => fits 8 seq && payOk pay
  | .svcHello seq pay => fits 8 seq && payOk pay
  | .svcAuth seq pay => fits 8 seq && payOk pay
  | .svcBye seq pay => fits 8 seq && payOk pay
  | .svcSetBaud seq pay => fits 8 seq && payOk pay
  | .svcChallenge seq pay => fits 8 seq && payOk pay
  | .svcRd32 seq pay => fits 8 seq && payOk pay
  | .svcWr32 seq pay => fits 8 seq && payOk pay
  | .svcRdmem seq pay => fits 8 seq && payOk pay
  | .svcWrmem seq pay => fits 8 seq && payOk pay
  | .svcStatus seq pay => fits 8 seq && payOk pay
  | .svcReset seq pay => fits 8 seq && payOk pay
  | .svcImgBegin seq pay => fits 8 seq && payOk pay
  | .svcImgWrite seq pay => fits 8 seq && payOk pay
  | .svcImgEnd seq pay => fits 8 seq && payOk pay
  | .svcImgStart seq pay => fits 8 seq && payOk pay
  | .svcImgInstall seq pay => fits 8 seq && payOk pay
  | .svcImgCommit seq pay => fits 8 seq && payOk pay
  | .svcImgRollback seq pay => fits 8 seq && payOk pay
  | .svcImgAbort seq pay => fits 8 seq && payOk pay
  | .svcKeyLoad seq pay => fits 8 seq && payOk pay
  | .svcCfgCommit seq pay => fits 8 seq && payOk pay
  | .svcAshRead seq pay => fits 8 seq && payOk pay
  | .svcAshClear seq pay => fits 8 seq && payOk pay
  | .svcLc seq pay => fits 8 seq && payOk pay
  | .svcOptions seq pay => fits 8 seq && payOk pay
  | .svcPilot seq pay => fits 8 seq && payOk pay
  | .sessionTimeout => true
  | .daliSend who => who.wf
  | .daliAbort who => who.wf
  | .daliCollision => true
  | .daliSendEnd _ => true
  | .daliFrameReceived ty data => fits 2 ty && fits 24 data
  | .daliRxPop who => who.wf
  | .daliBusDown => true
  | .dimApply who _ => who.wf
  | .dimRampStep => true
  | .dimFault => true
  | .relayPulse who _ _ => who.wf
  | .relaySwitch who _ => who.wf
  | .relayPulseEnd _ => true
  | .relayFault _ => true
  | .metPublish _ => true
  | .metZeroCross => true
  | .metSnapshot who => who.wf
  | .metClearEnergy who => who.wf
  | .adcSample who => who.wf
  | .adcSequenceDone results => resultsOk results
  | .motionEdge _ => true
  | .motionReportWrite who => who.wf
  | .tmrStart who _ => who.wf
  | .tmrStop who _ count => who.wf && fits 32 count
  | .tmrCapture who _ count => who.wf && fits 32 count
  | .tmrCaptureEdge _ count _ => fits 32 count
  | .tmrCompare _ _ => true
  | .tmrOverflow _ => true
  | .seStart who _ => who.wf
  | .seAbort who _ => who.wf
  | .seFlush who _ => who.wf
  | .seTransferEnd _ sent got _ => fits 5 sent && fits 16 (got.length)
  | .seRxOctet _ _ _ _ => true
  | .seTxdWrite who _ _ => who.wf
  | .seRxdRead who _ => who.wf
  | .vinUndervoltage mv => fits 16 mv
  | .vinRelease mv => fits 16 mv
  | .powerFailWarning mv => fits 16 mv
  | .pfwDeassert mv => fits 16 mv
  | .vsysLow mv gap => fits 16 mv && fits 32 gap
  | .supplySample vin vkeep vsys => fits 16 vin && fits 16 vkeep && fits 16 vsys
  | .chargerPreTimeout => true
  | .chargerTerminate => true
  | .ioBankLow _ => true
  | .padConfigWrite who _ _ => who.wf
  | .padOutSet who _ _ => who.wf
  | .padOutClear who _ _ => who.wf
  | .padOutToggle who _ _ => who.wf
  | .padReleaseBank who _ => who.wf
  | .padReleaseLamp who => who.wf
  | .padEdge _ _ => true
  | .wakePinEdge _ trig => fits 2 trig
  | .powerLoss => true
  | .resetConditionEnd cause => fits 4 cause
  | .x32Ready => true
  | .xoReady => true
  | .daliBusUp => true
  | .vioReturn _ => true
  | .chargerVkeepLevel mv => fits 16 mv
  | .ntcWindowChange ratio => fits 8 ratio
  | .lossOfSignal _ _ gap => fits 32 gap
  | .hostTransactionEnd n => fits 16 n

end Sys2Proof
end

