-- ==== Sys2Proof/Tests/Slice0.lean ====
section
/-! SUPPORT. The model's own tests: for every statement states and operands that meet its hypotheses, one ill-formed term for every check of
WellFormed, and single commands on small states. -/

namespace Sys2Proof.Machine

set_option Elab.async false

/-! ## States -/

/-- A device that has started: supplied from VIN, Kindling done, core A running. -/
def ready : State := ({ State.reset with
  sup := { State.reset.sup with lost := false, vinPresent := true, vin := 12000 }
  coreA := { State.reset.coreA with started := true, held := false } }).fset F.KND_STAT_DONE

/-- Fields set one after another. -/
def State.with (s : State) (l : List (Fld × Nat)) : State := l.foldl (fun s p => s.fp p.1 p.2) s

/-- Core A in machine mode, and the same in user mode. -/
abbrev coreA : Initiator := .coreA true

/-- Hearth runs on timeline A. -/
def synced : State := ready.with [(F.HRT_STAT_STATE, hSynced), (F.HRT_STAT_SYNC_A, 1)]

/-- What a command leaves, once what follows at once has happened. -/
def after {α : Type} (i : Instr) (s : State) (f : State → α) : Option α := match exec i s with
  | .next t => some (f t)
  | _ => none

/-! ## Memory that nothing has written -/

/-- An address that no entry lists reads as unlisted. -/
theorem get_unlisted : (l : List (Nat × Byte)) → (a : Nat) → (∀ p ∈ l, p.1 ≠ a) → Sparse.get memDefault l a = memDefault a
  | [], _, _ => rfl
  | (b, v) :: t, a, h => by
    have : b ≠ a := h (b, v) List.mem_cons_self
    simp [Sparse.get, this, get_unlisted t a (fun p m => h p (List.mem_cons_of_mem _ m))]

/-- Link RAM and SRAM that nothing has written read as zero. -/
theorem rb_unlisted {s : State} {a : Nat} (h : ∀ p ∈ s.mem, p.1 ≠ a) (lo : 0x20000000 ≤ a) : s.rb a = 0 := by
  have f : isFlash a = false := by simp [isFlash]; omega
  have r : ¬ a < 0x40000 := by omega
  simp [State.rb, r, f, get_unlisted _ a h, memDefault]

theorem ld_unlisted {s : State} (a : Nat) : (n : Nat) → (∀ p ∈ s.mem, p.1 < a ∨ a + n ≤ p.1) → 0x20000000 ≤ a → s.ld a n = 0
  | 0, _, _ => rfl
  | n + 1, h, lo => by
    rw [State.ld, rb_unlisted (fun p m => by have := h p m; omega) lo, ld_unlisted (a + 1) n (fun p m => by have := h p m; omega) (by omega)]
    rfl

/-- Where nothing has written the schedule, a timeline has no cells. -/
theorem cellsOf_unlisted {s : State} (t : Tl) (w : s.hrt.rewrite = []) (h : ∀ p ∈ s.mem, ∀ i, i < 4096 → p.1 < cellAddr i ∨ cellAddr i + 8 ≤ p.1) : s.cellsOf t = [] := by
  refine List.filter_eq_nil_iff.2 (fun p m => ?_)
  obtain ⟨i, hi, rfl⟩ := List.mem_map.1 m
  have : s.cell i = 0 := by
    simp only [State.cell, w]
    exact ld_unlisted _ 8 (fun p m => h p m i (List.mem_range.1 hi)) (by simp only [cellAddr]; omega)
  have z : (cf 0 63 63 == 1) = false := by decide
  simp [this, cV, z]

theorem synced_mem : synced.mem = [] := by decide

theorem synced_cells (t : Tl) : synced.cellsOf t = [] := cellsOf_unlisted t (by decide) (by simp [synced_mem])

theorem synced_nbrs : synced.nbrs = [] := by
  refine List.filter_eq_nil_iff.2 (fun n _ => ?_)
  have : synced.lw (nbrAddr n) = 0 := by
    rw [State.lw, ld_unlisted _ 4 (by simp [synced_mem]) (by simp only [nbrAddr]; omega)]; rfl
  simp only [State.mb, State.mg, this]
  decide

/-! ## The statements' hypotheses can be met -/

theorem witness_EmptyQueueTicks : ready.pending = [] ∧ ready.sup.lost = false := by decide

theorem witness_RegisterWriteByAccessType :
    (R.PWR_BUDGET / 0x1000 ∈ [0x40000, 0x40003, 0x400C0, 0x400C1] ∧ R.PWR_BUDGET % 4 = 0 ∧ R.PWR_BUDGET % 0x1000 ≠ 0xFFC) ∧
    (ready.live coreA = true ∧ ready.regSyn (ready.owner coreA) (ready.secure coreA) R.PWR_BUDGET true = 0) ∧
    ¬ (wField (200 : Word) 10 0 < 200 ∨ 2000 < wField (200 : Word) 10 0) ∧ wField (199 : Word) 10 0 < 200 ∧ 2000 < wField (2001 : Word) 10 0 ∧
    (let s := ready.with [(F.UPD_STAT_STATE, uProbation)];
      s.live coreA = true ∧ s.regSyn (s.owner coreA) (s.secure coreA) R.PWR_RET true = 0 ∧ s.uState = uProbation) := by decide

theorem witness_RegisterNeedsWord :
    ready.live coreA = true ∧ regionOf R.PWR_CFG = .periph (R.PWR_CFG / 0x1000) ∧ Size.half ≠ .word ∧ Access.read ≠ .fetch ∧
    ready.fb ⟨R.INT_FAULT_A_SYN, 31, 31⟩ = false ∧ (ready.with [(⟨R.INT_FAULT_A_SYN, 31, 31⟩, 1)]).fb ⟨R.INT_FAULT_A_SYN, 31, 31⟩ = true := by decide

theorem witness_ForbiddenWriteHasNoEffect :
    let s := { ready with coreB := { ready.coreB with started := true, held := false } }
    s.live (.coreB true) = true ∧ R.HST_EVT_EN % 4 = 0 ∧ s.regSyn (s.owner (.coreB true)) (s.secure (.coreB true)) R.HST_EVT_EN true = synOwner ∧ synOwner ≠ 0 := by decide

theorem witness_MemoryAccessStoresAndLoads :
    ready.live coreA = true ∧ regionOf 0x2017FFFC = .sram 11 ∧ 0x2017FFFC % Size.word.octets = 0 ∧
    ready.memSynOf coreA 0x2017FFFC true = 0 ∧ ready.memSynOf coreA 0x2017FFFC false = 0 ∧
    ready.eccBad.contains (0x2017FFFC / 4 * 4) = false := by decide

theorem witness_MemoryFaults :
    ready.live coreA = true ∧ Access.read ≠ .fetch ∧ 0x20100002 % Size.word.octets ≠ 0 ∧ regionOf 0x20180000 = .unmapped ∧ 0x20180000 % Size.word.octets = 0 ∧
    regionOf 0x10000000 = .flash ∧ (Access.write 0).isWrite = true ∧
    (let s := { ready with eccBad := [0x20100000] };
      s.memSynOf coreA 0x20100000 false = 0 ∧ s.eccBad.contains (0x20100000 / 4 * 4) = true ∧ s.live coreA = true) := by decide

theorem witness_OwnershipRegister :
    R.HST_OWN ∈ ownRegs ∧ ready.live coreA = true ∧ ready.secure coreA = true ∧ isCore (ready.owner coreA) = true ∧
    ready.fg ⟨R.HST_OWN, 2, 0⟩ = ownNone ∧ wField (0x11 : Word) 2 0 = ready.owner coreA ∧
    (let s := ready.with [(⟨R.HST_OWN, 2, 0⟩, 1)];
      s.fg ⟨R.HST_OWN, 2, 0⟩ = s.owner coreA ∧ s.fb ⟨R.HST_OWN, 31, 31⟩ = false) := by decide

theorem witness_ReadsCaptureAndClear :
    ready.live coreA = true ∧ ready.regSyn (ready.owner coreA) (ready.secure coreA) R.RTC_EMB_LO false = 0 ∧
    ready.regSyn (ready.owner coreA) (ready.secure coreA) R.RTC_WC_LO false = 0 ∧ ready.regSyn (ready.owner coreA) (ready.secure coreA) R.INT_FAULT_A_SYN false = 0 ∧
    alGet ready.caps (ready.capKey coreA, R.RTC_EMB_LO) = none := by decide

theorem witness_CapturedWordIsReturned :
    let s := { ready with caps := [((ownA, R.RTC_EMB_HI), 7)], coreB := { ready.coreB with started := true, held := false } }
    alGet s.caps (s.capKey coreA, R.RTC_EMB_HI) = some 7 ∧ s.live coreA = true ∧ s.regSyn (s.owner coreA) (s.secure coreA) R.RTC_EMB_HI false = 0 ∧
    s.live (.coreB true) = true ∧ s.regSyn (s.owner (.coreB true)) (s.secure (.coreB true)) R.RTC_EMB_LO false = 0 ∧
    s.capKey (.coreB true) ≠ s.capKey coreA ∧ alGet s.caps (s.capKey (.coreB true), R.RTC_EMB_LO) = none := by decide

theorem witness_InterruptController :
    ready.live coreA = true ∧ ready.regSyn (ready.owner coreA) (ready.secure coreA) (claimReg .a) false = 0 ∧ alGet ready.caps (ready.capKey coreA, claimReg .a) = none ∧
    ready.regSyn (ready.owner coreA) (ready.secure coreA) (doneReg .a) true = 0 ∧ ready.regSyn (ready.owner coreA) (ready.secure coreA) R.INT_DOORBELL true = 0 ∧
    ready.regSyn (ready.owner coreA) (ready.secure coreA) (R.INT_CFGn 95) true = 0 ∧ ready.claimLine .a = none ∧
    (let s := (ready.with [(F.INT_CFGn_TGT_A 95, 1), (F.INT_CFGn_PRIO 95, 1)]).rset R.INT_DOORBELL 0;
      s.claimLine .a = some 95) := by decide

/-- DMA channel 15 of core A, its descriptor at the start of bank 8. -/
def dmaReady : State := ((ready.with [(F.DMA_CHn_CFG_OWNER 15, 1), (F.DMA_CHn_CFG_SEC 15, 1), (F.DMA_CHn_CFG_EN 15, 1)]).wr (R.DMA_CHn_DESC 15) 0x20100000).sw 0x20100008 0x20000002

theorem witness_DmaChannel :
    (ready.live coreA = true ∧ ready.regSyn (ready.owner coreA) (ready.secure coreA) (R.DMA_CHn_CFG 15) true = 0 ∧ ready.fg (F.DMA_CHn_CFG_OWNER 15) = ownNone ∧
      wField (0x81100000 : Word) 26 24 = ready.owner coreA) ∧
    (dmaReady.regSyn (dmaReady.owner coreA) (dmaReady.secure coreA) (R.DMA_CHn_CTL 15) true = 0 ∧ dmaReady.live coreA = true ∧ dmaReady.dmaActive 15 = false ∧
      dmaReady.fb (F.DMA_CHn_CFG_EN 15) = true ∧ regionOf ((dmaReady.rd (R.DMA_CHn_DESC 15)).toNat / 16 * 16) = .sram 8 ∧
      dmaReady.memSynOf (.dma 15) 0x20100000 false = 0 ∧
      dmaReady.eccBad = [] ∧ wField (dmaReady.lw 0x20100008) 29 28 ≠ 3 ∧ wField (dmaReady.lw 0x20100008) 15 0 ≠ 0) ∧
    (let s := { dmaReady.with [(F.DMA_CHn_STAT_STATE 15, 1), (F.DMA_CHn_STAT_REM 15, 2)] with dma := dmaReady.dma.set 15 ⟨0x20100010, 0x20100020, 0x20000002, 0, false, false⟩ };
      s.dmaActive 15 = true ∧ (s.dch 15).waiting = false ∧ 15 < s.dma.length ∧ s.live (.dma 15) = true ∧ 2 ≤ s.fg (F.DMA_CHn_STAT_REM 15) ∧
      regionOf (s.dch 15).src = .sram 8 ∧ regionOf (s.dch 15).dst = .sram 8 ∧
      s.memSynOf (.dma 15) (s.dch 15).src false = 0 ∧ s.memSynOf (.dma 15) (s.dch 15).dst true = 0) := by decide

theorem witness_AlarmCompare :
    ready.live coreA = true ∧ ready.regSyn (ready.owner coreA) (ready.secure coreA) R.RTC_ALARM_LO true = 0 ∧
    ready.regSyn (ready.owner coreA) (ready.secure coreA) R.RTC_ALARM_HI true = 0 ∧
    (let s := (ready.with [(F.RTC_ALARM_HI_EN, 1)]).wr R.RTC_ALARM_LO 5;
      s.fb F.RTC_ALARM_HI_EN = true ∧ s.rtc.ember < s.alarmCmp) := by decide

theorem witness_StagedWritesClaimTheSet :
    ready.live coreA = true ∧ ready.regSyn (ready.owner coreA) (ready.secure coreA) (stagedReg .wall 0) true = 0 ∧ ready.stgOk .wall (ready.owner coreA) = true ∧
    stagedReg .wall 4 = SetId.wall.commit ∧ stagedReg .wall 0 ≠ SetId.wall.commit ∧
    (let s := ready.with [(SetId.wall.state, 1)];
      s.stgOk .wall (s.owner coreA) = false ∧ s.live coreA = true ∧ s.regSyn (s.owner coreA) (s.secure coreA) (stagedReg .wall 0) true = 0) := by decide

theorem witness_GoChecksInOrder :
    ready.live coreA = true ∧ ready.regSyn (ready.owner coreA) (ready.secure coreA) SetId.wall.commit true = 0 ∧ ready.stgOk .wall (ready.owner coreA) = true ∧
    ready.runs (Tl.ofBit (wField (0x10000 : Word) 8 8)) = false ∧ synced.runs .a = true ∧ synced.tlThere .a = true ∧
    ((synced.rd SetId.wall.casn).toNat + 0x100000000 * wField (0x20000 : Word) 7 0 ≤ synced.asn .a) ∧
    (synced.live coreA = true ∧ synced.stgOk .wall (synced.owner coreA) = true ∧ synced.regSyn (synced.owner coreA) (synced.secure coreA) SetId.wall.commit true = 0) ∧
    ready.wallValueOk = true ∧ (ready.wr R.RTC_TRIM_STG 500001).wallValueOk = false ∧ (ready.wr R.RTC_TRIM_STG 500000).wallValueOk = true ∧
    (metGainOk (ready.rd R.MET_CAL_STG_V) && wField (ready.rd R.MET_CAL_STG_V) 31 24 == 0 && metGainOk (ready.rd R.MET_CAL_STG_I1) &&
      metGainOk (ready.rd R.MET_CAL_STG_I2)) = true ∧ metGainOk ((ready.wr R.MET_CAL_STG_I1 0).rd R.MET_CAL_STG_I1) = false := by decide

theorem witness_CancelFreesTheSet :
    ready.live coreA = true ∧ ready.regSyn (ready.owner coreA) (ready.secure coreA) SetId.charger.commit true = 0 ∧ ready.fg SetId.charger.writer = ownNone ∧
    (let s := ready.with [(SetId.charger.writer, 1)];
      s.fg SetId.charger.writer = s.owner coreA ∧ s.owner coreA ≠ ownNone) ∧
    (let s := ready.with [(SetId.charger.writer, 2)];
      s.fg SetId.charger.writer ≠ ownNone ∧ s.fg SetId.charger.writer ≠ s.owner coreA) := by decide

theorem witness_SetsApplyAtOneEdge :
    ready.fg SetId.schedule.state ≠ 1 ∧
    (let s := ready.with [(SetId.schedule.state, 1)];
      s.fg SetId.schedule.state = 1 ∧ s.fg SetId.schedule.when = 0 ∧ s.hrt.rewrite = []) := by decide

theorem witness_WallClockStepBack :
    let s := { ready.with [(SetId.wall.state, 1)] with rtc := { ready.rtc with wcMs := 1 }, ash := { ready.ash with ready := true } }
    s.fg SetId.wall.state = 1 ∧ s.fg SetId.wall.when = 0 ∧ s.wallStaged < s.rtc.wcMs ∧ s.ash.ready = true ∧ s.ash.buf.length < 223 ∧ s.ash.lostFull = 0 ∧
      s.ash.ended = false ∧ s.ash.next < 0xFFFFFFFF := by decide

theorem witness_SnapshotLifeCycle :
    ready.live coreA = true ∧ ready.regSyn (ready.owner coreA) (ready.secure coreA) R.HRT_SNAP_REQ true = 0 ∧ wField (1 : Word) 3 0 ≠ 0 ∧
    ready.fg F.HRT_SNAP_STAT_STATE ≠ 1 ∧ ready.fg F.HRT_SNAP_STAT_STATE ≠ 2 ∧ ready.runs .a = false ∧ synced.runs .a = true ∧
    (let s := { synced.with [(F.HRT_SNAP_STAT_STATE, 1)] with hrt := { synced.hrt with snapFrozen := true } };
      s.fg F.HRT_SNAP_STAT_STATE = 1 ∧ s.hrt.snapFrozen = true) ∧
    (let s := synced.with [(F.HRT_SNAP_STAT_STATE, 2), (F.HRT_SNAP_STAT_HOLDER, 1)];
      s.fg F.HRT_SNAP_STAT_STATE = 2 ∧ s.fg F.HRT_SNAP_STAT_HOLDER = s.owner coreA ∧ s.regSyn (s.owner coreA) (s.secure coreA) R.HRT_SNAP_REL true = 0 ∧
        s.live coreA = true) ∧ ready.regSyn (ready.owner coreA) (ready.secure coreA) R.HRT_SNAP_REL true = 0 ∧
    ready.fg F.HRT_SNAP_STAT_HOLDER ≠ ready.owner coreA := by decide

theorem witness_HearthStartSequence :
    ready.rst.released = false ∧
    (let s := { ready with rst := { ready.rst with released := true } };
      s.rst.released = true ∧ s.trngFail = false ∧ s.bankBusy 0 = false ∧ s.fg F.HRT_STAT_STATE = hOff ∧ (∀ c, c < 2 → s.cfgMark c = false)) ∧
    (let s := { ready.with [(F.VLT_TRNG_STAT_FAIL, 1)] with rst := { ready.rst with released := true } };
      s.rst.released = true ∧ s.trngFail = true ∧ s.fg F.HRT_STAT_STATE = hOff) := by decide

theorem witness_LockstepFaultAndRecovery :
    synced.fg F.HRT_STAT_STATE = hSynced ∧ synced.hrt.mismatchAt = none ∧
    (let s := { synced with hrt := { synced.hrt with mismatchAt := some 0 } };
      s.hrt.mismatchAt = some 0 ∧ s.rtc.ember ≤ 0 + 32768) ∧
    (let s := { synced.with [(F.HRT_STAT_STATE, hRecovering)] with hrt := { synced.hrt with saved := hSynced } };
      s.fg F.HRT_STAT_STATE = hRecovering ∧ s.hrt.fatal = false ∧ s.hrt.deferred = [] ∧ s.hrt.nbrJob = none) := by decide

theorem witness_HearthFatalRestart :
    synced.hrt.fatal = false ∧
    (let s := { synced with hrt := { synced.hrt with fatal := true } };
      s.hrt.fatal = true ∧ ∀ r ∈ s.hrt.radios, ∀ a, r.act = some a → a.phase ≠ .onAir) :=
  ⟨rfl, rfl, fun r hr a ha => by simp [synced, ready, State.with, State.reset, HearthSt.init, State.fp, State.fset, State.wr, State.mRegs] at hr; subst hr; cases ha⟩

theorem witness_SlotBoundaryAdvances :
    synced.runs .a = true ∧ ready.runs .a = false ∧
    (let x := synced.tlx .a;
      synced.hrt.fatal = false ∧ synced.hrt.rewrite = [] ∧ synced.groups .a = [] ∧ synced.fg (Tl.a.f F.RFA_FBL_CFG_NOUT) = 0 ∧
      x.span = 0 ∧ x.cur = none ∧ x.exclNext = none ∧ x.newTs = none ∧ x.resync = none ∧ synced.nbrs = [] ∧ synced.stoked .a = synced.vinOk ∧
      synced.hrt.flush = [] ∧ synced.hrt.drop = [] ∧ synced.rsv.failed = [] ∧ synced.hrt.desc = [] ∧ synced.coreA.pilot = false ∧
      synced.fg F.HRT_SNAP_STAT_STATE ≠ 1 ∧ synced.radioState .a = rOff ∧ synced.fb (Tl.a.f F.RFA_FBL_CFG_DRAIN) = false ∧
      synced.fb (Tl.a.f F.RFA_FBL_CFG_EN) = false ∧ synced.cellsOf .a = [] ∧ x.arm = none) ∧
    (synced.recovering = false ∧ synced.hrt.fatal = false ∧ Tl.a.bit < synced.hrt.tls.length) ∧ (∀ y : SetId, synced.fg y.state ≠ 1) ∧
    (let s := { synced with hrt := { synced.hrt with fatal := true } };
      s.runs .a = true ∧ s.hrt.fatal = true) := by
  refine ⟨by decide, by decide, ?_, by decide, fun y => by cases y <;> decide, by decide⟩
  rw [synced_nbrs, synced_cells]
  decide +kernel

theorem witness_QueueIndices :
    let s := ready.with [(F.HRT_Qn_CFG_OWNER 15, 1), (F.HRT_Qn_CFG_OWNER 31, 1)];
    (s.live coreA = true ∧ s.regSyn (s.owner coreA) (s.secure coreA) (R.HRT_Qn_PROD 15) true = 0 ∧ s.regSyn (s.owner coreA) (s.secure coreA) (R.HRT_Qn_RECL 15) true = 0 ∧
      s.regSyn (s.owner coreA) (s.secure coreA) (R.HRT_Qn_FLUSH 15) true = 0 ∧ s.regSyn (s.owner coreA) (s.secure coreA) (R.HRT_Qn_PROD 31) true = 0) ∧
    s.radioState (s.qTl 15) ≠ rClkFail ∧ s.fg (F.HRT_Qn_PROD_IDX 15) = 0 ∧ s.fg (F.HRT_Qn_RECL_IDX 15) = 0 ∧ s.descChild 15 0 = none ∧
    s.enqCheck 15 0 = some ccAborted ∧
    (let u := { (s.mp (D.BUF 15 0) 2 |>.mp (D.LEN 15 0) 9 |>.mp (D.BCAST 15 0) 1).with [(F.HRT_Qn_CFG_EN 15, 1)] with hrt := { s.hrt with bufHolder := s.hrt.bufHolder.set 2 1 } }
     u.enqCheck 15 0 = none ∧ u.hrt.bufHolder.length = 64) := by decide +kernel

theorem witness_BufferPoolAndDescriptors :
    let s := ready.with [(F.HRT_Qn_CFG_OWNER 0, 1)];
    s.live coreA = true ∧ s.regSyn (s.owner coreA) (s.secure coreA) R.HRT_BUF_ALLOC false = 0 ∧ alGet s.caps (s.capKey coreA, R.HRT_BUF_ALLOC) = none ∧
    s.owner coreA ≠ ownNone ∧ s.fg (F.HRT_Qn_CFG_OWNER 0) = s.owner coreA ∧ s.fg F.HRT_BUF_FREE_RX_RESERVE < s.freeBufs.length ∧ s.hrt.bufHolder.length = 64 ∧
    (s.with [(F.HRT_BUF_FREE_RX_RESERVE, 62)]).freeBufs.length ≤ (s.with [(F.HRT_BUF_FREE_RX_RESERVE, 62)]).fg F.HRT_BUF_FREE_RX_RESERVE ∧
    s.regSyn (s.owner coreA) (s.secure coreA) R.HRT_BUF_RET true = 0 ∧ s.holder 63 ≠ s.owner coreA ∧ (s.setHolder 63 1).holder 63 = s.owner coreA ∧
    s.memSynOf coreA (descAddr 0 63 + 4) true = 0 := by decide +kernel

theorem witness_ScheduleEdits :
    ready.live coreA = true ∧ ready.regSyn (ready.owner coreA) (ready.secure coreA) R.HRT_SCH_HI true = 0 ∧
    ready.regSyn (ready.owner coreA) (ready.secure coreA) R.HRT_SCH_SF true = 0 ∧ ready.stgOk .schedule (ready.owner coreA) = true ∧ ready.hrt.edits.length < 64 ∧
    (ready.with [(SetId.schedule.state, 1)]).stgOk .schedule 1 = false := by decide

theorem witness_LinkTimekeeping :
    (ready.with [(F.RFA_CALi_VALID 3, 1)]).fb (F.RFA_CALi_VALID 3) = true ∧ 160 < (signed 16 (unsigned 16 (161 : Int)) - 16 * signed 8 ((ready.with [(F.RFA_CALi_VALID 3, 1)]).fg (F.RFA_CALi_TEMP 3))).natAbs ∧
    (let s := ((ready.mp (N.V 1023) 1).mp (N.STH 1023) 1).setCore .a { ready.coreA with entry := 0 };
     s.mb (N.V 1023) = true ∧ s.mg (N.STH 1023) ≠ 0) ∧
    (let s := { synced with hrt := { synced.hrt with debounce := true, ledger := [[(1, 5)]], tls := [{ TlSt.init with exclWant := [(11, 0)], excl := [] }, TlSt.init] } };
     s.hrt.debounce = true ∧ s.fg F.HRT_STAT_STATE ∉ [hOff, hLoading, hRestarting] ∧ nth s.hrt.ledger 0 [] = (1, 5) :: [] ∧
      Tl.a.bit < s.hrt.tls.length ∧ (∃ p ∈ (s.tlx .a).exclWant, p.1 = 11) ∧ (s.tlx .a).exclNext = none ∧ (s.tlx .a).exclFree.any (fun n => !s.asnDue .a n) = false ∧ s.sync .a = true ∧
      s.recovering = false ∧ (listDiff (s.tlx .a).excl ((s.tlx .a).exclWant.map (·.1))).take 2 ≠ []) := by decide +kernel

theorem witness_JoiningAndOpenPoll :
    (let s := { (ready.with [(F.HRT_STAT_STATE, hJoining)]).mp (N.V 3) 1 with hrt := { ready.hrt with tls := [{ TlSt.init with cands := [⟨3, 0, -60, 100, 0⟩] }, TlSt.init] } };
     Tl.a.bit < s.hrt.tls.length ∧ Tl.a.bit < s.hrt.radios.length ∧ s.joining .a = true ∧ s.recovering = false ∧
      bestCand ((s.tlx .a).cands.filter (fun c => s.mb (N.V c.nbr) && s.nbrTl c.nbr == .a && s.mg (N.ADM c.nbr) != admBlocked)) = some ⟨3, 0, -60, 100, 0⟩ ∧
      s.stoked .a = false ∧ s.radioState .a ≠ rClkFail ∧ s.radioState .a ≠ rTest) ∧
    (let s := { ready.with [(F.HRT_STAT_STATE, hJoining), (F.RFA_STAT_STATE, rRxSc)] with hrt := { ready.hrt with radios := [{ RadioSt.init with patCh := some 7 }, RadioSt.init] } };
     (s.rad .a).patCh.isSome = true ∧ s.radioRests .a = true ∧ s.radioState .a = rRxSc) ∧
    (let s := { (synced.mp (N.V 0) 1).mp (N.TS 0) 1 with hrt := { synced.hrt with tls := [{ TlSt.init with openMiss := 1 }, TlSt.init] } };
     (s.tlx .a).openMiss = 1 ∧ s.tsNow .a = some 0 ∧ s.hrt.fatal = false ∧ (s.rad .a).act = none ∧ s.radioState .a ∉ [rClkFail, rTest, rCal, rTx, rRxFrame]) := by decide +kernel

/-- A configuration in use whose one mode carries 2,047 octets. -/
def moded : State :=
  let c := { TlCfg.empty with band := { TlCfg.empty.band with modes := [{ ModeEntry.empty with maxPsdu := 2047 }] } }
  { synced with hrt := { synced.hrt with cfg := { HCfg.empty with tls := [some c, none] } } }

/-- Hearth with an action of timeline A's radio, whose VCO calibration is valid, the radio in a state. -/
def acting (a : TxAct) (st : Nat) : State :=
  { synced.with [(F.RFA_STAT_STATE, st), (F.RFA_CALi_VALID 0, 1)] with hrt := { synced.hrt with radios := [{ RadioSt.init with act := some a }, RadioSt.init] } }

/-- A frame of queue 15's last descriptor. -/
def frame (k : TxKind) (p : TxPhase) : TxAct := ⟨k, p, 7, 0, [1, 2, 3], none, false, none, 0, 0, false, 0, 0, false, 0⟩

theorem witness_AttemptsBeginAndTune :
    (let s := (moded.with [(F.HRT_Qn_CFG_EN 15, 1), (F.HRT_Qn_CFG_IMM 15, 1), (F.HRT_Qn_PROD_IDX 15, 1)]).mp (D.ST 15 0) 1;
     Tl.a.bit < s.hrt.radios.length ∧ s.hrt.fatal = false ∧ s.qTl 15 = .a ∧ s.fb (F.HRT_Qn_CFG_EN 15) = true ∧ s.fb (F.HRT_Qn_CFG_IMM 15) = true ∧ (s.rad .a).act = none ∧
      s.radioState .a ∉ [rTest, rCal, rTx, rRxFrame] ∧ (s.queued 15).head? = some 0 ∧ s.radioState .a ≠ rClkFail ∧ s.radioState .a ≠ rFbl ∧
      s.interimOk .a 7 ((s.tc .a).mode 0) = true ∧ s.mb (D.SEC 15 0) = false ∧ s.psduLen 15 0 ≤ ((s.tc .a).mode 0).maxPsdu) ∧
    (let s := (acting (frame (.imm 15 63) .tuning) rOff).with [(F.HRT_Qn_CFG_IMM 15, 1)];
     (s.rad .a).act = some (frame (.imm 15 63) .tuning) ∧ s.fb (F.HRT_Qn_CFG_IMM 15) = true ∧ s.radioState .a ∉ rClkFail :: rReady :: [rTest, rCal, rTx, rRxFrame] ∧ s.vcoOk .a = true) ∧
    (acting (frame (.imm 15 63) .tuning) rLocking).radioState .a = rLocking ∧ (acting (frame (.imm 15 63) .tuning) rFbl).radioState .a = rFbl := by decide +kernel

theorem witness_FramesOnAir :
    (let s := acting (frame .beacon .ready) rReady;
     Tl.a.bit < s.hrt.radios.length ∧ (s.rad .a).act = some (frame .beacon .ready) ∧ s.radioState .a = rReady ∧ s.vcoOk .a = true ∧ s.listened .a (frame .beacon .ready) = true ∧
      (frame .beacon .ready).kind.isPend = false ∧ s.hrt.fatal = false ∧ s.interimOk .a 7 (s.actMode .a (frame .beacon .ready)) = true ∧
      s.ledgerOk .a 7 (s.airOf .a 0 [1, 2, 3]) false = true ∧ s.hpStarved .a 7 0 ⟨0, 0, 5000, 3000⟩ = false) ∧
    (let s := acting (frame (.desc 15 63) .onAir) rTx;
     (s.rad .a).act = some (frame (.desc 15 63) .onAir) ∧ s.descChild 15 63 = none ∧ (s.tlx .a).cur = none ∧ (frame (.desc 15 63) .onAir).ackReq = false) ∧
    (let s := acting (frame (.desc 15 63) .cca) rRxSc;
     ((s.listens .a (frame (.desc 15 63) .cca)).1 && [].any (ccaBusy 0 (0 : Int))) = false ∧ (s.rad .a).act = some (frame (.desc 15 63) .cca)) ∧
    (let s := acting { frame (.desc 15 63) .ackWait with ackReq := true } rRxSc;
     s.radioState .a ≠ rRxFrame ∧ s.mg (D.RETRY 15 63) + 1 ≤ (s.dx 15 63).tries + 1) := by decide +kernel

theorem witness_AcknowledgementsSent :
    let d : AckDue := ⟨7, 0, [2, 0, 9], none, false, false, false, 0⟩
    let s := { synced.with [(F.RFA_CALi_VALID 0, 1)] with hrt := { synced.hrt with radios := [{ RadioSt.init with ackDue := [d] }, RadioSt.init] } };
    Tl.a.bit < s.hrt.radios.length ∧ 0 < s.hrt.tls.length ∧ (s.rad .a).ackDue = [d] ∧ s.radioMute .a = false ∧ (s.rad .a).act = none ∧
    s.hpStarved .a 7 0 ⟨0, 0, 5000, 3000⟩ = false ∧ s.ledgerOk .a 7 (s.airOf .a 0 d.psdu) true = true ∧ synced.hrt.radios.all (fun r => r.ackDue.isEmpty) = true ∧
    (let e := { d with viaFbl := true }
     let u := { s with hrt := { s.hrt with radios := [{ RadioSt.init with ackDue := [e], act := some (frame .beacon .ready) }, RadioSt.init] } };
     (u.rad .a).ackDue = [e] ∧ u.radioMute .a = false ∧ (e.viaFbl && (false || (u.rad .a).act.isSome || u.rsvBusy .a)) = true) ∧
    (let e : AckDue := ⟨7, 0, [2, 0, 9], some 1023, true, true, false, 0⟩
     let u := { (moded.with [(F.RFA_CALi_VALID 0, 1), (F.HRT_Qn_CFG_EN 15, 1), (F.HRT_Qn_PROD_IDX 15, 1)]).mp (D.ST 15 0) 1 |>.mp (D.NBR 15 0) 1023 with hrt := { moded.hrt with radios := [{ RadioSt.init with lastAck := some e }, RadioSt.init] } };
     (u.rad .a).lastAck = some e ∧ u.hrt.fatal = false ∧ u.radioMute .a = false ∧ u.radioState .a ≠ rCal ∧ (u.rad .a).act = none ∧ u.lbtBand .a 7 = false ∧
      u.interimOk .a 7 ((u.tc .a).mode 0) = true ∧ u.oldestPend .a 1023 = some (15, 0) ∧ u.mb (D.SEC 15 0) = false ∧
      u.psduLen 15 0 ≤ ((u.tc .a).mode 0).maxPsdu ∧ u.ledgerOk .a 7 (u.airOf .a 0 (u.descFrame 15 0)) true = true ∧
      u.hpStarved .a 7 0 ⟨0, 0, 5000, 3000⟩ = false) := by decide +kernel

theorem witness_CrystalCalibrationTestAndGain :
    Tl.a.bit < ready.hrt.radios.length ∧ ready.fb F.CLK_STAT_XO_RDY = false ∧ ready.fb F.RFA_STAT_CLKFAIL = false ∧
    (ready.with [(F.CLK_STAT_XO_FAIL, 1)]).fb F.CLK_STAT_XO_FAIL = true ∧
    (let s := ready.with [(F.RFA_STAT_STATE, rIdle), (F.RFA_CALi_STALE 0, 1)];
     s.calFree .a = true ∧ s.calNext .a = some 0) ∧
    (let s := { ready.with [(F.RFA_STAT_STATE, rCal)] with hrt := { ready.hrt with radios := [{ RadioSt.init with cal := some ⟨4, rIdle⟩ }, RadioSt.init] } };
     (s.rad .a).cal = some ⟨4, rIdle⟩ ∧ s.radioState .a = rCal) ∧
    ready.live coreA = true ∧ ready.regSyn (ready.owner coreA) (ready.secure coreA) (R.RFA_TEST + Tl.a.radio) true = 0 ∧
    ready.fg F.HRT_STAT_STATE = hOff ∧ ready.lifeCycle = lcMfg ∧
    (let s := ready.with [(F.RFA_STAT_STATE, rFbl), (F.RFA_FBL_GAIN_GAIN, 60)];
     s.radioState .a = rFbl ∧ 6 ≤ s.fg (Tl.a.f F.RFA_FBL_GAIN_GAIN) ∧ s.fg (Tl.a.f F.RFA_FBL_GAIN_GAIN) ≤ 60 ∧ (∀ k, k < unitCount .a → s.uSt .a k ≠ 3)) := by decide +kernel

/-- Radio A listens full-band on its last output. -/
def listening : State := synced.with [(F.RFA_STAT_STATE, rFbl), (F.RFA_FBL_OUTc_EN 139, 1), (F.RFA_FBL_CFG_NOUT, 140), (F.RFA_CALi_VALID 0, 1)]

/-- The same with a mode that its detectors search for. -/
def searched : State :=
  let c := { TlCfg.empty with band := { TlCfg.empty.band with modes := [ModeEntry.empty] }, fbl := { TlCfg.empty.fbl with det := [0] } }
  { listening with hrt := { listening.hrt with cfg := { HCfg.empty with tls := [some c, none] } } }

/-- A frame in reception on the single-channel path, in buffer 63. -/
def receiving (st : RxStage) : State :=
  let f : RxFrame := ⟨none, st, 63, 7, 0, 0, false, 0, 0, 0, -60, 200, 9, none, [], none, false, none, 0, none⟩
  { synced.with [(F.RFA_STAT_STATE, rRxFrame)] with hrt := { synced.hrt with radios := [{ RadioSt.init with rx := [f] }, RadioSt.init] } }

theorem witness_ReceptionUnitsAndStartOfFrame :
    (Tl.a.bit < listening.hrt.radios.length ∧ listening.hrt.bufHolder.length = 64 ∧ listening.fb (Tl.a.f F.RFA_FBL_CFG_DRAIN) = false ∧
      listening.radioState .a = rFbl ∧ listening.fb (Tl.a.f (F.RFA_FBL_OUTc_EN 139)) = true ∧ listening.outServes .a 139 = false ∧ listening.outWindow .a 139 = none ∧ listening.leaks .a 139 0 (-80) 5 = false ∧
      searched.detects .a 0 = true ∧ searched.radioState .a = rFbl ∧ searched.fb (Tl.a.f (F.RFA_FBL_OUTc_EN 139)) = true ∧
      listening.fb (Tl.a.f (F.RFA_FBL_OUTc_MUTED 139)) = false ∧ phyUnits 0 ≤ (listening.unitsFree .a).length ∧
      listening.firstUse .a + phyUnits 0 ≤ unitCount .a - listening.fg (Tl.a.f F.RFA_FBL_UNITS_RMAX)) ∧
    (let s := listening.with [(F.RFA_FBL_UNITu_STATE 31, 2), (F.RFA_FBL_UNITu_LOW 31, 31), (F.RFA_FBL_UNITu_OUT 31, 139)];
     s.searching .a 139 = some 31 ∧ s.groupRsv .a 31 = false ∧ s.freeBufs ≠ []) ∧
    139 < listening.fg (Tl.a.f F.RFA_FBL_CFG_NOUT) ∧
    (let s := { listening with hrt := { listening.hrt with radios := [{ RadioSt.init with winOpen := true, dataDue := some ⟨9, 0, false, 0, 0⟩ }, RadioSt.init] } };
     (s.rad .a).winOpen = true ∧ (s.rad .a).act = none ∧ s.hrt.fatal = false ∧ s.vcoOk .a = true ∧ (s.rad .a).dataDue = some ⟨9, 0, false, 0, 0⟩ ∧ (s.tlx .a).cur = none) ∧
    (let s := synced.with [(F.RFA_STAT_STATE, rRxSc)];
     s.radioState .a = rRxSc ∧ (s.rad .a).act = none ∧ s.freeBufs ≠ []) ∧
    (∃ x, (receiving .sfd).rxAt .a none = some x ∧ x.stage = .sfd ∧ x.early = none ∧ (receiving .sfd).phrBad .a x 9 0 false false true = (receiving .sfd).phrBad .a x 9 0 false false true) :=
  ⟨by decide +kernel, by decide +kernel, by decide +kernel, by decide +kernel, by decide +kernel, _, rfl, rfl, rfl, rfl⟩

theorem witness_HeaderFilterAndDelivery :
    (∃ x, (receiving .phr).rxAt .a none = some x ∧ x.stage = .phr ∧ x.buf < 64) ∧ fcOk (parseMhr [0x41, 0xA8, 1]) = true ∧ fcOk (parseMhr [7, 0, 0]) = false ∧
    (∃ x, (receiving .fc).rxAt .a none = some x ∧ x.stage = .fc) ∧ (receiving .fc).destOk .a (parseMhr [0x41, 0xA8, 1, 0xFF, 0xFF, 0xFF, 0xFF]) = true ∧
    (receiving .fc).destOk .a (parseMhr [0x41, 0xA8, 1, 0x34, 0x12, 0x34, 0x12]) = false ∧
    (∃ x, (receiving .dest).rxAt .a none = some x ∧ x.stage = .dest) ∧ (∀ n, (receiving .dest).srcNbr .a (parseMhr [0x41, 0xA8]) = some n → False) ∧
    (∃ x, (receiving .source).rxAt .a none = some x ∧ x.stage = .source ∧ x.early = none) ∧ Tl.a.bit < (receiving .phr).hrt.radios.length ∧
    (receiving .phr).hrt.bufHolder.length = 64 ∧ (receiving .phr).fb (Tl.a.f F.RFA_FBL_CFG_DRAIN) = false := by
  refine ⟨⟨_, rfl, rfl, by decide⟩, by decide +kernel, by decide +kernel, ⟨_, rfl, rfl⟩, by decide +kernel, by decide +kernel, ⟨_, rfl, rfl⟩, fun n h => ?_, ⟨_, rfl, rfl, rfl⟩,
    by decide, by decide, by decide⟩
  have e : (receiving .dest).srcNbr .a (parseMhr [0x41, 0xA8]) = none := by decide +kernel
  rw [e] at h
  cases h

theorem witness_NeighbourCommands :
    ready.live coreA = true ∧ ready.regSyn (ready.owner coreA) (ready.secure coreA) R.HRT_NBR_CMD true = 0 ∧ ready.csOk .nbr (ready.owner coreA) true = true ∧
    ready.recovering = false ∧ ready.hasB = true ∧ ready.lookExt ready.nbrArgExt .a = none ∧ ready.fb F.HRT_NBR_SHORT_SV = false ∧ ready.nbrIndex = some 0 ∧
    (idxFree ready.hrt.extIdx (ready.bucketExt ready.nbrArgExt .a)).isSome = true ∧ wField (1023 : Word) 9 0 = 1023 ∧ ready.mb (N.V 1023) = false ∧
    (let s := ready.mp (N.V 1023) 1;
     s.mb (N.V 1023) = true ∧ s.mb (N.TS 1023) = false ∧ s.childOf 1023 = none ∧ s.hrt.kids = [] ∧ s.lookShort (s.fg F.HRT_NBR_SHORT_SHORT) (s.nbrTl 1023) = none) ∧
    (let s := { ready.mp (N.V 1023) 1 with hrt := { ready.hrt with kids := [(1023, 511)] } };
     s.childOf 1023 = some 511) := by decide +kernel

theorem witness_NeighbourUnreferenced : (ready.mp (N.V 1023) 1).nbrReferenced 1023 = false := by
  have m : (ready.mp (N.V 1023) 1).mem = [(nbrAddr 1023 + 2, 0x80)] := by decide
  have c : (ready.mp (N.V 1023) 1).cellsOf ((ready.mp (N.V 1023) 1).nbrTl 1023) = [] := cellsOf_unlisted _ (by decide) (fun p h i hi => by
    rw [m] at h
    simp only [List.mem_singleton] at h
    simp only [h, nbrAddr, cellAddr]
    omega)
  rw [State.nbrReferenced, State.cellNames, c]
  decide +kernel

theorem witness_CommandSetsAndAges :
    (0 + 1 < (csRegs .vlt).length ∧ ready.live coreA = true ∧ ready.regSyn (ready.owner coreA) (ready.secure coreA) (nth (csRegs .vlt) 0 0) true = 0 ∧
      ready.csOk .vlt (ready.owner coreA) false = true ∧ (ready.with [(CsId.vlt.writer, 2)]).csOk .vlt (ready.owner coreA) false = false) ∧
    (let s := ready.with [(CsId.vlt.writer, 1), (CsId.vlt.state, 2)];
     s.regSyn (s.owner coreA) (s.secure coreA) CsId.vlt.res false = 0 ∧ alGet s.caps (s.capKey coreA, CsId.vlt.res) = none ∧ s.fg CsId.vlt.writer = s.owner coreA ∧
      2 ≤ s.fg CsId.vlt.state ∧ ¬ (CsId.vlt = .upd ∧ s.upd.keep = true)) ∧
    (let s := { ready with cs := [.vlt] };
     CsId.vlt ∈ s.cs ∧ s.csBusy .vlt = false) ∧ (ready.mp (N.V 0) 1).mb (N.V 0) = true := by decide +kernel

theorem witness_KeysAndReservations :
    (let s := ready.with [(F.VLT_PGn_OWN_OWNER 6, 1), (⟨R.VLT_PGn_OWN 6, 4, 4⟩, 1), (F.VLT_PGn_SLOTs_MASK 6 7, 15)];
     s.live coreA = true ∧ s.regSyn (s.owner coreA) (s.secure coreA) (R.VLT_PGn_Ks_Ww 6 7 7) true = 0 ∧ s.regSyn (s.owner coreA) (s.secure coreA) (R.VLT_PGn_SLOTs 6 7) true = 0 ∧
      s.regSyn (s.owner coreA) (s.secure coreA) (R.VLT_PGn_CTL 6) true = 0 ∧ s.fg (F.VLT_PGn_SLOTs_MASK 6 7) % 16 = 15 ∧ wBit (0 : Word) 30 = false ∧
      ¬ s.fg (F.VLT_PGn_SLOTs_MASK 6 7) = 255) ∧
    (let s := { ready with rsv := { ready.rsv with failed := [0], writing := some [] } };
     s.rsv.failed ≠ [] ∧ s.rsv.writing = some [] ∧ s.rsv.queued = false ∧ (s.blk s.rsvBlock).ptr < 256) ∧ ready.rsv.writing = none ∧ ready.rsv.failed = [] := by decide +kernel

theorem witness_VaultAndCipherJobs :
    (ready.live coreA = true ∧ ready.regSyn (ready.owner coreA) (ready.secure coreA) R.VLT_CMD true = 0 ∧ ready.csOk .vlt (ready.owner coreA) true = true ∧
      ready.regSyn (ready.owner coreA) (ready.secure coreA) R.LCE_JOB_CTL true = 0 ∧ ready.csOk .lce (ready.owner coreA) true = true ∧
      (ready.with [(CsId.vlt.state, 1)]).csOk .vlt 1 true = false ∧ (ready.with [(CsId.lce.state, 1)]).csOk .lce 1 true = false) ∧
    (let j : VaultJob := ⟨1, 0, 0, 0, 0x20100000, 4096, 0x20110000, 1, true, List.replicate 16 7⟩
     let s := { ready with vlt := { ready.vlt with job := some j } };
     s.vlt.job = some j ∧ jobLenOk j = true ∧ s.jobBus j = true ∧ jobLenOk { j with len := 4097 } = false) ∧
    (let j : LceJob := ⟨1, 6, 0, 0x20100000, 0x20110000, 1, List.replicate 16 0, 1, true, List.replicate 16 7⟩
     let s := { ready with vlt := { ready.vlt with lce := some j } };
     s.vlt.lce = some j ∧ j.op ≠ 0 ∧ j.key ≠ [] ∧ ¬ (j.len = 0 ∨ (j.op = 2 ∧ j.len % 16 ≠ 0)) ∧ s.busOk j.who j.sec j.src j.len false = true ∧
      s.busOk j.who j.sec j.dst j.len true = true) := by decide +kernel

theorem witness_VerifyEngineAndTrng :
    (ready.live coreA = true ∧ ready.regSyn (ready.owner coreA) (ready.secure coreA) (R.VLT_PK_CTLc 1) true = 0 ∧ ready.vlt.pk.length = 2 ∧
      ready.csOk (.pk 1) (ready.owner coreA) true = true ∧ ready.vlt.pkStep = false ∧ ready.pwr.entry = none) ∧
    (let j : PkJob := ⟨0x20100000, false, 1, true, false, []⟩
     let s := { ready.with [(F.VLT_PK_PROGc_LO 1, 14)] with vlt := { ready.vlt with pk := [none, some j], pkStep := true, pkLast := 1 } };
     s.vlt.pkStep = true ∧ s.vlt.pk.length = 2 ∧ s.vlt.pkLast < 2 ∧ s.pkJob s.vlt.pkLast = some j ∧ j.abortReq = false ∧ s.pkBus j = true ∧
      s.fg (F.VLT_PK_PROGc_HI 1) + 1 < s.fg (F.VLT_PK_PROGc_LO 1)) ∧
    (ready.vlt.stopped = false ∧ ready.vlt.words.length ≤ 8 ∧ ready.vlt.fails < 2 ∧ ready.regSyn (ready.owner coreA) (ready.secure coreA) R.VLT_TRNG_DATA false = 0 ∧
      alGet ready.caps (ready.capKey coreA, R.VLT_TRNG_DATA) = none ∧ ready.vlt.words = []) := by decide +kernel

theorem witness_AlarmAndLifeCycle :
    (ready.powered = true ∧ ready.rst.deferred = [] ∧ (ready.with [(F.VLT_ALARM_CFG_TAMPER_EN, 1)]).fb F.VLT_ALARM_CFG_TAMPER_EN = true) ∧
    ready.live coreA = true ∧ ready.regSyn (ready.owner coreA) (ready.secure coreA) R.LCS_CMD true = 0 ∧ ready.lifeCycle = lcMfg ∧
    ready.fb F.LCS_STATE_OWNER_SET = false ∧ ready.secure coreA = true ∧ ready.supplyOk = true ∧
    (ready.wr R.LCS_CMD_ARG 0x20100000).busOk 1 true ((ready.wr R.LCS_CMD_ARG 0x20100000).rd R.LCS_CMD_ARG).toNat 32 false = true ∧
    (ready.with [(F.LCS_STATE_OWNER_SET, 1)]).fb F.LCS_STATE_OWNER_SET = true ∧
    (let s := ready.with [(F.LCS_STATE_STATE, lcOpen)];
     s.lifeCycle = lcOpen ∧ s.tokenCheck (s.lcsArg (s.owner coreA) true 0x20100000 192) 2 zeroArg ≠ 0) ∧ (ready.with [(F.LCS_STATE_STATE, lcSealed)]).lifeCycle = lcSealed := by decide +kernel

/-- Flue channel 47 carries event 0x48, which waits. -/
def flueReady (tsk : Word) : State :=
  { (ready.with [(F.FLU_CHc_CFG_OWNER 47, 1), (F.FLU_CHc_CFG_SEC 47, 1), (F.FLU_CHc_CFG_EN 47, 1), (F.FLU_CHc_CFG_EVENT 47, 0x48)]).wr (R.FLU_CHc_TSK 47) tsk with
    flue := { ready.flue with events := [⟨0x48, 7⟩] } }

theorem witness_FlueDelivery :
    (flueReady 0).flueOff = false ∧ (flueReady 0).flueBanked = false ∧ (flueReady 0).flue.events = [⟨0x48, 7⟩] ∧
    (∀ d : Fin 48, ((flueReady 0).fb (F.FLU_CHc_CFG_EN d) = true ∧ (flueReady 0).fg (F.FLU_CHc_CFG_EVENT d) = 0x48) ↔ d = 47) ∧
    (flueReady 0).rd (R.FLU_CHc_TSK 47) = 0 ∧ (flueReady 0x70).rd (R.FLU_CHc_TSK 47) = w32 0x70 ∧ taskListed 0x70 = true ∧
    (flueReady 0x70).taskSyn 1 true 0x70 = 0 ∧ ready.live coreA = true ∧ ready.regSyn (ready.owner coreA) (ready.secure coreA) (R.FLU_CHc_CFG 47) true = 0 ∧
    ready.fg (F.FLU_CHc_CFG_OWNER 47) = ownNone ∧ ready.owner coreA ≠ ownNone ∧ ready.fb (F.FLU_CHc_CFG_EN 47) = false ∧ ready.fb (F.FLU_CHc_CFG_LOCK 47) = false ∧
    wField (0x81100048 : Word) 26 24 = ready.owner coreA ∧ ready.eventOk 1 (wBit (0x81100048 : Word) 20) (wField (0x81100048 : Word) 7 0) = true ∧
    (flueReady 0).regSyn ((flueReady 0).owner coreA) ((flueReady 0).secure coreA) (R.FLU_CHc_TSK 47) true = 0 := by decide +kernel

theorem witness_DamperAndWake :
    (ready.coreRuns .a = true ∧ ready.coreMode .a = 0 ∧ ready.coreIrq .a = false) ∧
    (let s := ready.with [(F.PWR_CORE_A_MODE, 2)];
     let env : DamperEnv := ⟨400, 0xFFFFFFFF, false, false, false, false⟩;
     s.coreMode .a = 2 ∧ s.joinOf .b = some .cinder ∧ s.pwr.entry = none ∧ (∀ k ∈ responders, s.answerOf k env = .grant) ∧
      responders.find? (fun k => s.answerOf k { env with host := true } == .refuse) = some 15) ∧
    (let s := { ready with pwr := { ready.pwr with entry := some ⟨true, [9], false⟩ } };
     s.pwr.entry = some ⟨true, [9], false⟩ ∧ 9 ∈ [9] ∧ lowest [9] = some 9) ∧
    (let s := { ready with pwr := { ready.pwr with entry := some ⟨true, [], true⟩ } };
     s.pwr.entry = some ⟨true, [], true⟩) ∧
    (let s := { ready with pwr := { ready.pwr with state := .banked, wakePending := [0] } };
     s.pwr.state = .banked ∧ s.wakeSources false ≠ [] ∧ s.waking = true) ∧
    (let s := { ready with pwr := { ready.pwr with state := .cinder, wakePending := [0] } };
     s.pwr.state = .cinder ∧ s.pwr.wakePending ≠ []) ∧
    (let s := { ready with pwr := { ready.pwr with state := .failed } };
     s.powered = true ∧ s.pwr.state = .failed ∧ s.rst.deferred = [] ∧ s.rst.running = none) := by decide +kernel

theorem witness_ClocksAndLevels :
    ready.live coreA = true ∧ ready.regSyn (ready.owner coreA) (ready.secure coreA) R.CLK_SEL true = 0 ∧ wField (3 : Word) 1 0 = 3 ∧ wField (0 : Word) 1 0 = 0 ∧
    ready.regSyn (ready.owner coreA) (ready.secure coreA) R.CLK_PERF true = 0 ∧ ready.fg F.CLK_STAT_PERF_BUSY = 0 ∧ ready.fg F.CLK_STAT_CORE_SRC ≠ 2 ∧
    wField (1 : Word) 0 0 ≠ ready.fg F.CLK_STAT_LEVEL ∧ (ready.with [(F.CLK_STAT_CORE_SRC, 2)]).fg F.CLK_STAT_CORE_SRC = 2 ∧
    (let s := ready.with [(F.CLK_STAT_PERF_BUSY, 1)];
     s.fg F.CLK_STAT_PERF_BUSY = 1 ∧ s.pwr.perfTarget < 2) ∧
    (let s := ready.with [(F.CLK_STAT_XO_RDY, 1), (F.CLK_SEL_PLL_REQ, 1), (F.CLK_STAT_PLL_LOCK, 1)];
     s.pwr.state = .run ∧ s.fg F.CLK_STAT_XO_RDY = 1 ∧ s.fg F.CLK_SEL_PLL_REQ = 1 ∧ s.fg F.CLK_STAT_PLL_LOCK = 1 ∧ s.xoWanted = true ∧ s.fg F.CLK_STAT_XO_FAIL = 0) ∧
    ready.pwr.x32Run = false ∧ (ready.with [(F.CLK_STAT_X32_FAIL, 1)]).fg F.CLK_STAT_X32_FAIL = 1 := by decide +kernel

theorem witness_ResetCausesTaken :
    State.reset.powered = false ∧ (ready.powered = true ∧ ready.rst.running = none ∧ ready.rst.deferred = [] ∧ ready.rst.waiting = false ∧ ready.calm = true ∧
      ready.flc.running = none ∧ ready.fb F.SUP_IO_CFG_BOR_A_EN = false ∧ ready.coreRuns .a = true ∧ ready.coreRuns .b = false) ∧
    (ready.with [(F.SUP_IO_CFG_BOR_B_EN, 1)]).fb F.SUP_IO_CFG_BOR_B_EN = true ∧ ready.live coreA = true ∧
    ready.regSyn (ready.owner coreA) (ready.secure coreA) R.RST_SOFT true = 0 ∧ wField (0x5E7A0001 : Word) 31 16 = 0x5E7A ∧
    (let s := (ready.with [(⟨wdtCfg .b, 31, 31⟩, 1)]).wr (wdtCfg .b + 8) 0;
     s.rbit (wdtCfg .b) 31 = true ∧ s.rd (wdtCfg .b + 8) = 0 ∧ s.uState ≠ uProbation ∧ s.uShadowing = false) ∧
    (let s := { ready with rst := { ready.rst with waiting := true, deferred := [⟨12, false⟩] } };
     s.rst.running = none ∧ s.rst.waiting = true ∧ s.flc.running = none ∧ s.rst.deferred = [⟨12, false⟩]) ∧
    (let s := { ready with flc := { ready.flc with running := some ⟨⟨reqAsh, .program 0x10000000 [], false, 0, 0, false, false, false, false⟩, .program⟩ } };
     s.flc.running.isSome = true ∧ s.calm = true) := by decide +kernel

theorem witness_KindlingAndBoot :
    (let s := { ready with rst := { ready.rst with running := some .reset } };
     s.rst.running.isSome = true ∧ s.rst.begun = false ∧ s.rst.persist = []) ∧
    (let s := { ready with rst := { ready.rst with running := some .reset, begun := true } };
     s.rst.running.isSome = true ∧ s.rst.begun = true) ∧
    (let s := { ready with coreA := { ready.coreA with started := false } };
     s.fb F.KND_STAT_DONE = true ∧ s.pwr.state = .run ∧ s.coreA.started = false ∧ s.coreB.started = false ∧ s.rst.released = false ∧ s.lifeCycle ≠ lcRetired ∧
      s.optFail = false ∧ s.fb F.FLC_PROT_NONE = false ∧ s.fb F.LCS_STATE_OWNER_SET = false ∧ s.fg F.RST_CAUSE_CAUSE ∉ [6, 7, 9]) ∧
    (ready.regSyn (ready.owner coreA) (ready.secure coreA) (kickReg .a) true = 0 ∧ ready.live coreA = true ∧ (ready.with [(⟨wdtCfg .a, 31, 31⟩, 1)]).rbit (wdtCfg .a) 31 = true ∧
      ready.regSyn (ready.owner coreA) (ready.secure coreA) (R.RST_SECPG0 + 8) true = 0 ∧ ready.regSyn (ready.owner coreA) (ready.secure coreA) R.KND_OPT_CMD true = 0 ∧
      ready.csOk .knd (ready.owner coreA) true = true ∧ ready.lifeCycle = lcMfg ∧ isCore (ready.owner coreA) = true ∧ ready.supplyOk = true) ∧
    { ready with sup := { ready.sup with vinPresent := false, vkeep := 2699 } }.supplyOk = false := by decide +kernel

theorem witness_FlashAndAsh :
    ready.live coreA = true ∧ ready.regSyn (ready.owner coreA) (ready.secure coreA) (R.FLC_CMDs 1) true = 0 ∧ ready.fg (F.FLC_RESs_STATE 1) ≠ 1 ∧
    ready.busOk (ready.owner coreA) true 0x20100000 256 false = true ∧ ready.busOk (ready.owner coreA) true 0x10000001 256 true = false ∧
    isFlash 0x107FFFFF = true ∧ blockOf 0x107FFFFF = 127 ∧ blockAddr 127 = 0x107F0000 ∧ isFlash 0x10800000 = false ∧
    (ready.with [(F.FLC_RESs_STATE 1, 1)]).fg (F.FLC_RESs_STATE 1) = 1 ∧ ready.flc.blocks.length = 128 ∧ (ready.blk 127).suspect = false ∧
    ready.flc.torn.contains (pageOf 0x10000000) = false ∧ (ready.blk 127).count ≠ 0xFFFFFF ∧
    (let c : FlashCmd := ⟨1, .erase 127, false, 1, 0, false, true, false, false⟩
     c.op = .erase 127 ∧ c.cancel = true) ∧
    ready.regSyn (ready.owner coreA) (ready.secure coreA) R.FLC_PAUSE true = 0 ∧ ready.flcPauseOf 1 = (false, false) ∧
    ready.regSyn (ready.owner coreA) (ready.secure coreA) R.ASH_WR_CODE true = 0 ∧ ready.ash.ready = false ∧ { ready with ash := { ready.ash with ready := true } }.ash.ready = true ∧ ready.ash.buf.length < 200 ∧ ready.ash.lostFull = 0 ∧ ready.ash.ended = false ∧
    ready.ash.next < 0xFFFF0000 := by decide +kernel

theorem witness_Ash :
    ready.ash.ready = false ∧ { ready with ash := { ready.ash with wiped := false } }.ash.wiped = false ∧ ready.ash.late.length = 0 ∧ { ready with flc := { ready.flc with ready := true } }.flc.ready = true ∧
    ready.ash.ctlOk = true ∧ ready.ash.flush = none ∧ ready.pwr.entry = none ∧ (ready.blk ready.ashActive).ptr < 256 ∧
    ready.regSyn (ready.owner coreA) (ready.secure coreA) R.ASH_FLUSH true = 0 ∧ ready.regSyn (ready.owner coreA) (ready.secure coreA) R.ASH_CLR_CMD true = 0 ∧
    ready.csOk .ashClr (ready.owner coreA) true = true ∧ ready.ash.clr = none ∧
    ready.tokenCheck (ready.lcsArg 1 true 0x20100000 192) 6 zeroArg = 2 ∧
    ready.regSyn (ready.owner coreA) (ready.secure coreA) R.ASH_RD_SEQ true = 0 ∧ ready.csOk .ashRd (ready.owner coreA) true = true := by decide +kernel

theorem witness_UpdateStream :
    ready.live coreA = true ∧ ready.regSyn (ready.owner coreA) (ready.secure coreA) R.UPD_CMD true = 0 ∧ ready.csOk .upd (ready.owner coreA) true = true ∧
    ready.uState = uIdle ∧ ready.uRefusal = 0 ∧ (ready.fp F.FLC_PROT_LOCK 1).uState = uIdle ∧ ready.upd.keep = false ∧
    (let s := ready.fp F.UPD_STAT_STATE uVerified;
     s.uState = uVerified ∧ s.uKind = 0 ∧ s.coreA.pilot = false) ∧
    (let s := ready.fp F.UPD_STAT_STATE uReceiving;
     s.uState = uReceiving ∧ s.uLow = false ∧ s.pkFree = some 1 ∧ s.fg F.UPD_NEXT_NEXT = 0 ∧ s.fg F.UPD_OFF_OFF = 0) ∧
    (let s := ready.with [(F.UPD_STAT_STATE, uReceiving), (F.UPD_LEN_LEN, 4096)];
     s.fg F.UPD_LEN_LEN = 4096 ∧ s.memOk 1 true 0x20100000 256 false = true ∧ regionOf 0x20100000 = .sram 8) ∧
    (let s := ready.fp F.UPD_STAT_STATE uImport;
     s.uState = uImport ∧ uLoading ≤ s.uState) := by decide +kernel

theorem witness_ShadowAndHandover :
    (let s := { ready.with [(F.UPD_STAT_STATE, uVerified), (F.UPD_STAT_IDLE_CORE, 1)] with hrt := { ready.hrt with cfg := { ready.hrt.cfg with upd := { ready.hrt.cfg.upd with mbox := 0x20100000 } } } };
     s.uState = uVerified ∧ (s.core s.idleCore.other).started = true ∧ (s.core s.idleCore.other).pilot = false ∧ (s.core s.idleCore).held = true ∧
      0x20100000 ≤ s.hrt.cfg.upd.mbox ∧ s.hrt.cfg.upd.mbox ≤ 0x2016FF00) ∧
    (let s := ready.with [(F.UPD_STAT_STATE, uProbation)];
     s.uState = uProbation ∧ s.csOk .upd (s.owner coreA) true = true ∧ s.owner coreA ≠ ownSvc ∧ s.noBoundary = true ∧ s.rd R.UPD_PROB_LEFT = 0 ∧
      s.fb F.UPD_STAT_COMMIT_WAIT = false) ∧
    (synced.noBoundary = false) ∧
    (let s := ready.with [(F.UPD_STAT_STATE, uShadow)];
     s.uShadowing = true ∧ s.uState = uShadow ∧ s.live coreA = true ∧ s.regSyn (s.owner coreA) (s.secure coreA) R.UPD_HAND true = 0 ∧ (s.owner coreA = s.uOld.owner ∨ s.owner coreA = s.uNew.owner)) ∧
    (ready.with [(F.UPD_STAT_STATE, uSwap)]).uState = uSwap ∧ (ready.with [(F.UPD_STAT_STATE, uExport)]).uState = uExport ∧
    (ready.with [(F.UPD_STAT_STATE, uLoading)]).uState = uLoading ∧ (ready.with [(F.UPD_STAT_STATE, uLoading)]).hdr 0 0x0C = 0xFFFFFFFF := by decide +kernel


/-- Core A owns the lamp's registers, the metrology block, the ADC, the timers and the serial engines. -/
def owned : State := ready.with [(F.LUM_OWN_OWNER, 1), (F.MET_OWN_OWNER, 1), (F.ADC_OWN_OWNER, 1), (F.TMR_OWN_OWNER, 1), (F.SEn_OWN_OWNER 0, 1),
  (F.SEn_OWN_OWNER 1, 1), (F.SEn_OWN_OWNER 2, 1), (F.SEn_OWN_OWNER 3, 1)]

theorem witness_LampOutputs :
    owned.live coreA = true ∧ owned.regSyn (owned.owner coreA) (owned.secure coreA) R.LUM_DALI_CTL true = 0 ∧ owned.fg F.LUM_DALI_RES_STATE ≠ 1 ∧
    owned.fb F.LUM_DALI_CFG_EN = false ∧
    (let s := { owned.with [(F.LUM_DALI_CFG_EN, 1), (F.LUM_STAT_BUS_UP, 1), (F.LUM_DALI_RES_STATE, 1)] with
        per := { owned.per with dali := { owned.per.dali with fwd := 0x80000000, tries := 2 } } };
     s.fb F.LUM_DALI_CFG_EN = true ∧ s.fb F.LUM_STAT_BUS_UP = true ∧ s.fg F.LUM_DALI_RES_STATE = 1 ∧ wBit s.per.dali.fwd 31 = true ∧ s.per.dali.abort = false ∧
      2 ≤ s.per.dali.tries ∧ s.per.dali.rx.length < 4) ∧
    owned.regSyn (owned.owner coreA) (owned.secure coreA) R.LUM_DIM_CTL true = 0 ∧
    (let s := { owned with per := { owned.per with dim := ⟨4095, 0, 99, 100, false⟩ } };
     s.per.dim.k < s.per.dim.steps ∧ s.per.dim.l0 ≤ 4095 ∧ s.per.dim.target ≤ 4095 ∧ s.per.dim.k + 1 = s.per.dim.steps) ∧
    owned.regSyn (owned.owner coreA) (owned.secure coreA) R.LUM_RLY_CTL true = 0 ∧
    (let s := owned.with [(F.LUM_RLY_CFG_PAIR, 1), (F.LUM_RLY_CFG_B_MODE, 1)];
     s.rlyPulseMode 1 = true ∧ s.fb (rlyFault 1) = false ∧ s.fb F.LUM_RLY_CFG_PAIR = true ∧ s.fb (rlyPulsing 0) = false ∧ wBit (0x00000002 : Word) 0 = false) ∧
    owned.regSyn (owned.owner coreA) (owned.secure coreA) R.LUM_MOT_REPORT true = 0 ∧
    (let s := owned.with [(F.LUM_MOT_CFG_PIN_EN, 1), (F.LUM_MOT_CFG_EDGE, 3), (F.PAD_CFGn_FUNC 24, 1), (F.PAD_CFGn_IE 24, 1)];
     s.fb F.LUM_MOT_CFG_PIN_EN = true ∧ s.fg F.LUM_MOT_CFG_EDGE = 3 ∧ s.fb F.PAD_HOLD_BANK_A = false ∧ ((s.rd (R.PAD_CFGn 24)).toNat >>> 4) % 4 = 1 ∧ ((s.rd (R.PAD_CFGn 24)).toNat >>> 8) % 2 = 1 ∧ s.pwr.state = .run) := by decide +kernel

theorem witness_MeasureCountSend :
    owned.fb F.MET_CFG_EN = false ∧ (owned.with [(F.MET_CFG_EN, 1), (F.MET_CFG_I2_EN, 1)]).fb F.MET_CFG_EN = true ∧
    owned.live coreA = true ∧ owned.regSyn (owned.owner coreA) (owned.secure coreA) R.MET_CTL true = 0 ∧ owned.regSyn (owned.owner coreA) (owned.secure coreA) R.ADC_CTL true = 0 ∧
    (let s := { owned.with [(F.ADC_CFG_EN, 1), (F.ADC_CFG_SEQ, 128), (F.ADC_STAT_BUSY, 1)] with per := { owned.per with adcLeft := [7], adcSeen := [7] } };
     s.fb F.ADC_STAT_BUSY = true ∧ s.per.adcLeft = [7] ∧ 7 ∈ s.per.adcSeen) ∧
    (∀ t : Fin 4, owned.regSyn (owned.owner coreA) (owned.secure coreA) (R.TMR_CTLt t) true = 0 ∧ owned.fb (F.TMR_STATt_RUNNING t) = false ∧
      owned.regSyn (owned.owner coreA) (owned.secure coreA) (R.SEn_CTL t) true = 0 ∧ owned.regSyn (owned.owner coreA) (owned.secure coreA) (R.SEn_TXD t) true = 0 ∧
      owned.regSyn (owned.owner coreA) (owned.secure coreA) (R.SEn_RXD t) false = 0 ∧ alGet owned.caps (owned.capKey coreA, R.SEn_RXD t) = none ∧ owned.se t = ⟨[], [], 0, 0⟩) ∧
    (let s := owned.with [(F.TMR_CFGt_EN 3, 1), (F.TMR_CFGt_EDGE 3, 3), (F.TMR_STATt_RUNNING 3, 1), (F.TMR_CFGt_CMP1 3, 3)];
     s.fb (F.TMR_STATt_RUNNING 3) = true ∧ s.fb (F.TMR_CFGt_EN 3) = true ∧ s.fg (F.TMR_CFGt_EDGE 3) = 3 ∧ (s.rd (R.TMR_CNTt 3)).toNat ≤ (s.rd (R.TMR_CMP1t 3)).toNat ∧ (s.rd (R.TMR_CMP1t 3)).toNat ≤ (s.rd (R.TMR_TOPt 3)).toNat) ∧
    owned.per.tmrOut.length = 4 ∧ owned.per.se.length = 4 ∧
    (let s := owned.with [(F.SEn_CFG_EN 3, 1), (F.SEn_CFG_MODE 3, 2), (F.SEn_STAT_BUSY 3, 1)];
     s.fb (F.SEn_CFG_EN 3) = true ∧ s.fg (F.SEn_CFG_MODE 3) ≠ 0 ∧ s.fb (F.SEn_STAT_BUSY 3) = true) := by decide +kernel

theorem witness_Supplies :
    (ready.sup.vinPresent = true ∧ State.reset.sup.vinPresent = false ∧ ready.fb F.SUP_STAT_PFW = false ∧ ready.hpHigh = false ∧ (ready.rad .a).act = none) ∧
    (let s := ready.with [(F.SUP_PFW_THR_THR, 95)];
     100 * s.fg F.SUP_PFW_THR_THR = 9500 ∧ s.fb F.SUP_STAT_PFW = false) ∧
    (let s := ready.with [(F.SUP_STAT_PFW, 1)];
     s.fb F.SUP_STAT_PFW = true ∧ s.sup.vinPresent = true) ∧
    (let s := { ready.with [(F.SUP_STAT_CHG, 1)] with sup := { ready.sup with vkeep := 1999 } };
     s.fg F.SUP_STAT_CHG = 1 ∧ s.sup.vkeep < 2000) ∧
    (let s := ready.with [(F.SUP_STAT_CHG, 3), (F.SUP_CHG_ACT_TERM, 1), (F.SUP_CHG_ACT_EN, 1)];
     s.fg F.SUP_STAT_CHG = 3 ∧ s.fb F.SUP_CHG_ACT_TERM = true ∧ s.fb F.SUP_CHG_ACT_EN = true ∧ s.hrt.die < 1680 ∧ s.fb F.SUP_CHG_ACT_NTC_EN = false) ∧
    (let s := ready.with [(F.SUP_CHG_ACT_NTC_EN, 1), (F.SUP_CHG_NTC_COLD, 4095)];
     s.fb F.SUP_CHG_ACT_NTC_EN = true ∧ s.fg F.SUP_CHG_NTC_HOT ≤ 84) ∧
    ready.fb (ioBor 1) = false ∧ (ready.with [(F.SUP_IO_CFG_BOR_B_EN, 1)]).fb (ioBor 1) = true := by decide +kernel

theorem witness_Pins :
    ready.live coreA = true ∧ (∀ n : Fin 64, ready.regSyn (ready.owner coreA) (ready.secure coreA) (R.PAD_CFGn n) true = 0) ∧
    ready.pinOwner 63 = ownNone ∧ ready.pinOwner 14 = ownDebug ∧ isCore (ready.owner coreA) = true ∧ ready.secure coreA = true ∧
    wField (0x01100010 : Word) 26 24 = ready.owner coreA ∧ funcOk 63 1 = true ∧ wField (0x01100010 : Word) 10 9 ≠ 3 ∧ ready.fb F.LCS_DBG_OPEN = false ∧
    (let s := ready.with [(F.PAD_CFGn_OWNER 63, 1), (F.PAD_CFGn_LOCK 63, 1)];
     s.pinOwner 63 = s.owner coreA ∧ s.fb (F.PAD_CFGn_LOCK 63) = true) ∧ (ready.with [(F.PAD_CFGn_OWNER 63, 5)]).pinOwner 63 ≠ ownNone ∧
    (∀ g : Fin 2, ready.regSyn 1 true (R.PAD_OUTSET0 + 4 * (g : Nat)) true = 0 ∧ ready.regSyn 1 true (R.PAD_OUTCLR0 + 4 * (g : Nat)) true = 0 ∧
      ready.regSyn 1 true (R.PAD_OUTTGL0 + 4 * (g : Nat)) true = 0) ∧ ready.regSyn 1 true R.PAD_RELEASE true = 0 ∧ ready.fg F.LUM_OWN_OWNER = ownNone ∧
    (let s := ready.with [(F.PAD_CFGn_IE 31, 1), (⟨R.PAD_CFGn 31, 17, 16⟩, 3)];
     inputOn 31 (s.pinCfg 31) = true ∧ wField (s.pinCfg 31) 17 16 = 3 ∧ s.fb (ioLow 0) = false) ∧
    (let s := (ready.wr R.PWR_WAKE_PIN 0x1000).wr R.PWR_WAKE_EN 0x20;
     wField (s.rd R.PWR_WAKE_PIN) 13 12 = 1 ∧ s.rbit R.PWR_WAKE_EN 5 = true) := by decide +kernel

/-- A STATUS request for transaction 7 of origin 0x0102, without its tag and route octets. -/
def pilotAsk : List Byte := [0x20, 1, 2, 1, 5, 0, 7, 0, 0, 0]

/-- The Pilot runs and RXQ15 holds that request with the tag `t`. -/
def piloting (t : List Byte) : State :=
  let s := ({ ready with coreA := { ready.coreA with pilot := true }
                         vlt := { ready.vlt with keys := [((3, 0), ⟨[], List.replicate 16 1, 0⟩)] } }).with
    [(F.VLT_PGn_SLOTs_VALID 3 0, 1), (F.HRT_Qn_CFG_OWNER 31, ownPilot), (F.HRT_Qn_PROD_IDX 31, 1)]
  let f : List Byte := [0x09, 0x21, 0x25] ++ pilotAsk ++ [0, 0, 0, 0]
  { s with mem := [(descAddr 31 0, 25), (descAddr 31 0 + 1, 0x20), (descAddr 31 0 + 3, 63)] ++ (List.range 25).map (fun i => (bufAddr 63 + 64 + i, if i < 17 then nth f i 0 else nth t (i - 17) 0)) }

theorem piloting_octets (t : List Byte) :
    (piloting t).bytes (bufAddr 63 + 64) 25 =
    [0x09, 0x21, 0x25, 0x20, 1, 2, 1, 5, 0, 7, 0, 0, 0, 0, 0, 0, 0, nth t 0 0, nth t 1 0, nth t 2 0, nth t 3 0, nth t 4 0, nth t 5 0, nth t 6 0, nth t 7 0] := by
  set_option maxRecDepth 20000 in rfl

theorem piloting_parse (t : List Byte) :
    (piloting t).pilotParse ([0x20, 1, 2, 1, 5, 0, 7, 0, 0, 0, 0, 0, 0, 0] ++
      [nth t 0 0, nth t 1 0, nth t 2 0, nth t 3 0, nth t 4 0, nth t 5 0, nth t 6 0, nth t 7 0]) =
    some ⟨1, 0x0102, 5, 7, [], [nth t 0 0, nth t 1 0, nth t 2 0, nth t 3 0, nth t 4 0, nth t 5 0, nth t 6 0, nth t 7 0] ==
      (cmac (List.replicate 16 1) (pilotAsk ++ [0, 0])).take 8⟩ := by
  simp [State.pilotParse, oct, octs, nth, State.pilotTag, ofLe, pilotAsk]
  rfl

theorem list8 : (t : List Byte) → t.length = 8 → [nth t 0 0, nth t 1 0, nth t 2 0, nth t 3 0, nth t 4 0, nth t 5 0, nth t 6 0, nth t 7 0] = t
  | [_, _, _, _, _, _, _, _], _ => rfl

theorem witness_PilotRequests :
    ready.pilotHead = none ∧ ∃ t, (piloting t).pilotHead = some 0 ∧ (piloting t).mg (D.CODE 31 0) = 0 ∧ (piloting t).lifeCycle ≠ lcRetired ∧
      (let o := (piloting t).bytes (bufAddr ((piloting t).mg (D.BUF 31 0)) + 64) ((piloting t).mg (D.LEN 31 0))
       (piloting t).pilotParse (o.drop (payOff (parseMhr o) o)) = some ⟨1, 0x0102, 5, 7, [], true⟩ ∧ (parseMhr o).sec = true) := by
  refine ⟨by decide, (cmac (List.replicate 16 1) (pilotAsk ++ [0, 0])).take 8, by decide +kernel, by decide +kernel, by decide +kernel, ?_⟩
  generalize h : (cmac (List.replicate 16 1) (pilotAsk ++ [0, 0])).take 8 = t
  have w : (piloting t).lw (descAddr 31 0) = w32 0x3F002019 := by
    have r : (piloting t).rb (descAddr 31 0) = 0x19 ∧ (piloting t).rb (descAddr 31 0 + 1) = 0x20 ∧ (piloting t).rb (descAddr 31 0 + 2) = 0 ∧
      (piloting t).rb (descAddr 31 0 + 3) = 0x3F := ⟨rfl, rfl, rfl, rfl⟩
    simp [State.lw, State.ld, r]
  have b : (piloting t).mg (D.BUF 31 0) = 63 := by rw [State.mg, w]; decide
  have l : (piloting t).mg (D.LEN 31 0) = 25 := by rw [State.mg, w]; decide
  have e : t.length = 8 := by rw [← h]; decide +kernel
  have o := piloting_octets t
  simp only [b, l, o]
  refine ⟨Eq.trans ?_ ((piloting_parse t).trans ?_), by simp [parseMhr, octs, ofLe]⟩
  · congr 1; simp [payOff, parseMhr, oct, octs, nth, ofLe, panPresent, addrLen, b2n]
  · rw [list8 t e, h]; simp

theorem witness_PilotCacheIsEmpty (t : List Byte) : (piloting t).pilFind 0x0102 = none := by
  have z : ∀ a, 0x20000000 ≤ a → a < 0x30000000 → (piloting t).rb a = 0 := fun a lo hi => by
    refine rb_unlisted (fun p m => ?_) lo
    have n : (piloting t).mem.map (fun p => p.1) = [descAddr 31 0, descAddr 31 0 + 1, descAddr 31 0 + 3] ++ (List.range 25).map (fun i => bufAddr 63 + 64 + i) := by rfl
    have m : p.1 ∈ (piloting t).mem.map (fun p => p.1) := List.mem_map_of_mem m
    rw [n] at m
    rcases List.mem_append.1 m with m | m
    · simp only [List.mem_cons, List.not_mem_nil, or_false, descAddr, show ¬ (31 : Nat) = 32 by decide, if_false] at m
      omega
    · obtain ⟨i, -, i'⟩ := List.mem_map.1 m
      simp only [bufAddr] at i'
      omega
  have v : ∀ e, e < 4 → (piloting t).ld (pilEntry e) 2 = 0 := fun e h => by
    have a := z (pilEntry e) (by simp only [pilEntry]; omega) (by simp only [pilEntry]; omega)
    have b := z (pilEntry e + 1) (by simp only [pilEntry]; omega) (by simp only [pilEntry]; omega)
    simp [State.ld, a, b]
  have w : ∀ e ∈ List.range 4, ¬ (((piloting t).pilValid e && (piloting t).ld (pilEntry e) 2 == 0x0102) = true) := fun e h => by
    rw [v e (List.mem_range.1 h)]; simp
  exact List.find?_eq_none.2 w

/-- A message of any kind with a body of up to five octets and its own tag is read as that message. -/
theorem witness_PilotKinds (s : State) (k : Byte) (body : List Byte) (n : body = [] ∨ (∃ a, body = [a]) ∨ (∃ a b c, body = [a, b, c]) ∨ ∃ a b c d e, body = [a, b, c, d, e])
    (t : List Byte) (l : t.length = 8) (e : s.pilotTag ([0x20, k, 2, 1, 5, 0, 7, 0, 0, 0] ++ leBytes 2 body.length ++ body) = t) :
    s.pilotParse ([0x20, k, 2, 1, 5, 0, 7, 0, 0, 0, 0, 0] ++ leBytes 2 body.length ++ body ++ t) = some ⟨k.toNat, 0x0102, 5, 7, body, true⟩ := by
  rw [← list8 t l] at e ⊢
  obtain rfl | ⟨a, rfl⟩ | ⟨a, b, c, rfl⟩ | ⟨a, b, c, d, f, rfl⟩ := n <;>
    simp [leBytes] at e <;> simp [State.pilotParse, oct, octs, nth, ofLe, leBytes, e]

theorem crc32Step_lt {c : Nat} (b : Byte) (h : c < 2 ^ 32) : crc32Step c b < 2 ^ 32 := by
  have bit : ∀ c, c < 2 ^ 32 → crc32Bit c < 2 ^ 32 := fun c h => by
    unfold crc32Bit
    split
    · exact Nat.xor_lt_two_pow (by decide) (by omega)
    · omega
  have x : Nat.xor c b.toNat < 2 ^ 32 := Nat.xor_lt_two_pow h (Nat.lt_of_lt_of_le b.isLt (by decide))
  exact bit _ (bit _ (bit _ (bit _ (bit _ (bit _ (bit _ (bit _ x)))))))

theorem crc32_lt (l : List Byte) : crc32 l < 2 ^ 32 := by
  have f : ∀ (l : List Byte) (c : Nat), c < 2 ^ 32 → l.foldl crc32Step c < 2 ^ 32 := fun l => by
    induction l with
    | nil => exact fun _ h => h
    | cons b t ih => exact fun c h => ih _ (crc32Step_lt b h)
  exact Nat.xor_lt_two_pow (by decide) (f l _ (by decide))

theorem bytes_congr {s t : State} (n : Nat) : (a : Nat) → (∀ x, a ≤ x → x < a + n → s.rb x = t.rb x) → s.bytes a n = t.bytes a n := by
  induction n with
  | zero => exact fun _ _ => rfl
  | succ n ih => exact fun a h => by rw [State.bytes, State.bytes, h a (by omega) (by omega), ih (a + 1) (fun x l u => h x (by omega) (by omega))]

/-- The device with cells of memory from 0x28003800 up, where the Pilot's cache begins. -/
def cached (l : List (Nat × Byte)) : State := { ready with mem := l }

theorem cached_rb (l : List (Nat × Byte)) {a : Nat} (h : 0x28000000 ≤ a) : (cached l).rb a = Sparse.get memDefault l a := by
  have f : isFlash a = false := by simp [isFlash]; omega
  have r : ¬ a < 0x40000 := by omega
  simp [State.rb, r, f, cached]

/-- A cached response to transaction 7 of origin 0x0102, but for its CRC. -/
def cacheHead : List (Nat × Byte) := [(0x28003800, 2), (0x28003801, 1), (0x28003802, 7)]

/-- That entry with a CRC. -/
def cacheEntry (c : Nat) : List (Nat × Byte) :=
  cacheHead ++ [(0x28003DFC, BitVec.ofNat 8 c), (0x28003DFD, BitVec.ofNat 8 (c / 256)), (0x28003DFE, BitVec.ofNat 8 (c / 65536)), (0x28003DFF, BitVec.ofNat 8 (c / 16777216))]

theorem cacheEntry_valid (c : Nat) (lt : c < 2 ^ 32) (h : crc32 ((cached cacheHead).bytes 0x28003800 1532) = c) : (cached (cacheEntry c)).pilValid 0 = true := by
  have same : (cached (cacheEntry c)).bytes 0x28003800 1532 = (cached cacheHead).bytes 0x28003800 1532 := bytes_congr _ _ fun x lo hi => by
    rw [cached_rb _ (by omega), cached_rb _ (by omega)]
    simp only [cacheEntry, cacheHead, List.cons_append, List.nil_append, Sparse.get]
    repeat' split
    all_goals first | rfl | omega
  have crc : (cached (cacheEntry c)).ld 0x28003DFC 4 = c := by
    simp [State.ld, cached_rb, cacheEntry, cacheHead, Sparse.get]
    omega
  simp [State.pilValid, pilEntry, same, crc, h]

theorem cacheEntry_head (c : Nat) : (cached (cacheEntry c)).ld (pilEntry 0) 2 = 0x0102 ∧ (cached (cacheEntry c)).ld (pilEntry 0 + 2) 4 = 7 := by
  simp [State.ld, pilEntry, cached_rb, cacheEntry, cacheHead, Sparse.get, memDefault, isFlash]

theorem witness_PilotCached : ∃ s : State, s.pilFind 0x0102 = some 0 ∧ s.ld (pilEntry 0 + 2) 4 = 7 :=
  ⟨cached (cacheEntry (crc32 ((cached cacheHead).bytes 0x28003800 1532))), by
    have v := cacheEntry_valid _ (crc32_lt ((cached cacheHead).bytes 0x28003800 1532)) rfl
    simp [State.pilFind, List.range, List.range.loop, v, (cacheEntry_head _).1], (cacheEntry_head _).2⟩

/-- The host port runs on UART with its identity enabled; it owns queues 0 and 16 and key page 6. -/
def hosting : State := ready.with [(⟨R.KND_OPTn 8, 3, 3⟩, 1), (F.HST_STAT_MODE, 1), (F.HST_OWN_OWNER, 1), (F.HST_STAT_READY, 1), (F.HRT_Qn_CFG_OWNER 0, ownHost), (F.HRT_Qn_CFG_OWNER 16, ownHost),
  (F.VLT_PGn_OWN_OWNER 6, ownHost)]

theorem witness_HostPort :
    hosting.hostUp = true ∧ ready.hostUp = false ∧ hosting.hst.port.last = none ∧ hostLen 0x01 0 = true ∧ hostLen 0x01 3 = false ∧
    octs [0, 0x09, 0x3D, 0] 0 4 = 4000000 ∧ octs [0x80, 0x25, 0, 0] 0 4 = 9600 ∧ octs [0, 0xFC, 0x17, 0x20, 0, 1] 0 4 + 4 * octs [0, 0xFC, 0x17, 0x20, 0, 1] 4 2 = 0x20180000 ∧
    hosting.eccBad = [] ∧ hosting.memSyn ownHost false 0x10000000 true ≠ 0 ∧ hosting.sup.lost = false ∧
    hosting.fg (F.HRT_Qn_CFG_OWNER 0) = ownHost ∧ hosting.hrt.bufHolder.length = 64 ∧ hosting.fg F.HRT_BUF_FREE_RX_RESERVE < hosting.freeBufs.length ∧
    (hosting.fg (F.HRT_Qn_PROD_IDX 0) + 128 - hosting.fg (F.HRT_Qn_RECL_IDX 0)) % 128 < 64 ∧ hosting.fg (F.HRT_Qn_CFG_OWNER 1) ≠ ownHost ∧
    (hosting.with [(F.HRT_Qn_PROD_IDX 0, 64)]).fg (F.HRT_Qn_PROD_IDX 0) = 64 ∧
    hosting.fg (F.HRT_Qn_CFG_OWNER 16) = ownHost ∧ (hosting.inRing 16 63 && hosting.mb (D.VERDICT 16 63)) = false ∧
    (let s := (hosting.with [(F.HRT_Qn_PROD_IDX 16, 1)]).mp (D.VERDICT 16 0) 1;
     (s.inRing 16 0 && s.mb (D.VERDICT 16 0)) = true) ∧
    hosting.pageOwner 6 = ownHost ∧ hosting.pageOwner 7 = ownNone ∧ hosting.fb ⟨R.VLT_PGn_OWN 7, 31, 31⟩ = false ∧
    (let s := { hosting.with [(F.HST_STAT_MODE, 0)] with hst := { hosting.hst with port := { hosting.hst.port with reset := some true } } };
     s.hostOn = true ∧ s.fg F.HST_STAT_MODE ≠ 1 ∧ s.hst.port.reset = some true ∧ s.rst.deferred = [] ∧ (s.hst.port.out.drop 0).all (fun f => f.note) = true) := by decide +kernel

/-- A plain session on the service port. -/
def session (n : Nat) : State := ready.with [(F.SVC_STAT_SESSION, n)]

theorem witness_ServicePort :
    ready.svcUp = true ∧ State.reset.svcUp = false ∧ (session 2).session = 2 ∧ (session 2).lifeCycle = lcMfg ∧ (session 2).svc.port.wait = none ∧
    (session 2).svc.port.last = none ∧ (session 2).rst.running = none ∧ svcLen 0x01 0 = true ∧ svcLen 0x10 1 = false ∧ ready.session = 0 ∧ (session 1).session = 1 ∧
    (session 3).session = 3 ∧ (session 3).svc.tagFails < 2 ∧ ready.fb F.LCS_DBG_CHAL_VALID = false ∧ ready.trngFail = false ∧
    (session 2).fb F.LCS_STATE_OWNER_SET = false ∧ octs [0xC0, 0xC6, 0x2D, 0] 0 4 = 3000000 ∧ (session 2).eccBad = [] ∧
    (session 2).memSyn ownSvc true 0x10000000 true ≠ 0 ∧ (session 2).csOk .upd ownSvc true = true ∧ (session 2).uState = uIdle ∧ (session 2).uRefusal = 0 ∧
    ((session 2).fp F.UPD_STAT_STATE uReceiving).uLow = false ∧ ((session 2).fp F.UPD_STAT_STATE uReceiving).pkFree = some 1 ∧
    (session 2).stgOk .config ownSvc = true ∧ (session 2).csOk .ashRd ownSvc true = true ∧ (session 2).ash.clr = none ∧ (session 2).uLow = false ∧
    (session 2).supplyOk = true ∧ (session 2).csOk .knd ownSvc true = true ∧ (session 2).pilotRuns = false ∧
    ((session 2).with [(F.LCS_STATE_STATE, lcRetired)]).lifeCycle = lcRetired ∧
    ({ session 2 with coreA := { (session 2).coreA with pilot := true } }.pilotRuns = true) := by decide +kernel

theorem witness_StepGivesAState : (∃ t, step ready = .next t) ∧ ∃ t, step { ready with pending := [.dimFault] } = .next t := ⟨⟨_, rfl⟩, _, rfl⟩

theorem witness_Invariants : ready.resetsTaken = true ∧ ready.hostTold = true ∧ Memory.wf ready.mem = true := by decide +kernel

/-! ## Worked figures of the spec -/

/-- The acknowledgement airtimes of the example after Table 5-3. -/
theorem test_airtime_ack : airtime ⟨3, 8, false, 2047, 0, 0⟩ 48 = 3200 ∧ airtime ⟨0x5A, 8, false, 2047, 0, 0⟩ 48 = 9240 := by decide +kernel

/-- The gathered acknowledgement of the example after Table 3-8, and the 1,000-octet frame of the example after R187. -/
theorem test_airtime_frames : airtime ⟨3, 8, false, 2047, 0, 0⟩ 77 = 4747 ∧ airtime ⟨2, 8, false, 2047, 0, 0⟩ 1000 = 80960 := by decide +kernel

/-- The guard of the example after R120: the terms 10 µs, 9.6 µs and 228.48 µs beside e = 18 µs. -/
theorem test_guard_example : isqrt (10000 * 10000 + 9600 * 9600 + 228480 * 228480) / 10 = 22890 ∧
    2 * (18000 + 3 * isqrt (10000 * 10000 + 9600 * 9600 + 228480 * 228480)) / 1000 = 1409 := by decide +kernel

/-- The lanes of the example in chapter 6: list 0 to 16, channel 8 excluded, position 6. -/
theorem test_gather_lanes : lanesOf (List.range 17) [8] 21600000 2 6 = [6, 7, 9, 10, 11, 12] ∧ chanOf (List.range 17) [8] 21600000 4 false = 9 ∧
    chanOf (List.range 17) [8] 21600000 4 true = 8 := by decide +kernel

/-- Block 100's page 17 of the example in chapter 11. -/
theorem test_flash_addresses : blockAddr 100 + 0x100 * 17 = 0x10641100 ∧ blockOf 0x10641100 = 100 := by decide

/-- The check value of the CRC-32, and the S-box and product examples of FIPS 197. -/
theorem test_check_values : crc32 [0x31, 0x32, 0x33, 0x34, 0x35, 0x36, 0x37, 0x38, 0x39] = 0xCBF43926 ∧ gfDbl 0x57 = 0xAE ∧ aesSub 0x53 = 0xED := by
  decide +kernel

/-! ## Commands, one step each -/

/-- An offset no register map lists ignores a write (R7). -/
theorem test_register_decode : after (.registerWrite coreA 0x40001FF0 .word 1) ready (fun t => (t.bus.fault, t.rd 0x40001FF0)) = some (0, 0) := by decide +kernel

/-- A word written to the last word of the shared SRAM is there (R19). -/
theorem test_memory_write : after (.memoryAccess coreA 0x2017FFFC .word (.write 0x12345678) .none) ready (fun t => (t.rb 0x2017FFFC, t.rb 0x2017FFFF)) =
    some (0x78, 0x12) := by decide +kernel

/-- A free block is claimed by writing the writer's own identity; core B cannot claim what core A owns (R24). -/
theorem test_ownership : after (.ownershipWrite coreA R.LUM_OWN 1) ready (fun t => t.fg F.LUM_OWN_OWNER) = some 1 ∧
    after (.ownershipWrite (.coreB true) R.LUM_OWN 2) owned (fun t => t.fg F.LUM_OWN_OWNER) = some 1 := by decide +kernel

/-- PULSE_B while RLY_A is pulsing, with PAIR 1, is refused (R434, the example in chapter 15). -/
theorem test_relay_pair : after (.relayPulse coreA 1 0x00000002) (owned.with [(F.LUM_RLY_CFG_PAIR, 1), (F.LUM_STAT_PULSE_A, 1), (F.LUM_STAT_RLY_A, 1)])
    (fun t => (t.fg F.LUM_EVT_WERR, t.fg F.LUM_STAT_PULSE_B, t.fg F.LUM_STAT_RLY_A)) = some (1, 0, 1) := by decide +kernel

/-- A ramp's middle step: 0 to 4095 in 100 steps is 2048 after step 50 (R432). -/
theorem test_dim_ramp : after .dimRampStep { owned with per := { owned.per with dim := ⟨0, 4095, 49, 100, false⟩ } } (fun t => t.fg F.LUM_DIM_ACT_LEVEL) =
    some 2048 := by decide +kernel

/-- The photocell's reading 1,104 turns the zone LOW (the example in chapter 15). -/
theorem test_adc_limit :
    after (.adcSequenceDone [1104]) { owned.with [(F.ADC_CFG_EN, 1), (F.ADC_STAT_BUSY, 1), (F.ADC_LIMk_HI 0, 2240), (F.ADC_LIMk_LO 0, 1120), (adcZone 0, 1)] with
        per := { owned.per with adcLeft := [0], adcSeen := [0] } } (fun t => (t.fg (adcZone 0), t.fg F.ADC_EVT_LIMIT, t.fg (F.ADC_RESk_RES 0))) = some (0, 1, 1104) := by
  decide +kernel

/-- A negative active power lowers the energy (R438): −7,200 W for 200 ms is −400 µWh. -/
theorem test_met_negative : after (.metPublish ⟨230000, 31000000, 0, -7200000, 0, 5000, true, -400000000, 0, false⟩) (owned.with [(F.MET_CFG_EN, 1)])
    (fun t => (t.rd R.MET_E1_LO, t.rd R.MET_E1_HI, t.fg F.MET_STAT_FREQ)) = some (0xFFFFFE70, 0xFFFFFFFF, 5000) := by decide +kernel

/-- A timer's overflow in one-shot mode leaves the count at TOP (R440). -/
theorem test_timer_oneshot : after (.tmrOverflow 1) ((owned.with [(F.TMR_CFGt_EN 1, 1), (F.TMR_STATt_RUNNING 1, 1)]).wr (R.TMR_TOPt 1) 99)
    (fun t => (t.rd (R.TMR_CNTt 1), t.fg (F.TMR_STATt_RUNNING 1))) = some (99, 0) := by decide +kernel

/-- A seventeenth octet overruns the receive FIFO of a serial engine (R446). -/
theorem test_serial_overrun : after (.seRxOctet 2 0x55 false false) { owned.with [(F.SEn_CFG_EN 2, 1)] with
      per := { owned.per with se := owned.per.se.set 2 ⟨[], List.replicate 16 0xAA, 0, 0⟩ } } (fun t => (t.fg (F.SEn_EVT_OVERRUN 2), (t.se 2).rx.length)) = some (1, 16) := by
  decide +kernel

/-- VIN falls below the power-fail threshold of 20.0 V (the example in chapter 16). -/
theorem test_power_fail : after (.powerFailWarning 19999) (ready.with [(F.SUP_PFW_THR_THR, 200)]) (fun t => (t.fg F.SUP_STAT_PFW, t.vinOk)) = some (1, false) ∧
    after (.powerFailWarning 20000) (ready.with [(F.SUP_PFW_THR_THR, 200)]) (fun t => t.fg F.SUP_STAT_PFW) = some 0 := by decide +kernel

/-- A falling edge reaches IO31's flag where EDGE selects falling edges, and a rising one does not (R447). -/
theorem test_pad_edge : after (.padEdge 31 false) (ready.with [(F.PAD_CFGn_IE 31, 1), (⟨R.PAD_CFGn 31, 17, 16⟩, 2)]) (fun t => t.rd R.PAD_EDGE0) = some 0x80000000 ∧
    after (.padEdge 31 true) (ready.with [(F.PAD_CFGn_IE 31, 1), (⟨R.PAD_CFGn 31, 17, 16⟩, 2)]) (fun t => t.rd R.PAD_EDGE0) = some 0 := by decide +kernel

/-- OUTSET on a pin of another owner changes nothing (R448). -/
theorem test_pad_set : after (.padOutSet coreA 0 0x00000030) (ready.with [(F.PAD_CFGn_OWNER 4, 1), (F.PAD_CFGn_SEC 4, 1), (F.PAD_CFGn_OWNER 5, 2)])
    (fun t => t.rd R.PAD_OUT0) = some 0x10 := by decide +kernel

/-- ERASE is accepted at a block's first address only (R334). -/
theorem test_flash_erase : after (.flashErase coreA 1) (ready.wr (R.FLC_ADDRs 1) 0x10280000) (fun t => (t.fg (F.FLC_RESs_STATE 1), t.flc.running.isSome || t.flc.queue.length == 1)) =
    some (1, true) := by decide +kernel

/-- A queue index 65 past the reclaim index is refused with IERR (R58). -/
theorem test_queue_index : after (.queueProdWrite coreA 3 65) (ready.with [(F.HRT_Qn_CFG_OWNER 3, 1)]) (fun t => (t.fg (F.HRT_Qn_STAT_IERR 3), t.fg (F.HRT_Qn_PROD_IDX 3))) =
    some (1, 0) := by decide +kernel

/-- The 10 ms of a command set end and WRITER is NONE again (R163). -/
theorem test_command_set_lapse : after (.commandSetLapse .nbr) { ready.with [(CsId.nbr.writer, 1)] with cs := [.nbr] } (fun t => (t.fg CsId.nbr.writer, t.cs)) =
    some (7, []) := by decide +kernel

/-- A step takes the command at the front of the queue and leaves the rest. -/
theorem test_step_takes_front : (match step { ready with pending := [.daliBusUp, .dimFault] } with
  | .next t => some (t.fg F.LUM_STAT_BUS_UP, t.fg F.LUM_EVT_DIM_FAULT, t.pending.length)
  | _ => none) = some (1, 0, 1) := by decide +kernel

/-- The host's PING becomes the previous command (R408). -/
theorem test_host_ping : after (.hostPing 9 []) hosting (fun t => t.hst.port.last) = some (some (9, 1)) := by decide +kernel

/-- A service command outside a session answers STATE (Table 14-2). -/
theorem test_svc_state : after (.svcStatus 4 []) (session 0) (fun t => t.svc.port.out) = some [⟨false, 4, 0x10, [6]⟩] := by decide +kernel

/-- RST_SOFT with its key is cause 0b0_1010 (Table 10-1); a wrong key sets ERR and resets nothing. -/
theorem test_soft_reset : after (.softReset coreA 0x5E7A0001) ready (fun t => t.fg F.RST_CAUSE_CAUSE) = some 10 ∧
    after (.softReset coreA 0x5E7B0001) ready (fun t => (t.rst.running.isSome, t.fg ⟨R.RST_EVT, 0, 0⟩)) = some (false, 1) := by decide +kernel

/-! ## Further clauses of the statements -/

/-- The open debug port. -/
def debugging : State := ready.with [(F.LCS_DBG_OPEN, 1)]

/-- A flash step runs in a bank. -/
def stepping (bank : Nat) (s : State) : State :=
  { s with flc := { s.flc with running := some ⟨⟨1, .erase (3 + 64 * bank), false, 1, 3, true, false, false, false⟩, .eraseStep⟩ } }

theorem witness_InterruptTargets :
    (debugging.live .debug = true ∧ debugging.owner .debug = ownDebug ∧ debugging.regSyn ownDebug (debugging.secure .debug) (R.INT_CFGn 95) true = 0) ∧
    ((session 2).live .svc = true ∧ (session 2).owner .svc = ownSvc ∧ (session 2).regSyn ownSvc ((session 2).secure .svc) (R.INT_CFGn 95) true = 0) ∧
    ready.ownsSource 1 95 = true ∧ ready.ownsSource 1 0 = false := by decide +kernel

theorem witness_DmaBeatUnpaced : dmaReady.dmaPaced (dmaReady.dch 15) = false := by decide +kernel

theorem witness_SetsWaitInRecovery :
    let s := synced.with [(F.HRT_STAT_STATE, hRecovering), (SetId.schedule.state, 1), (SetId.config.state, 1), (SetId.charger.state, 1)];
    s.recovering = true ∧ s.fg SetId.charger.state = 1 ∧ s.fg SetId.charger.when = 0 := by decide +kernel

theorem witness_SnapshotRefusals :
    (let s := { ready with part := .dnl7210 };
      s.hasB = false ∧ Tl.ofBit (wField (0x00000101 : Word) 8 8) = .b ∧ wField (0x00000101 : Word) 3 0 ≠ 0) ∧
    (let s := ready.with [(F.HRT_SNAP_STAT_STATE, 2)];
      s.fg F.HRT_SNAP_STAT_STATE = 2 ∧ s.hasB = true) := by decide +kernel

theorem witness_HearthStartWaitsForFlash :
    let s := stepping 0 { ready with rst := { ready.rst with released := true } };
    s.rst.released = true ∧ s.bankBusy 0 = true ∧ s.fg F.HRT_STAT_STATE = hOff := by decide +kernel

theorem witness_RecoveryEnds :
    let s := { synced.with [(F.HRT_STAT_STATE, hRecovering)] with hrt := { synced.hrt with saved := hSynced } };
    s.upd.due = false ∧ ∀ y ∈ SetId.all, s.fg y.state ≠ 1 := by decide +kernel

theorem witness_ArmedBoundary :
    let s := synced.mTl .a (fun x => { x with arm := some ⟨true, none, none, none, 0, [], false, false, false, false, false, 0, [], none⟩ });
    ∃ a, (s.tlx .a).arm = some a ∧ a.done = true ∧ a.cal = false ∧ a.listen = false ∧ a.cell = none ∧ a.others = [] := ⟨_, rfl, rfl, rfl, rfl, rfl, rfl⟩

theorem witness_JoinWindow :
    (let s := ready.with [(F.HRT_STAT_STATE, hJoining)];
      s.joining .a = true ∧ s.fblRuns .a = false ∧ s.hrt.fatal = false ∧ s.radioState .a ≠ rClkFail ∧ s.radioState .a ≠ rTest ∧ s.radioRests .a = true) ∧
    (let s := { synced with hrt := { synced.hrt with tls := [{ TlSt.init with resync := some (0, 0) }, TlSt.init] } };
      s.resyncPattern .a = true ∧ s.fblRuns .a = false) := by decide +kernel

/-- The same action in a slot that has the cell. -/
def actCell (e : Nat) (a : TxAct) (st : Nat) : State :=
  (acting a st).mTl .a (fun x => { x with cur := some ⟨true, some e, none, none, 3, [3], false, false, false, false, false, 0, [], none⟩ })

theorem witness_ListeningBeforeSending :
    (let a := frame (.desc 15 63) .ready
     let s := actCell 0x20000000 a rReady;
     ((s.listens .a a).1 || (s.listens .a a).2) = true ∧ s.hrt.fatal = false ∧ s.vcoOk .a = true ∧ s.radioState .a ∉ [rClkFail, rCal, rTest, rLocking, rOff, rTx]) ∧
    (let s := ((moded.with [(F.RFA_STAT_STATE, rClkFail), (F.HRT_Qn_CFG_EN 15, 1), (F.HRT_Qn_CFG_IMM 15, 1), (F.HRT_Qn_PROD_IDX 15, 1)]).mp (D.ST 15 0) 1);
     s.qTl 15 = .a ∧ s.radioState .a = rClkFail ∧ (s.queued 15).head? = some 0 ∧ (s.rad .a).act = none) := by decide +kernel

/-- The configuration in use has one sub-band, 1 ms an hour with a reserve of one half, and it is used up but for the reserve. -/
def rationed (s : State) : State :=
  { s with hrt := { s.hrt with cfg := { s.hrt.cfg with ledger := [⟨0, 3000000, true, 1, 5000⟩] }, ledger := [[(1, 1000)]] } }

theorem witness_FramesRefusedAndBusy :
    (let a := { frame (.desc 15 63) .ready with clear := true }
     let s := rationed (acting a rReady);
     (s.rad .a).act = some a ∧ s.listened .a a = true ∧ s.ledgerOk .a 7 (s.airOf .a 0 a.psdu) a.kind.resp = false ∧ s.interimOk .a 7 (s.actMode .a a) = true ∧
      s.hpStarved .a 7 0 ⟨0, 0, 5000, 3000⟩ = false) ∧
    (let a := frame (.desc 15 63) .cca
     let s := actCell 0x20000000 a rRxSc;
     ((s.listens .a a).1 && [(s.rssiOf 0, false)].any (ccaBusy ((s.tc .a).radio.ccaMode) (s.tc .a).radio.edThr)) = true ∧
      (∀ c, (s.tlx .a).cur = some c → c.tk = none) ∧ ∀ p, a.kind.descOf = some p → p.1 ≤ fwdQ) ∧
    (let s := acting (frame (.desc 15 63) .tuning) rLocking;
     (s.rad .a).act = some (frame (.desc 15 63) .tuning) ∧ s.descChild 15 63 = none ∧ (s.tlx .a).cur = none) ∧
    (Config.paMin (pathNo .a false) ≤ Config.paMin (pathNo .a false)) := by
  refine ⟨by decide +kernel, ⟨by decide +kernel, fun c h => ?_, fun p h => ?_⟩, by decide +kernel, Int.le_refl _⟩
  · cases h; rfl
  · cases h; decide

/-- The slot's cell is a gather reception with one frame listed, and frames under it are protected by slot 0. -/
def gathering : State :=
  let s := moded.mTl .a (fun x => { x with cur := some ⟨true, some 0x500000000, none, none, 3, [3], false, false, false, false, false, 0, [], none⟩, gclosed := true,
                                           gath := [⟨0, 5, 6, false, 0, none⟩] })
  let s := { s with hrt := { s.hrt with cfg := { s.hrt.cfg with tls := s.hrt.cfg.tls.map (Option.map (fun (c : TlCfg) => { c with link := { c.link with gatherKey := some 0 } })) } } }
  (s.wr (R.LCE_CEILs 0) 65536).with [(F.RFA_CALi_VALID 0, 1)]

theorem witness_Gathering :
    let s := gathering;
    ((s.tlx .a).cur.bind (·.cell)).any (fun e => cAct e == actGatherRx) = true ∧ (s.tc .a).link.gatherKey = some 0 ∧ (s.tlx .a).gclosed = true ∧ (s.tlx .a).gath ≠ [] ∧
    (s.rad .a).act = none ∧ s.hrt.fatal = false ∧ s.radioMute .a = false ∧ (s.takeCounter 0).1 = .ok (s.ctr 0) ∧
    (let r := (s.mTl .a (fun x => { x with gath := [] })).takeCounter 0
     let o := r.2.gackFrame (s.tlx .a).gath 0 (s.ctr 0)
     r.2.ledgerOk .a 3 (r.2.airOf .a 0 o) true = true ∧ r.2.hpStarved .a 3 0 ⟨0, 0, 5000, 3000⟩ = false) := by decide +kernel

theorem witness_AcknowledgementOverLimit :
    let d : AckDue := ⟨7, 0, [2, 0, 9], none, false, false, false, 0⟩
    let s := rationed { (synced.with [(F.RFA_CALi_VALID 0, 1)]) with hrt := { synced.hrt with radios := [{ RadioSt.init with ackDue := [d] }, RadioSt.init] } };
    (s.rad .a).ackDue = [d] ∧ s.radioMute .a = false ∧ s.hpStarved .a 7 0 ⟨0, 0, 5000, 3000⟩ = false ∧ (s.rad .a).act = none ∧
    (d.viaFbl && (false || (s.rad .a).act.isSome || s.rsvBusy .a)) = false ∧ s.ledgerOk .a 7 (s.airOf .a 0 d.psdu) true = false := by decide +kernel

theorem witness_RadioTests :
    (let s := ready.wr R.RFA_TEST_FREQ 868000;
     s.testOk .a 0x80000000 = true ∧ wBit (0x80000000 : Word) 31 = true ∧ s.fg F.HRT_STAT_STATE = hOff ∧ s.lifeCycle = lcMfg) ∧
    (let s := ready.with [(F.RFA_STAT_STATE, rTest)];
     wBit (0 : Word) 31 = false ∧ s.radioState .a = rTest) ∧ synced.fg F.HRT_STAT_STATE ≠ hOff ∧ synced.fg F.HRT_STAT_STATE ≠ hNoConfig ∧
    (let s := ready.with [(F.CLK_STAT_XO_FAIL, 1), (F.RFA_STAT_CLKFAIL, 1)];
     s.fb F.CLK_STAT_XO_FAIL = true ∧ s.fb F.RFA_STAT_CLKFAIL = true) ∧
    (let s := ready.with [(F.RFA_STAT_STATE, rFbl), (F.RFA_FBL_GAIN_GAIN, 54)];
     s.fg (Tl.a.f F.RFA_FBL_GAIN_GAIN) = 54 ∧ (∀ k ∈ List.range 32, s.uSt .a k ≠ 3) ∧ unitCount .a = 32) := by decide +kernel

/-- A window of 2-FSK is reserved on the last output. -/
def windowed : State := (searched.mRad .a (fun r => { r with winOpen := true })).with [(F.RFA_FBL_UNITu_STATE 31, 1), (F.RFA_FBL_UNITu_LOW 31, 31), (F.RFA_FBL_UNITu_OUT 31, 139), (F.RFA_FBL_UNITu_RSV 31, 1), (F.RFA_FBL_UNITu_PHY 31, 0x20)]

theorem witness_PreambleInWindow :
    windowed.radioState .a = rFbl ∧ windowed.leaks .a 139 0 (-80) 5 = false ∧ windowed.outServes .a 139 = false ∧ windowed.outWindow .a 139 = some 31 := by decide +kernel

/-- A neighbour in an entry with a short address and an extended address 0, held in both indexes, with an admission. -/
def withNbr (s : State) (n sa adm : Nat) : State :=
  let s := (((s.mp (N.V n) 1).mp (N.SHORT n) sa).mp (N.SHV n) 1).mp (N.ADM n) adm
  { s with hrt := { s.hrt with shortIdx := [(2 * s.bucketShort sa .a, n)], extIdx := [(2 * s.bucketExt 0 .a, n)] } }

theorem witness_BlockedSourceAndEarlyQueue :
    (let s := withNbr (receiving .dest) 9 5 admBlocked
     let m := parseMhr [0x41, 0xA8, 7, 0xFF, 0xFF, 0xFF, 0xFF, 5, 0];
     s.srcNbr .a m = some 9 ∧ s.mg (N.ADM 9) = admBlocked ∧ s.fb (Tl.a.f F.RFA_FBL_CFG_DRAIN) = false) ∧
    (∃ x, (receiving .aux).rxAt .a none = some x ∧ x.stage = .aux ∧ x.early = none) :=
  ⟨by decide +kernel, _, rfl, rfl, rfl⟩

theorem witness_NeighbourIndexes :
    (let s := withNbr ready 1023 5 admAdded;
     s.lookExt s.nbrArgExt .a = some 1023 ∧ s.mb (N.V 1023) = true ∧ s.mb (N.TS 1023) = false ∧ s.fb F.HRT_NBR_SHORT_SV = false) ∧
    (let s := ready.with [(F.HRT_NBR_SHORT_SV, 1)];
     s.fb F.HRT_NBR_SHORT_SV = true ∧ s.lookShort (s.fg F.HRT_NBR_SHORT_SHORT) .a = none) ∧
    (let s := { ready.wr R.HRT_NBR_ADDR_LO 1 with hrt := { ready.hrt with extIdx := (idxPlaces (ready.bucketExt 1 .a)).map (fun p => (p, 3)) } };
     s.lookExt s.nbrArgExt .a = none ∧ idxFree s.hrt.extIdx (s.bucketExt s.nbrArgExt .a) = none) ∧
    (let s := { ready.mp (N.V 1023) 1 with hrt := { ready.hrt with shortIdx := (idxPlaces (ready.bucketShort 0 .a)).map (fun p => (p, 3)) } };
     s.lookShort 0 .a = none ∧ idxFree (s.hrt.shortIdx.filter (fun x => x.2 != 1023)) (s.bucketShort 0 .a) = none) := by decide +kernel

theorem witness_ChildTableFull :
    let l := (List.range 512).map (fun c => (c + 5, c));
    ∀ c, c < 512 → ∃ k ∈ l, k.2 = c := fun c h => ⟨(c + 5, c), List.mem_map.2 ⟨c, List.mem_range.2 h, rfl⟩, rfl⟩

theorem witness_AgesWaitInRecovery :
    let s := synced.with [(F.HRT_STAT_STATE, hRecovering)];
    s.recovering = true ∧ synced.recovering = false ∧ (∀ p ∈ synced.hrt.kids, p.2 < 512) ∧
    (let u := { ready with cs := [CsId.upd], upd := { ready.upd with keep := true } };
     u.upd.keep = true) := by decide +kernel

theorem witness_CamMove :
    let s := { ready with hrt := { ready.hrt with extIdx := [(1024, 0)] } };
    ∃ x ∈ s.hrt.extIdx, 1024 ≤ x.1 ∧ ∃ w, w < 2 ∧ ∀ y ∈ s.hrt.extIdx, y.1 ≠ 2 * s.bucketExt (s.nbrExt x.2) (s.nbrTl x.2) + w :=
  ⟨(1024, 0), by decide, by decide, 0, by decide, by decide +kernel⟩

theorem witness_KeySizesAndStuckCounters :
    (let s := ready.with [(F.VLT_PGn_SLOTs_MASK 6 7, 255)];
     wBit (0x40000000 : Word) 30 = true ∧ s.fg (F.VLT_PGn_SLOTs_MASK 6 7) = 255) ∧
    (let s := { ready with rsv := { ready.rsv with writing := some [0], stuckAt := [(3, 0)] }, rtc := { ready.rtc with ember := 32768 } };
     s.rsv.writing.isSome = true ∧ s.rsvStuck = [3]) := by decide +kernel

/-- A root-wrapped blob of core A for a vault whose wrap keys are sixteen 1s and sixteen 2s. -/
def blob : List Byte := wrapBlob (List.replicate 32 1) (List.replicate 32 2) [1, 1, 0, 0, 0, 0, 0, 0] (List.replicate 16 3) (List.replicate 32 4)

/-- A command of core A in progress, its input at the start of bank 8. -/
def running (op page : Nat) : VaultJob := ⟨op, 1, page, 2, 0x20100000, 64, 0x20110000, 1, true, List.replicate 16 7⟩

/-- A vault with that command, its wrap keys in place. -/
def vaulting (op page : Nat) (input : List Byte) : State :=
  let s := { ready with vlt := { ready.vlt with job := some (running op page), keys := [((5, 0), ⟨[], List.replicate 32 1, 0⟩), ((5, 1), ⟨[], List.replicate 32 2, 0⟩)] } }
  (s.with [(F.VLT_PGn_OWN_OWNER 6, 1)]).putOctets 0x20100000 input

theorem witness_Unwrap : (vaulting 3 6 blob).jobDenied (running 3 6) = false ∧ jobLenOk (running 3 6) = true ∧ (vaulting 3 6 blob).jobBus (running 3 6) = true := by
  decide +kernel

theorem witness_UnwrapOpens : ((vaulting 3 6 blob).openRoot ((vaulting 3 6 blob).bytes 0x20100000 64)).map (fun p => blobOwner p.1) = some 1 := by decide +kernel

theorem witness_UnwrapRefused : (vaulting 3 7 []).jobDenied (running 3 7) = true ∧ (vaulting 3 6 []).openRoot ((vaulting 3 6 []).bytes 0x20100000 64) = none := by
  decide +kernel

/-- A context that has ended all but its last step while the other waits. -/
def verifying (last : Nat) (abort : Bool) (other : Option PkJob) : State :=
  { ready.with [(F.VLT_PK_PROGc_LO 1, last)] with vlt := { ready.vlt with pk := [other, some ⟨0x20100000, false, 1, true, abort, []⟩], pkStep := true, pkLast := 1 } }

theorem witness_VerifySteps :
    (∀ l ∈ [1, 14], ∀ a ∈ [false, true], (verifying l a none).pkWaits 1 ⟨0x20100000, false, 1, true, a, []⟩ = false) ∧
    (verifying 1 false none).pkBus ⟨0x20100000, false, 1, true, false, []⟩ = true ∧ (verifying 1 false none).pkBus ⟨0x40000000, false, 1, true, false, []⟩ = false ∧
    (let s := stepping 0 { verifying 14 false none with upd := { ready.upd with ctx := some 1 } };
     s.pkWaits 1 ⟨0x20100000, false, 1, true, false, []⟩ = true) ∧ (verifying 14 false none).upd.ctx = none ∧ (verifying 14 false none).pwr.entry = none ∧
    (verifying 14 false (some ⟨0x20110000, false, 1, true, true, []⟩)).pkJob (1 - 1) = some ⟨0x20110000, false, 1, true, true, []⟩ := by decide +kernel

/-- An owner's public key whose private key is 0x1234567890ABCDEF. -/
def ownerKey : List Byte := beBytes 64 0x9fad84aeae08bbef7f010014d82cef6a09de2b0cf871b5ce0c4f1d13a59a593407cb45769f1070e2c2470fe5b1bfe63133c0b0cdc64ea4bf3791a8ec2a07fd4f

/-- A SEAL token of that owner for the challenge 0x01020304 to 0x0D0E0F10. -/
def sealToken : List Byte := [2, 0, 0, 0, 0, 0, 0, 0, 0, 0, 0, 0, 0, 0, 0, 0, 1, 2, 3, 4, 5, 6, 7, 8, 9, 10, 11, 12, 13, 14, 15, 16] ++ List.replicate 32 0 ++ ownerKey ++
  beBytes 64 0x84c02a9ff288e2d9c5ce5df126519417e7268cbaab72da7cfe40f93acb86ad02c757b9456207c1e044f3938f72ccf25e4403ab9d065ebf6c2d143d42d6df1d99

/-- That owner's digest is set and that challenge is valid. -/
def challenged : State :=
  ([(R.LCS_OWNER_HASHn 0, (0x991e176a : Word)), (R.LCS_OWNER_HASHn 1, (0x624319cc : Word)), (R.LCS_OWNER_HASHn 2, (0x145e6280 : Word)), (R.LCS_OWNER_HASHn 3, (0xef08e221 : Word)), (R.LCS_OWNER_HASHn 4, (0x0624c50e : Word)), (R.LCS_OWNER_HASHn 5, (0x2fbfe213 : Word)), (R.LCS_OWNER_HASHn 6, (0x0c420d31 : Word)), (R.LCS_OWNER_HASHn 7, (0x5060aa42 : Word)),
    (R.LCS_CHALn 0, (0x01020304 : Word)), (R.LCS_CHALn 1, (0x05060708 : Word)), (R.LCS_CHALn 2, (0x090a0b0c : Word)), (R.LCS_CHALn 3, (0x0d0e0f10 : Word))].foldl (fun s p => s.wr p.1 p.2) ready).with [(F.LCS_STATE_OWNER_SET, 1), (F.LCS_DBG_CHAL_VALID, 1)]

theorem witness_TokenIsValid : challenged.tokenCheck sealToken 2 zeroArg = 0 := by decide +kernel

theorem witness_DebugHalts :
    debugging.live .debug = true ∧ debugging.secure .debug = true ∧ (debugging.core .a).started = true ∧ (debugging.regSyn ownDebug true R.LCS_CMD true) = 0 ∧
    (∀ r ∈ debugging.rst.deferred, r.cause ≠ 1) ∧ debugging.optFail = false := by decide +kernel

/-- A task of the lamp or a timer is held for channel 7, which is the owner's. -/
def holding (own : Nat) : State :=
  let s := (owned.with [(F.FLU_CHc_CFG_OWNER 7, own), (F.FLU_CHc_CFG_SEC 7, 1), (F.FLU_CHc_CFG_EN 7, 1), (F.TMR_CFGt_EN 2, 1)]).wr (R.FLU_CHc_TSK 7) 0x1A
  { s with flue := { s.flue with held := [⟨7, 3, [0x1A]⟩] } }

theorem witness_HeldTasks :
    ((holding 1).flueOff = false ∧ (holding 1).flueBanked = false ∧ (holding 1).flue.held = [⟨7, 3, [0x1A]⟩] ∧ (holding 1).taskPermitted 7 0x1A = true ∧
      (holding 1).tmrRuns 2 = false ∧ (holding 1).fb (F.TMR_CFGt_EN 2) = true) ∧ (holding 2).taskPermitted 7 0x1A = false ∧
    (let s := { ready with pwr := { ready.pwr with state := .cinder } };
     s.flueOff = true) := by decide +kernel

theorem witness_TasksDeniedBusyAndStamped :
    (let s := flueReady 0x18;
     ¬ (taskListed 0x18 = true ∧ s.taskSyn 1 true 0x18 = 0)) ∧
    (let s := (flueReady 0x1A).with [(F.TMR_OWN_OWNER, 1), (F.TMR_STATt_RUNNING 2, 1)];
     taskListed 0x1A = true ∧ s.taskSyn 1 true 0x1A = 0 ∧ s.taskBusy 0x1A = true) ∧
    (let s := (flueReady 0x70).with [(F.HRT_STAT_STATE, hSynced), (F.HRT_STAT_SYNC_A, 1)];
     taskListed 0x70 = true ∧ s.taskSyn 1 true 0x70 = 0 ∧ s.runs .a = true) ∧
    (let s := ready.with [(F.FLU_CHc_CFG_OWNER 47, 1), (F.FLU_CHc_CFG_SEC 47, 1), (F.FLU_CHc_CFG_EN 47, 1)];
     s.regSyn 1 true (R.FLU_CHc_CFG 47) true = 0 ∧ s.fg (F.FLU_CHc_CFG_OWNER 47) = s.owner coreA ∧ s.fb (F.FLU_CHc_CFG_EN 47) = true ∧
       wField (0x81100048 : Word) 7 0 ≠ s.fg (F.FLU_CHc_CFG_EVENT 47)) := by decide +kernel

/-- Both cores run; core B has joined for a state, and core A asks for a mode. -/
def entering (mode : Nat) (st : JoinMode) (limit banks : Nat) : State :=
  let s := (ready.with [(F.PWR_CORE_A_MODE, mode), (F.PWR_CORE_B_MODE, 1), (F.PWR_BUDGET_LIMIT, limit)]).wr R.PWR_RET (w32 banks)
  { s with coreB := { s.coreB with started := true, held := false, joined := some st, gated := true } }

theorem witness_EntryOutcomes :
    (let env : DamperEnv := ⟨400, 0xFFFFFFFF, false, false, false, false⟩
     let s := entering 1 .banked 1600 0xFFF;
     s.coreRuns .a = true ∧ s.coreMode .a = 1 ∧ s.joinOf .b = some .banked ∧ s.pwr.entry = none ∧ (∀ k ∈ responders, s.answerOf k env = .grant) ∧
      min (s.drawSum (tempBand env.temp)) 4095 ≤ s.fg F.PWR_BUDGET_LIMIT ∧ s.coreIrq .a = false ∧
      (let j := s.setCore .a { s.core .a with joined := some .banked, gated := true };
       j.resumeOk .a = false ∧ (j.wr R.PWR_RESUME_A 0x20000000).resumeOk .a = true ∧ (j.wr R.PWR_RESUME_B 0x20080000).resumeOk .b = true)) ∧
    (let s := entering 1 .banked 200 0xFFF;
     s.fg F.PWR_BUDGET_LIMIT < min (s.drawSum (tempBand 900)) 4095) ∧ (entering 2 .cinder 1600 0).joinOf .b = some .cinder ∧ (ready.coreMode .b = 0) := by decide +kernel

/-- Watchdog of a core, enabled and at 0, while an image of that core is in a state. -/
def barking (c : CoreId) (st : Nat) : State :=
  ((ready.with [(F.UPD_STAT_STATE, st), (F.UPD_STAT_IDLE_CORE, c.bit)]).wr (wdtCfg c) 0x80000000).wr (wdtCfg c + 8) 0

theorem witness_WatchdogOfTheNewCore :
    ((barking .b uProbation).rbit (wdtCfg .b) 31 = true ∧ (barking .b uProbation).rd (wdtCfg .b + 8) = 0 ∧ (barking .b uProbation).uState = uProbation ∧
      (barking .b uProbation).uNew = .b) ∧
    ((barking .b uShadow).uShadowing = true ∧ (barking .b uShadow).uNew = .b ∧ (barking .b uShadow).rst.running = none) ∧
    (ready.with [(F.SUP_IO_CFG_BOR_A_EN, 1)]).fb F.SUP_IO_CFG_BOR_A_EN = true ∧ ready.pwr.state ≠ .banked := by decide +kernel

/-- The header of an image of version 5 whose one segment is eight octets of 0xFF, in a unit whose blocks are programmed. -/
def withUnit (u : Nat) (s : State) : State :=
  let h := leBytes 4 0x4B420001 ++ leBytes 4 5 ++ leBytes 4 0 ++ leBytes 4 8 ++ List.replicate 12 0 ++ List.replicate 4 0xFF ++ beBytes 32 0x12a3ae445661ce5dee78d0650d33362dec29c4f82af05e7e57fb595bbbacf0ca
  { (s.mBlk (64 * u) (fun b => { b with ptr := 1 })).mBlk (64 * u + 2) (fun b => { b with ptr := 1 }) with
    mem := (List.range 64).map (fun i => (unitHdr u + i, nth h i 0)) ++ (List.range 4).map (fun i => (unitHdr u + 0xFC + i, nth (leBytes 4 0xA33CA681) i 0)) ++ s.mem }

theorem test_unit_header : (withUnit 0 ready).hdrOk 0 = true ∧ (withUnit 0 ready).lengthsOk 0 = true ∧ (withUnit 0 ready).unitProgrammed 0 = true := by decide +kernel

theorem witness_Boot :
    (let s := withUnit 0 { ready with coreA := { ready.coreA with started := false, held := true } };
     s.hdr (s.fg F.KND_BOOT_CORE) 0x0C = 8 ∧ s.fb F.KND_STAT_DONE = true ∧ s.coreA.started = false ∧ s.coreB.started = false ∧ s.lifeCycle ≠ lcRetired ∧ s.optFail = false ∧
      s.fb F.FLC_PROT_NONE = false ∧ s.fb F.LCS_STATE_OWNER_SET = false ∧ s.rst.released = false) ∧
    (ready.with [(F.FLC_PROT_NONE, 1)]).fb F.FLC_PROT_NONE = true ∧ ready.rbit (wdtCfg .a) 31 = false ∧ (ready.with [(F.LCS_STATE_STATE, lcRetired)]).lifeCycle = lcRetired := by
  decide +kernel

/-- An erase of block 64 by SVC's slot is at a step; `b`: its BEGIN line is written, `v`: the block has verified. -/
def erasing (k : StepKind) (b v c : Bool) (lines : Nat) : State :=
  let l := List.replicate lines ⟨1, .begin, 1⟩
  { ready with flc := { ready.flc with ready := true, running := some ⟨⟨1, .erase 64, false, 1, 3, b, c, false, v⟩, k⟩ }
               info := { ready.info with jrn0 := { ready.info.jrn0 with lines := l }, jrn1 := { ready.info.jrn1 with lines := l } } }

theorem witness_EraseSteps :
    ((erasing .jrnErase false false false jrnLines).flcMayStart = true ∧ jrnLines ≤ (erasing .jrnErase false false false jrnLines).jrn.lines.length) ∧
    ((erasing .eraseStep true false false 1).flcMayStart = true ∧ (erasing .eraseStep true false false 1).jrn.lines.length < jrnLines) ∧
    (let s := { erasing .eraseStep true false false 1 with rst := { ready.rst with deferred := [⟨5, true⟩] } };
     s.flcMayStart = false) ∧ (∀ k ∈ [StepKind.jrnErase, .jrnSum, .jrnBegin, .eraseStep, .jrnEnd], (erasing k true true true 0).flc.blocks.length = 128) ∧
    ((erasing .jrnBegin false false false 0).blk 64).count ≠ 0xFFFFFF := by decide +kernel

theorem witness_FlashQueriesAndPauses :
    (let s := (ready.wr (R.FLC_ADDRs 1) 0x10000000).wr (R.FLC_SRCs 1) 0x10000001;
     isFlash (s.rd (R.FLC_ADDRs 1)).toNat = true ∧ blockOf (s.rd (R.FLC_ADDRs 1)).toNat = 0 ∧ isFlash (s.rd (R.FLC_SRCs 1)).toNat = true) ∧
    ready.busOk 1 true 0x40000000 256 false = false ∧
    (let s := { ready with flc := { ready.flc with pause := [(1, (true, true))] } };
     s.flcPauseOf 1 = (true, true)) := by decide +kernel

theorem witness_AshRateClearAndReads :
    (let s := { ready with ash := { ready.ash with swRate := [(1, (ready.sec, 64))] } };
     (alGet s.ash.swRate 1).getD (s.sec, 0) = (s.sec, 64)) ∧
    (let s := { ready with ash := { ready.ash with clr := some ⟨1, false, 0, false, false, false⟩ } };
     s.ash.clr.isSome = true) ∧ ready.uLow = false ∧ { ready with sup := { ready.sup with vkeep := 1500, vin := 0, vinPresent := false } }.uLow = true ∧
    0 < ready.tokenCheck [] 6 zeroArg ∧ ready.tokenCheck [] 6 zeroArg < 16 ∧
    (let s := { ready with ash := { ready.ash with ready := true, oldest := 2, next := 9, readReq := some 5, buf := [⟨5, 0, 0, 0x8000, 1, 0, 0, 0, 0⟩] } };
     s.ash.readReq = some 5 ∧ s.ash.oldest ≤ 5 ∧ 5 < s.ash.next ∧ (s.ashFind 5).isSome = true ∧ s.ashFind 6 = none) ∧
    (let s := { ready with ash := { ready.ash with ready := true, buf := [⟨5, 0, 0, 0x8000, 1, 0, 0, 0, 0⟩] } };
     s.ash.buf ≠ [] ∧ s.ash.flush = none ∧ s.pwr.entry = none ∧ (s.blk s.ashActive).ptr < 256) := by decide +kernel

theorem witness_FlashProgramPage :
    isFlash 0x10002000 = true ∧ 0x10002000 % 256 = 0 ∧ (ready.blk (blockOf 0x10002000)).suspect = false ∧ ready.flc.torn.contains (pageOf 0x10002000) = false := by decide +kernel

/-- The update engine receives a stream, its source in bank 8. -/
def receivingU (off next : Nat) : State :=
  (ready.with [(F.UPD_STAT_STATE, uReceiving), (F.UPD_LEN_LEN, 256), (F.UPD_OFF_OFF, off), (F.UPD_NEXT_NEXT, next)]).wr R.UPD_SRC 0x20100000

theorem witness_UpdateOperationsWait :
    (let s := stepping 0 ready;
     s.noCopy = true ∧ (∀ op ∈ [1, 2, 5, 6], s.uOpWaits op 1 = true) ∧ ∀ op ∈ [1, 2, 5, 6], ready.uOpWaits op 1 = false) ∧
    ready.uRefusal = 0 ∧ (ready.fp F.FLC_PROT_LOCK 1).imageTarget = (ready.fp F.FLC_PROT_LOCK 1).imageTarget ∧ synced.bankBusy 0 = false := by decide +kernel

theorem witness_UpdateWrites :
    (let s := receivingU 0 0;
     s.uState = uReceiving ∧ s.uLow = false ∧ s.fg F.UPD_LEN_LEN = 256 ∧ s.memOk 1 true 0x20100000 256 false = true ∧ s.bytes 0x20100000 0 = s.bytes (s.uAddr 0) 0) ∧
    (let s := receivingU 0 256;
     s.bytes 0x20100000 256 ≠ s.bytes (s.uAddr 0) 256 ∧ s.bankBusy (blockOf (s.uAddr 0) / 64) = false ∧ (stepping (blockOf (s.uAddr 0) / 64) s).bankBusy (blockOf (s.uAddr 0) / 64) = true) ∧
    (let s := (receivingU 0 256).wr R.UPD_SRC 0x40000000;
     s.memOk 1 true 0x40000000 256 false = false) ∧
    (let s := { (receivingU 0 256).wr R.UPD_SRC (w32 ((receivingU 0 256).uAddr 0)) with eccBad := [] };
     s.bytes (s.rd R.UPD_SRC).toNat 256 = s.bytes (s.uAddr 0) 256) ∧ { receivingU 0 0 with sup := { ready.sup with vkeep := 1500, vin := 0, vinPresent := false } }.uLow = true := by
  decide +kernel

/-- END's check holds context 1, which is at its last step. -/
def checking (abort : Bool) (s : State) : State :=
  { s.with [(F.UPD_STAT_STATE, uVerifying), (F.VLT_PK_PROGc_LO 1, 1)] with
    upd := { s.upd with ctx := some 1 }, vlt := { s.vlt with pk := [none, some ⟨0x10000000, false, 1, true, abort, []⟩], pkStep := true, pkLast := 1 } }

theorem witness_UpdateEnds :
    (let s := receivingU 0 0;
     s.uBankBusy = false ∧ s.uSigned = false ∧ s.uKind = 0 ∧ s.hdrOk s.uTarget = false) ∧
    (let s := withUnit 0 (receivingU 0 0);
     s.uTarget = 0 ∧ s.fb F.LCS_STATE_OWNER_SET = false ∧ s.fg F.FLC_PROT_UNIT = 0 ∧ s.hrt.cfg.upd.downgrade = false ∧ s.hdr 0 4 = 5 ∧ s.fb F.FLC_PROT_NONE = false) ∧
    ((receivingU 0 0).fp F.FLC_PROT_UNIT 1).hdr 1 4 = 0xFFFFFFFF ∧ ((withUnit 0 (receivingU 0 0)).fp F.FLC_PROT_NONE 1).fb F.FLC_PROT_NONE = true ∧
    ((withUnit 0 (receivingU 0 0)).with [(F.LCS_STATE_OWNER_SET, 1)]).imageCheck 0 (unitSlot 0) (unitSlot 0) ≠ 0 ∧
    (let s := (withUnit 0 (receivingU 0 0)).with [(F.LCS_STATE_OWNER_SET, 1)];
     s.uSigned = true ∧ s.pkFree = some 1 ∧ s.vlt.pk.length = 2 ∧ s.pwr.entry = none) ∧
    (let s := (withUnit 0 (receivingU 0 0)).with [(F.LCS_STATE_OWNER_SET, 1), ((CsId.pk 0).writer, 1), ((CsId.pk 1).writer, 1)];
     s.uSigned = true ∧ s.pkFree = none) ∧ (stepping 0 (receivingU 0 0)).uBankBusy = true ∧
    (∀ a ∈ [false, true], (checking a ready).pkWaits 1 ⟨0x10000000, false, 1, true, a, []⟩ = false ∧ (checking a ready).uState = uVerifying ∧
      (checking a ready).fg (F.VLT_PK_PROGc_LO 1) ≤ (checking a ready).fg (F.VLT_PK_PROGc_HI 1) + 1) ∧
    ((receivingU 0 0).with [(F.UPD_STAT_KIND, 1)]).uKind = 1 ∧ ((receivingU 0 0).with [(F.UPD_STAT_KIND, 1)]).configFormat = false := by decide +kernel

/-- A verified image with the Pilot running. -/
def installable : State := { ready.with [(F.UPD_STAT_STATE, uVerified)] with coreA := { ready.coreA with pilot := true } }

theorem witness_InstallAndIdle :
    installable.uState = uVerified ∧ installable.uKind = 0 ∧ installable.coreA.pilot = true ∧ installable.uRefusal = 0 ∧ installable.info.sel0.length < 16 ∧ installable.selSector = 0 ∧
    { installable.info with sel0 := List.replicate 16 none }.sel0.length = 16 ∧ { ready with upd := { ready.upd with keep := true } }.upd.keep = true ∧
    ready.regSyn 1 true R.UPD_CMD true = 0 ∧ ready.csOk .upd 1 true = true ∧ (ready.fp F.UPD_STAT_STATE uImport).uShadowing = true := by decide +kernel

/-- The running image is core A's and a verified image waits for core B; the mailbox is at the start of bank 8. -/
def startable : State :=
  { withUnit 1 (ready.with [(F.UPD_STAT_STATE, uVerified), (F.UPD_STAT_IDLE_CORE, 1), (F.UPD_STAT_TARGET, 1)]) with
    hrt := { ready.hrt with cfg := { ready.hrt.cfg with upd := { ready.hrt.cfg.upd with mbox := 0x20100000 } } } }

theorem witness_StartAndLoad :
    (startable.uState = uVerified ∧ startable.uKind = 0 ∧ startable.idleCore = .b ∧ startable.coreA.started = true ∧ startable.coreA.pilot = false ∧ startable.coreB.held = true ∧
      startable.uRefusal = 0 ∧ startable.seg1 (startable.fg F.FLC_PROT_UNIT) = true ∧ startable.seg1 startable.uTarget = false ∧ startable.uOpWaits 5 0 = false) ∧
    (let s := startable.fp F.FLC_PROT_UNIT 1;
     s.seg1 1 = false) ∧ (stepping 0 startable).uOpWaits 5 0 = true ∧
    (let s := startable.with [(F.UPD_STAT_STATE, uLoading)];
     s.uState = uLoading ∧ s.bankBusy s.uTarget = false ∧ s.hdr s.uTarget 0x0C = 8 ∧ sha256 (s.bytes (unitSlot 1) 8) = s.bytes (unitHdr 1 + 0x20) 32) ∧
    (let s := (startable.with [(F.UPD_STAT_STATE, uLoading)]).mMem ((unitSlot 1, (0 : Byte)) :: ·);
     sha256 (s.bytes (unitSlot 1) 8) ≠ s.bytes (unitHdr 1 + 0x20) 32) := by decide +kernel

/-- The idle core is core B and the update is in a state. -/
def handing (st : Nat) : State := (ready.with [(F.UPD_STAT_STATE, st), (F.UPD_STAT_IDLE_CORE, 1)])

theorem witness_Handover :
    (∀ st ∈ [uShadow, uExport, uImport, uSwap], (handing st).uShadowing = true ∧ (handing st).uState = st) ∧ (handing uShadow).uOld.owner = 1 ∧ (handing uShadow).uNew.owner = 2 ∧
    (handing uExport).bankBusy 0 = false ∧ (stepping 0 (handing uExport)).bankBusy 0 = true ∧ (handing uImport).noBoundary = true ∧ (handing uImport).uRefusal = 0 ∧
    (handing uImport).ownBusy .a = false ∧ (dmaReady.with [(F.DMA_CHn_STAT_STATE 15, 1)]).ownBusy .a = true ∧
    ((handing uImport).with [(F.HRT_STAT_STATE, hSynced), (F.HRT_STAT_SYNC_A, 1)]).noBoundary = false ∧ ready.regSyn 2 true R.UPD_HAND true = 0 ∧
    { handing uImport with sup := { ready.sup with vkeep := 1500, vin := 0, vinPresent := false } }.uRefusal ≠ 0 := by decide +kernel

theorem witness_CommitWaitAndRetry :
    (let s := ready.with [(F.UPD_STAT_STATE, uProbation), (F.UPD_STAT_COMMIT_WAIT, 1)];
     s.uState = uProbation ∧ s.fb F.UPD_STAT_COMMIT_WAIT = true) ∧
    (let s := ready.with [(F.UPD_STAT_STATE, uCommit)];
     s.uState = uCommit ∧ s.flc.queue = [] ∧ s.flc.running = none ∧ s.flc.suspended = none) := by decide +kernel

/-- A forward frame is being sent, the second of two still to come. -/
def sendingDali (left fwd tries : Nat) (abort : Bool) : State :=
  { owned.with [(F.LUM_DALI_CFG_EN, 1), (F.LUM_STAT_BUS_UP, 1), (F.LUM_DALI_RES_STATE, 1)] with
    per := { owned.per with dali := { owned.per.dali with fwd := w32 fwd, tries := tries, abort := abort, tx := some ⟨24, 0x123456, 1, left⟩ } } }

theorem witness_DaliOutcomes :
    (∀ left ∈ [1, 2], (sendingDali left 0 0 false).per.dali.tx.any (fun x => decide (2 ≤ x.left)) = decide (left = 2)) ∧
    (sendingDali 1 0x80000000 2 true).per.dali.abort = true ∧ (sendingDali 1 0x80000000 2 true).pwr.state = .run ∧
    (let s := owned.with [(F.LUM_DALI_CFG_EN, 1), (F.LUM_STAT_BUS_UP, 1)];
     s.fb F.LUM_STAT_BUS_UP = true ∧ s.fg F.LUM_DALI_RES_STATE ≠ 1) ∧
    (let s := { owned.with [(F.LUM_DALI_CFG_EN, 1)] with per := { owned.per with dali := { owned.per.dali with rx := List.replicate 4 ⟨0, 1, 2⟩ } } };
     s.per.dali.rx.length = 4) ∧ { owned with pwr := { owned.pwr with state := .banked } }.pwr.state ≠ .run := by decide +kernel

theorem witness_RelayModesAndFaults :
    (owned.rlyPulseMode 1 = false ∧ owned.fb (rlyPulsing 1) = false) ∧ (owned.with [(rlyPulsing 1, 1)]).fb (rlyPulsing 1) = true ∧
    (owned.with [(rlyFault 1, 1)]).fb (rlyFault 1) = true ∧ wBit (0x00000003 : Word) 1 = true ∧
    (let s := (owned.with [(F.PAD_HOLD_BANK_A, 1), (F.LUM_MOT_CFG_PIN_EN, 1), (F.LUM_MOT_CFG_EDGE, 3)]);
     s.fb F.PAD_HOLD_BANK_A = true ∧ (alGet s.pwr.hold.cfg 24).getD 0 = 0) := by decide +kernel

/-- Timer 3 counts edges on IO7 and captures on some of them. -/
def countingEdges (edge prescale top cnt : Nat) : State :=
  ((owned.with [(F.TMR_CFGt_EN 3, 1), (F.TMR_CFGt_SRC 3, 2), (F.TMR_CFGt_EDGE 3, edge), (F.TMR_CFGt_PRESCALE 3, prescale), (F.TMR_STATt_RUNNING 3, 1),
    (F.PAD_CFGn_FUNC 7, 2), (F.PAD_CFGn_IE 7, 1)]).wr (R.TMR_TOPt 3) (w32 top)).wr (R.TMR_CNTt 3) (w32 cnt)

theorem witness_TimerEdges :
    (∀ e ∈ [0, 3], (countingEdges e 0 5 5).tmrIn 3 = some 7 ∧ (countingEdges e 0 5 5).fg (F.TMR_CFGt_SRC 3) = 2 ∧ (countingEdges e 0 5 5).per.tmrPre.length = 4) ∧
    (countingEdges 0 0 5 4).fg (F.TMR_CFGt_PRESCALE 3) < nth (countingEdges 0 0 5 4).per.tmrPre 3 0 + 1 ∧
    ¬ (countingEdges 0 3 5 4).fg (F.TMR_CFGt_PRESCALE 3) < nth (countingEdges 0 3 5 4).per.tmrPre 3 0 + 1 ∧
    ((countingEdges 0 0 9 5).rd (R.TMR_CNTt 3)).toNat + 1 < ((countingEdges 0 0 9 5).rd (R.TMR_TOPt 3)).toNat ∧
    (∀ k : Fin 2, ((countingEdges 0 0 9 5).tmrCmp 3 k).toNat ≠ 6) ∧
    (let s := (countingEdges 3 0 9 5).with [(F.TMR_CFGt_SRC 3, 0)];
     s.fg (F.TMR_CFGt_SRC 3) ≠ 2 ∧ s.fg (F.TMR_CFGt_EDGE 3) = 3) ∧ owned.tmrIn 3 = none := by decide +kernel

theorem witness_AdcParts :
    let s := { owned.with [(F.ADC_CFG_EN, 1), (F.ADC_CFG_SEQ, 3), (F.ADC_STAT_BUSY, 1)] with per := { owned.per with adcLeft := [0, 1] } };
    s.fb F.ADC_STAT_BUSY = true ∧ s.per.adcLeft.length ≤ [1, 2].length ∧ [1].length < s.per.adcLeft.length ∧ 7 ∉ s.per.adcSeen ∧
    (owned.with [(F.ADC_CFG_EN, 1)]).fg F.ADC_CFG_SEQ = 0 := by decide +kernel

/-- Serial engine 3 moves a transfer in a mode. -/
def transferring (mode left want : Nat) : State :=
  { owned.with [(F.SEn_CFG_EN 3, 1), (F.SEn_CFG_MODE 3, mode), (F.SEn_STAT_BUSY 3, 1)] with per := { owned.per with se := owned.per.se.set 3 ⟨[1, 2], [], left, want⟩ } }

theorem witness_SerialTransfers :
    (∀ m ∈ [1, 2], (transferring m 2 1).fb (F.SEn_STAT_BUSY 3) = true ∧ (transferring m 2 1).fb (F.SEn_CFG_EN 3) = true ∧ (transferring m 2 1).fg (F.SEn_CFG_MODE 3) = m) ∧
    ((transferring 2 2 1).se 3).rx.length + 1 ≤ 16 ∧
    (let s := (transferring 0 0 0).with [(F.SEn_STAT_BUSY 3, 0)];
     s.fb (F.SEn_STAT_BUSY 3) = false ∧ s.fb (F.SEn_CFG_TXGATE 3) = false ∧ (s.se 3).tx ≠ []) ∧
    (let s := { owned with per := { owned.per with se := owned.per.se.set 3 ⟨List.replicate 16 0, List.replicate 16 0, 0, 0⟩ } };
     (s.se 3).tx.length = 16 ∧ (s.se 3).rx.length = 16) := by decide +kernel

theorem witness_PinsOfOwners :
    (∀ o ∈ [ownNone, 1, 4, ownHearth, ownDebug], (ready.with [(F.PAD_CFGn_OWNER 14, o)]).pinOwner 14 = o) ∧ funcOk 63 3 = false ∧
    debugging.fb F.LCS_DBG_OPEN = true ∧ wField (0x06100010 : Word) 26 24 ≠ 1 ∧
    (let s := { (ready.wr R.PWR_WAKE_EN 0x60).wr R.PWR_WAKE_PIN 0x1000 with pwr := { ready.pwr with state := .cinder } };
     s.pwr.state = .cinder ∧ s.rbit R.PWR_WAKE_EN 6 = true ∧ s.rbit R.PWR_WAKE_EN 5 = true ∧ wField (s.rd R.PWR_WAKE_PIN) 13 12 = 1) ∧
    { ready with pwr := { ready.pwr with state := .banked } }.pwr.state = .banked := by decide +kernel

theorem witness_ChargerLevels :
    (let s := ready.with [(F.SUP_CHG_ACT_EN, 1), (F.SUP_STAT_CHG, 4)];
     s.fb F.SUP_CHG_ACT_EN = true ∧ s.sup.vinPresent = true ∧ s.fb F.SUP_STAT_PFW = false ∧ s.hrt.die < 1680 ∧ s.hpHigh = false ∧ s.fb F.SUP_CHG_ACT_NTC_EN = false ∧
      s.fg F.SUP_STAT_CHG = 4) ∧ (ready.with [(F.SUP_CHG_ACT_NTC_EN, 1), (F.SUP_CHG_ACT_EN, 1), (F.SUP_STAT_CHG, 2)]).fg F.SUP_STAT_CHG = 2 := by decide +kernel

theorem witness_HostPortReset :
    let s := { hosting with hst := { hosting.hst with port := { hosting.hst.port with reset := some false, last := some (9, 1), cache := some ⟨false, 9, 1, [0]⟩ } } };
    s.hst.port.reset = some false ∧ s.fg F.HST_STAT_MODE = 1 ∧ s.hostStopped = false ∧ s.sup.lost = false ∧ s.hst.port.last = some (9, 1) ∧
    s.hst.port.rx = [] ∧ s.hst.port.skip = 0 ∧ s.hst.port.deaf = false ∧ (hosting.with [(F.HRT_Qn_CFG_SEC 0, 1)]).fb (F.HRT_Qn_CFG_SEC 0) = true ∧
    (hosting.with [(F.HRT_BUF_FREE_RX_RESERVE, 62)]).freeBufs.length ≤ (hosting.with [(F.HRT_BUF_FREE_RX_RESERVE, 62)]).fg F.HRT_BUF_FREE_RX_RESERVE := by decide +kernel

theorem witness_ServicePortReset :
    let s := { session 2 with svc := { (session 2).svc with port := { (session 2).svc.port with reset := some true } } };
    s.svc.port.reset = some true ∧ s.svcUp = true ∧ s.sup.lost = false ∧ s.svc.port.rx = [] ∧ s.svc.port.skip = 0 ∧ s.svc.port.deaf = false ∧
    (session 2).lenOk true 0x10 0 = true ∧ (session 2).startCode ≠ 0 ∧ startable.startCode = 11 ∧ (startable.fp F.FLC_PROT_UNIT 1).startCode = 0 ∧
    (session 2).uOpWaits 1 1 = false ∧ (session 2).fg F.HRT_STAT_STATE ≠ hNoConfig := by decide +kernel

/-- LOCK of an unowned block and of an unowned pin (log 96). -/
theorem witness_LockedUnowned :
    (let s := ready.with [(⟨R.HST_OWN, 31, 31⟩, 1), (F.PAD_CFGn_OWNER 63, ownNone), (F.PAD_CFGn_LOCK 63, 1)];
     s.fg ⟨R.HST_OWN, 2, 0⟩ = ownNone ∧ s.fb ⟨R.HST_OWN, 31, 31⟩ = true ∧ s.pinOwner 63 = ownNone ∧ s.fb (F.PAD_CFGn_LOCK 63) = true ∧
     s.live coreA = true ∧ s.secure coreA = true ∧ isCore (s.owner coreA) = true) ∧
    ready.fb ⟨R.HST_OWN, 31, 31⟩ = false ∧ ready.fb (F.PAD_CFGn_LOCK 63) = false := by decide +kernel

/-- An ABORT takes back a page of WRITE and leaves a LOCK's record (log 93). -/
theorem test_abort_leaves_lock_record :
    (let c := fun tag => (⟨reqUpd, .erase 12, false, tag, 0, false, false, false, false⟩ : FlashCmd);
     let s := ready.mFlc (fun f => { f with queue := [c tWrite, c tLock] });
     (s.flcCancelOf FlashCmd.ofStream).flc.queue = [c tLock]) := by decide +kernel

theorem test_wf_refuses_1 : ([
      .registerWrite (.dma 16) 0 .word 0, .registerWrite .svc (2 ^ 32) .word 0, .memoryAccess (.dma 16) 0 .word .read .none,
      .memoryAccess .svc (2 ^ 32) .word .read .none, .ownershipWrite (.dma 16) 0 0, .ownershipWrite .svc (2 ^ 32) 0,
      .clearOnRead (.dma 16) 0, .clearOnRead .svc (2 ^ 32), .counterLowRead (.dma 16) 0, .counterLowRead .svc (2 ^ 32),
      .activeSetCaptureRead (.dma 16) 0, .activeSetCaptureRead .svc (2 ^ 32), .intClaim (.dma 16) .a, .intDone (.dma 16) .a 0,
      .intDoorbell (.dma 16) 0, .intCfgWrite (.dma 16) 0 0, .dmaClaim (.dma 16) 0 0, .dmaStart (.dma 16) 0, .dmaStop (.dma 16) 0,
      .dmaAbort (.dma 16) 0, .rtcAlarmLoWrite (.dma 16) 0, .rtcAlarmHiWrite (.dma 16) 0, .stagedWrite (.dma 16) .wall 0 0,
      .stagedWrite .svc .wall 16 0, .commitGo (.dma 16) .wall 0, .commitCancel (.dma 16) .wall, .snapshotRequest (.dma 16) 0,
      .snapshotRelease (.dma 16), .slotBoundary .a ⟨false, false, false⟩ (2 ^ 32), .lockstepRecovery false (2 ^ 32),
      .queueProdWrite (.dma 16) 0 0, .queueReclWrite (.dma 16) 0 0, .queueFlush (.dma 16) 0, .bufferAlloc (.dma 16),
      .bufferReturn (.dma 16) 0, .descriptorWrite (.dma 16) 0 0 0 0, .immediateTransmit 0 256 0, .immediateTransmit 0 0 16,
      .immediateLockTimeout .a (2 ^ 32), .ccaComplete .a ⟨[128], []⟩ 0] : List Instr).all (fun c => !c.wf) = true := by decide +kernel

theorem test_wf_refuses_2 : ([
      .ccaComplete .a ⟨[], []⟩ (2 ^ 32), .txStart .a (2 ^ 32) 0 ⟨0, 0, 0, 0⟩, .txStart .a 0 (2 ^ 32) ⟨0, 0, 0, 0⟩,
      .txLockTimeout .a (2 ^ 32), .txEnd .a (2 ^ 32), .ackWindowClose .a (2 ^ 32), .rxWindowClose .a (2 ^ 32),
      .preambleDetected .a 0 256 0 0, .preambleDetected .a 0 0 128 0, .preambleDetected .a 0 0 0 (2 ^ 32), .sfdDetected .a none 256 0 0 0,
      .sfdDetected .a none 0 (2 ^ 32) 0 0, .sfdDetected .a none 0 0 128 0, .sfdDetected .a none 0 0 0 32768,
      .phrReceived .a none 2048 0 false false false 0, .phrReceived .a none 0 256 false false false 0,
      .phrReceived .a none 0 0 false false false (2 ^ 32), .frameControlReceived .a none ⟨[], 2 ^ 32⟩,
      .destinationReceived .a none ⟨[], 2 ^ 32⟩, .sourceLookup .a none ⟨[], 2 ^ 32⟩, .auxHeaderReceived .a none ⟨[], 2 ^ 32⟩,
      .frameEnd .a none [] false (2 ^ 32), .dieSample (-32769), .scheduleCellEdit (.dma 16) 0, .scheduleSfEdit (.dma 16) 0,
      .pendingFrameTransmit .a false (2 ^ 32) 0 ⟨0, 0, 0, 0⟩, .pendingFrameTransmit .a false 0 (2 ^ 32) ⟨0, 0, 0, 0⟩,
      .exclHoldExpiry .a 256, .nbrAdd (.dma 16) 0, .nbrRemove (.dma 16) 0, .nbrPin (.dma 16) 0, .nbrUnpin (.dma 16) 0,
      .nbrBlock (.dma 16) 0, .nbrLookup (.dma 16) 0, .nbrSetShort (.dma 16) 0, .nbrAddChild (.dma 16) 0, .nbrDelChild (.dma 16) 0,
      .commandSetWrite (.dma 16) .nbr 0 0, .commandSetWrite .svc (.pk 2) 0 0, .commandSetWrite .svc .nbr 16 0] : List Instr).all (fun c => !c.wf) = true := by decide +kernel

theorem test_wf_refuses_3 : ([
      .commandResultRead (.dma 16) .nbr, .commandResultRead .svc (.pk 2), .commandSetLapse (.pk 2), .calibrationEnd .a false (-32769) 0,
      .calibrationEnd .a false 0 (2 ^ 32), .radioTestWrite (.dma 16) .a 0, .keyWordWrite (.dma 16) 0 0 0 0, .keyLoad (.dma 16) 0 0 0,
      .keyClear (.dma 16) 0 0 0, .keyPageWipe (.dma 16) 0, .lceJobCtr (.dma 16) 0, .lceJobCbcMac (.dma 16) 0, .lceJobCmac (.dma 16) 0,
      .vaultGen (.dma 16) 0, .vaultVerify (.dma 16) 0, .vaultUnwrap (.dma 16) 0, .vaultWrap (.dma 16) 0, .vaultRewrap (.dma 16) 0,
      .pkJobGo (.dma 16) 0 0, .pkAbort (.dma 16) 0, .trngRead (.dma 16), .alarm 4 false, .setOwner (.dma 16), .openField (.dma 16) none,
      .openField .svc (some (.power 4)), .openField .svc (some (.reset 4 2 false)), .openField .svc (some (.reset 0 8 false)),
      .openField .svc (some (.reset 0 1 false)), .openField .svc (some (.reset 0 15 true)), .seal (.dma 16) none,
      .seal .svc (some (.power 4)), .seal .svc (some (.reset 4 2 false)), .seal .svc (some (.reset 0 8 false)),
      .seal .svc (some (.reset 0 1 false)), .seal .svc (some (.reset 0 15 true)), .retire (.dma 16) none, .retire .svc (some (.power 4)),
      .retire .svc (some (.reset 4 2 false)), .retire .svc (some (.reset 0 8 false)), .retire .svc (some (.reset 0 1 false))] : List Instr).all (fun c => !c.wf) = true := by decide +kernel

theorem test_wf_refuses_4 : ([
      .retire .svc (some (.reset 0 15 true)), .debugOpen (.openBy (.dma 16)),
      .debugOpen (.core (.step .a (some ⟨true, 2 ^ 32, .word, .read⟩))), .newChallenge (.dma 16), .flueEvent 65536 ⟨0, 0, [0, 0, 0, 0]⟩,
      .flueEvent 0 ⟨0x100000000, 0, [0, 0, 0, 0]⟩, .flueEvent 0 ⟨0, 0, [0, 0, 0]⟩, .flueHeldDelivery ⟨0x100000000, 0, [0, 0, 0, 0]⟩,
      .flueHeldDelivery ⟨0, 0, [0, 0, 0]⟩, .flueChannelConfig (.dma 16) 0 0, .flueTaskWrite (.dma 16) 0 0,
      .damperGrant 32 ⟨0, 0, false, false, false, false⟩, .clockSelect (.dma 16) 0, .perfLevelChange (.dma 16) 0, .powerOnReset 65536 0 0,
      .powerOnReset 0 65536 0, .powerOnReset 0 0 65536, .softReset (.dma 16) 0, .deferredResetTaken (2 ^ 32), .kindlingDone (2 ^ 32),
      .watchdogKick (.dma 16) .a 0, .securePageSet (.dma 16) 0 0, .optionWrite (.dma 16), .flashProgram (.dma 16) 0,
      .flashErase (.dma 16) 0, .flashQuery (.dma 16) 0, .flashCancel (.dma 16) 0 0, .flashPause (.dma 16) 0, .pauseExpiry 8 0,
      .updBegin (.dma 16) 0, .updResume (.dma 16) 0, .updWrite (.dma 16) 0, .updEnd (.dma 16) 0, .updStart (.dma 16) 0,
      .updInstall (.dma 16) 0, .updAbort (.dma 16) 0, .updCommit (.dma 16) 0, .updRollback (.dma 16) 0, .updLock (.dma 16) 0,
      .handoverAsk (.dma 16)] : List Instr).all (fun c => !c.wf) = true := by decide +kernel

theorem test_wf_refuses_5 : ([
      .handoverExported (.dma 16), .handoverAccept (.dma 16), .handoverDecline (.dma 16), .ashSoftwareRecord (.dma 16) 0,
      .ashFlush (.dma 16), .ashClear (.dma 16), .ashReadRequest (.dma 16) 0, .portFrameReject false (.oversize 256 0),
      .portFrameReject false (.badCode 0 64 []), .portFrameReject false (.octets (List.replicate 4097 0)), .hostPing 256 [],
      .hostSetBaud 256 [], .hostRd32 256 [], .hostWr32 256 [], .hostRdmem 256 [], .hostWrmem 256 [], .hostReset 256 [], .hostTxFrame 256 [],
      .hostReclaim 256 [], .hostGetRx 256 [], .hostKeypage 256 [], .hostKeyLoad 256 [], .svcHello 256 [], .svcAuth 256 [], .svcBye 256 [],
      .svcSetBaud 256 [], .svcChallenge 256 [], .svcRd32 256 [], .svcWr32 256 [], .svcRdmem 256 [], .svcWrmem 256 [], .svcStatus 256 [],
      .svcReset 256 [], .svcImgBegin 256 [], .svcImgWrite 256 [], .svcImgEnd 256 [], .svcImgStart 256 [], .svcImgInstall 256 [],
      .svcImgCommit 256 [], .svcImgRollback 256 []] : List Instr).all (fun c => !c.wf) = true := by decide +kernel

theorem test_wf_refuses_6 : ([
      .svcImgAbort 256 [], .svcKeyLoad 256 [], .svcCfgCommit 256 [], .svcAshRead 256 [], .svcAshClear 256 [], .svcLc 256 [],
      .svcOptions 256 [], .svcPilot 256 [], .daliSend (.dma 16), .daliAbort (.dma 16), .daliFrameReceived 4 0,
      .daliFrameReceived 0 (2 ^ 24), .daliRxPop (.dma 16), .dimApply (.dma 16) 0, .relayPulse (.dma 16) 0 0, .relaySwitch (.dma 16) 0,
      .metSnapshot (.dma 16), .metClearEnergy (.dma 16), .adcSample (.dma 16), .adcSequenceDone [4096], .motionReportWrite (.dma 16),
      .tmrStart (.dma 16) 0, .tmrStop (.dma 16) 0 0, .tmrStop .svc 0 (2 ^ 32), .tmrCapture (.dma 16) 0 0, .tmrCapture .svc 0 (2 ^ 32),
      .tmrCaptureEdge ⟨0, false⟩ (2 ^ 32) false, .seStart (.dma 16) 0, .seAbort (.dma 16) 0, .seFlush (.dma 16) 0,
      .seTransferEnd 0 32 [] .ok, .seTxdWrite (.dma 16) 0 0, .seRxdRead (.dma 16) 0, .vinUndervoltage 65536, .vinRelease 65536,
      .powerFailWarning 65536, .pfwDeassert 65536, .vsysLow 65536 0, .vsysLow 0 (2 ^ 32), .supplySample 65536 0 0] : List Instr).all (fun c => !c.wf) = true := by decide +kernel

theorem test_wf_refuses_7 : ([
      .supplySample 0 65536 0, .supplySample 0 0 65536, .padConfigWrite (.dma 16) 0 0, .padOutSet (.dma 16) 0 0, .padOutClear (.dma 16) 0 0,
      .padOutToggle (.dma 16) 0 0, .padReleaseBank (.dma 16) 0, .padReleaseLamp (.dma 16), .wakePinEdge 0 4, .resetConditionEnd 16,
      .chargerVkeepLevel 65536, .ntcWindowChange 256, .lossOfSignal .a none (2 ^ 32), .hostTransactionEnd 65536] : List Instr).all (fun c => !c.wf) = true := by decide +kernel

/-- Every port command refuses exactly the payloads that payOk refuses. -/
theorem test_wf_payloads (pay : List Byte) : ([
      .hostPing 0 pay, .hostSetBaud 0 pay, .hostRd32 0 pay, .hostWr32 0 pay, .hostRdmem 0 pay, .hostWrmem 0 pay, .hostReset 0 pay,
      .hostTxFrame 0 pay, .hostReclaim 0 pay, .hostGetRx 0 pay, .hostKeypage 0 pay, .hostKeyLoad 0 pay, .svcHello 0 pay, .svcAuth 0 pay,
      .svcBye 0 pay, .svcSetBaud 0 pay, .svcChallenge 0 pay, .svcRd32 0 pay, .svcWr32 0 pay, .svcRdmem 0 pay, .svcWrmem 0 pay,
      .svcStatus 0 pay, .svcReset 0 pay, .svcImgBegin 0 pay, .svcImgWrite 0 pay, .svcImgEnd 0 pay, .svcImgStart 0 pay, .svcImgInstall 0 pay,
      .svcImgCommit 0 pay, .svcImgRollback 0 pay, .svcImgAbort 0 pay, .svcKeyLoad 0 pay, .svcCfgCommit 0 pay, .svcAshRead 0 pay,
      .svcAshClear 0 pay, .svcLc 0 pay, .svcOptions 0 pay, .svcPilot 0 pay] : List Instr).map (fun c => c.wf) = List.replicate 38 (payOk pay) := by rfl

/-- Every frame event refuses exactly the octets that octetsOk refuses. -/
theorem test_wf_octets (pay : List Byte) : ([
      .frameControlReceived .a none ⟨pay, 0⟩, .destinationReceived .a none ⟨pay, 0⟩, .sourceLookup .a none ⟨pay, 0⟩,
      .auxHeaderReceived .a none ⟨pay, 0⟩, .frameEnd .a none pay false 0] : List Instr).map (fun c => c.wf) = List.replicate 5 (octetsOk pay && true) ∧
    (Instr.earlyDeliveryPost .a none pay).wf = octetsOk pay := ⟨by rfl, by rfl⟩

theorem test_wf_lengths : payOk (List.replicate 2177 0) = false ∧ payOk (List.replicate 2176 0) = true ∧ octetsOk (List.replicate 2048 0) = false := by
  simp only [payOk, octetsOk, List.length_replicate]; decide

end Sys2Proof.Machine
end

section
/-! SUPPORT. Captures, staged sets and Ash records: what a capture of another initiator leaves alone (R37), what a register write leaves alone
beside the register file, and the record that finds a place in the buffer (R393). -/

namespace Sys2Proof.Machine

/-! ## Register writes leave captures, the clocks and the Ash engine alone -/

@[simp] theorem State.wr_caps (s : State) (a : Nat) (v : Word) : (s.wr a v).caps = s.caps := rfl
@[simp] theorem State.fp_caps (s : State) (f : Fld) (v : Nat) : (s.fp f v).caps = s.caps := rfl
@[simp] theorem State.rclr_caps (s : State) (a n : Nat) : (s.rclr a n).caps = s.caps := rfl
@[simp] theorem State.cnt_caps (s : State) (n : Nat) : (s.cnt n).caps = s.caps := rfl
@[simp] theorem State.wr_rtc (s : State) (a : Nat) (v : Word) : (s.wr a v).rtc = s.rtc := rfl
@[simp] theorem State.wr_ash (s : State) (a : Nat) (v : Word) : (s.wr a v).ash = s.ash := rfl
@[simp] theorem State.fp_rtc (s : State) (f : Fld) (v : Nat) : (s.fp f v).rtc = s.rtc := rfl
@[simp] theorem State.fp_ash (s : State) (f : Fld) (v : Nat) : (s.fp f v).ash = s.ash := rfl
@[simp] theorem State.fset_rtc (s : State) (f : Fld) : (s.fset f).rtc = s.rtc := rfl
@[simp] theorem State.fset_ash (s : State) (f : Fld) : (s.fset f).ash = s.ash := rfl
@[simp] theorem State.stgDone_rtc (s : State) (x : SetId) : (s.stgDone x).rtc = s.rtc := by
  unfold State.stgDone State.stgEnd
  rw [State.wr_rtc, State.fp_rtc, State.fp_rtc, State.fp_rtc, State.fp_rtc]
@[simp] theorem State.stgDone_ash (s : State) (x : SetId) : (s.stgDone x).ash = s.ash := by
  unfold State.stgDone State.stgEnd
  rw [State.wr_ash, State.fp_ash, State.fp_ash, State.fp_ash, State.fp_ash]
@[simp] theorem State.answer_caps (s : State) (v : Word) : (s.answer v).caps = s.caps := rfl

/-- A field that was set reads as one. -/
theorem State.fg_fset_self (s : State) (f : Fld) (hb : f.hi < 32) (hl : f.lo ≤ f.hi) : (s.fset f).fg f = 1 := by
  have one_lt : 1 < 2 ^ (f.hi + 1 - f.lo) := Nat.one_lt_two_pow (by omega)
  rw [State.fset, State.fg_fp_self s f 1 hb hl, Nat.mod_eq_of_lt one_lt]

/-! ## Captured words (R37) -/

/-- Setting one key of a keyed list leaves every other key's value. -/
theorem alGet_alSet_ne {κ ν : Type} [DecidableEq κ] (l : List (κ × ν)) {k j : κ} (v : ν) (h : j ≠ k) : alGet (alSet l k v) j = alGet l j := by
  unfold alGet alSet
  rw [List.find?_cons_of_neg (by simpa using h.symm), List.find?_filter]
  congr 2
  funext p
  by_cases hp : p.1 = j
  · simp [hp, h]
  · simp [hp]

/-- A read captures its group for its own initiator alone. -/
theorem State.capture_caps_other (s : State) {key k : Nat} (own : Nat) (sec : Bool) (a m : Nat) (h : k ≠ key) :
    alGet (s.capture key own sec a).caps (k, m) = alGet s.caps (k, m) := by
  unfold State.capture State.forEach
  generalize (capMembers a).map (fun m => (m, s.regView own sec m)) = l
  induction l generalizing s with
  | nil => rfl
  | cons p t ih =>
    rw [List.foldl_cons, ih, State.mCaps_caps, alGet_alSet_ne _ _ (by simp [h])]

/-- A claim of an interrupt line captures nothing. -/
theorem State.intClaim_caps (s : State) (c : CoreId) : (s.intClaim c).2.caps = s.caps := by
  unfold State.intClaim
  split
  · rfl
  · dsimp only
    split <;> simp

/-- An allocation of a buffer captures nothing. -/
theorem State.bufAlloc_caps (s : State) (own : Nat) : (s.bufAlloc own).2.caps = s.caps := by
  unfold State.bufAlloc
  dsimp only
  split
  · rfl
  · split
    · exact State.cnt_caps s _
    · split
      · exact State.fp_caps _ _ _
      · exact State.cnt_caps s _

/-- A random word taken captures nothing. -/
theorem State.trngTake_caps (s : State) : s.trngTake.2.caps = s.caps := by
  unfold State.trngTake
  split
  · unfold State.trngShow
    rw [State.fp_caps, State.fp_caps, State.mVlt_caps]
  · rfl

/-- An octet taken from a serial engine captures nothing. -/
theorem State.seRxPop_caps (s : State) (n : Nat) : (s.seRxPop n).caps = s.caps := by
  unfold State.seRxPop State.mSe State.seShow
  rw [State.fp_caps, State.fp_caps, State.mPer_caps]

/-- The read of a result captures nothing. -/
theorem State.resultRead_caps (s : State) (own a : Nat) : (s.resultRead own a).caps = s.caps := by
  unfold State.resultRead
  split
  · split
    · rfl
    · unfold State.csRelease
      split
      · rw [State.mCs_caps, State.fp_caps]
      · rfl
  · rfl

/-- What else a read changes is no capture. -/
theorem State.readEffect_caps (s : State) (own a : Nat) (v : Word) : (s.readEffect own a v).2.caps = s.caps := by
  unfold State.readEffect
  split
  · exact s.intClaim_caps .a
  split
  · exact s.intClaim_caps .b
  split
  · exact s.bufAlloc_caps own
  split
  · exact s.trngTake_caps
  split
  · exact s.seRxPop_caps _
  · dsimp only
    split <;> simp [State.resultRead_caps]

/-- A read leaves the words captured for every other initiator as they are. -/
theorem State.regRead_caps_other (s : State) {key k : Nat} (own : Nat) (sec : Bool) (a m : Nat) (hc : alGet s.caps (key, a) = none) (h : k ≠ key) :
    alGet (s.regRead key own sec a).2.caps (k, m) = alGet s.caps (k, m) := by
  simp only [State.regRead, hc, State.readEffect_caps]
  split <;> exact s.capture_caps_other own sec a m h

/-- A read of a captured high word returns the captured value, and nothing but the captures changes. -/
theorem State.regRead_captured (s : State) {key a : Nat} {w : Word} (own : Nat) (sec : Bool) (hc : alGet s.caps (key, a) = some w)
    (ho : capOnce a = true) : s.regRead key own sec a = (w, s.mCaps (fun c => alDel c (key, a))) := by
  simp only [State.regRead, hc, ho, if_true]

/-- A read of a register by MEMORY_ACCESS is a word read of the register. -/
theorem execMemoryAccess_periph (who : Initiator) {a p : Nat} (u : Upset) (s : State) (h : regionOf a = .periph p) :
    execMemoryAccess who a .word .read u s = (s.regTo who a .read).done := by
  simp only [execMemoryAccess, State.access, h, State.regTo]

/-! ## A record that finds a place (R389, R393) -/

/-- The Ash log takes one more record and neither loses it nor starts a flush. -/
def State.ashRoom (s : State) : Prop :=
  s.ash.ready = true ∧ s.ash.buf.length < 223 ∧ s.ash.lostFull = 0 ∧ s.ash.ended = false ∧ s.ash.next < 0xFFFFFFFF

/-- A device record then takes the next SEQ and the last place, and nothing else changes. -/
theorem State.ash3_of_room {s : State} (h : s.ashRoom) (code : Nat) (d0 d1 d2 : Word) :
    s.ash3 code d0 d1 d2 =
      s.mAsh (fun x => { x with buf := s.ash.buf ++ [s.ashRec code 0xFF false d0 d1 d2], next := s.ash.next + 1 }) := by
  obtain ⟨hready, hlen, hlost, hended, hnext⟩ := h
  have notOver : s.ashOver = false := by simp [State.ashOver, hended, hnext]
  have note : s.ashLostNote = s := by simp [State.ashLostNote, hlost]
  have notFull : ¬ 256 ≤ s.ash.buf.length := by omega
  have noFlush : ¬ 224 ≤ s.ash.buf.length + 1 := by omega
  simp [State.ash3, State.ashEnter, hready, State.ashArrive, note, notFull, State.ashTake, notOver, noFlush]

/-! ## A wall clock that steps back (R36) -/

/-- The device record a step back of the wall clock writes. -/
def State.timeStepRec (s : State) : AshRec :=
  s.ashRec 0x0008 0xFF false (w32 s.rtc.wcMs) (w32 (s.rtc.wcMs / 0x100000000 + s.wallStaged % 0x10000 * 0x10000)) (w32 (s.wallStaged / 0x10000))

variable {s : State}

/-- The clocks after a step back. -/
theorem State.wallApply_rtc_of_stepBack (hb : s.wallStaged < s.rtc.wcMs) (hr : s.ashRoom) :
    s.wallApply.rtc = { s.rtc with wcEpoch := (s.rtc.wcEpoch + 1) % 0x10000, wcMs := s.wallStaged, committed := true } := by
  simp [State.wallApply, hb, State.ash3_of_room hr]

/-- The record of a step back is the last one waiting. -/
theorem State.wallApply_buf_of_stepBack (hb : s.wallStaged < s.rtc.wcMs) (hr : s.ashRoom) :
    s.wallApply.ash.buf = s.ash.buf ++ [s.timeStepRec] := by
  simp [State.wallApply, hb, State.ash3_of_room hr, State.timeStepRec]

/-- A step back sets RTC_STAT.STEP, whether or not the Ash log takes its record. -/
theorem State.wallApply_step_of_stepBack (hb : s.wallStaged < s.rtc.wcMs) : s.wallApply.fg F.RTC_STAT_STEP = 1 := by
  simp only [State.wallApply, hb, if_true]
  rw [State.fg_wr_ne _ _ _ _ (by decide)]
  exact State.fg_fset_self _ F.RTC_STAT_STEP (by decide) (by decide)

/-- The end of the wall-clock set's application writes its COMMIT and CASN alone. -/
theorem State.stgDone_wall_step (s : State) : (s.stgDone .wall).fg F.RTC_STAT_STEP = s.fg F.RTC_STAT_STEP := by
  have frame : Only (fun a => a ∈ [R.RTC_COMMIT, R.RTC_CASN]) s (s.stgDone .wall) := Only.stgDone .wall (by decide) (by decide)
  unfold State.fg
  rw [frame.1 R.RTC_STAT (by decide)]

/-- A wall-clock set armed without a slot is applied at once. -/
theorem State.setNow_wall (h : s.fg SetId.wall.state = 1) (hw : s.fg SetId.wall.when = 0) : s.setNow .wall = s.wallApply.stgDone .wall := by
  simp [State.setNow, h, hw, ofHearth, State.setApply]

end Sys2Proof.Machine
end

section
/-! The statements of the architecture: captured words and the wall clock. -/

namespace Sys2Proof.Machine

/-- Settles O11: the read finds the captured word before it looks at the timer, and a capture is keyed by its own initiator. -/
theorem capturedWordIsReturned : Obligations.CapturedWordIsReturned := by
  unfold Obligations.CapturedWordIsReturned
  intro who other w s hw
  refine ⟨fun hread => ?_, fun hread hkey hnone => ?_⟩
  · refine ⟨s.regTo who R.RTC_EMB_HI .read, execMemoryAccess_periph who .none s (p := 0x40007) (by decide), ?_⟩
    rw [State.regTo_read hread (by decide) (.inl (by decide)), State.regRead_captured s _ _ hw (by decide)]
    exact ⟨rfl, fun _ _ => rfl, fun _ => rfl⟩
  · refine ⟨s.regTo other R.RTC_EMB_LO .read, rfl, ?_⟩
    rw [State.regTo_read hread (by decide) (.inl (by decide))]
    dsimp only
    rw [State.answer_caps, State.regRead_caps_other s _ _ _ _ hnone hkey.symm, hw]

/-- Settles O20: with room in the Ash log the record is entered before the clock steps, and what ends the application touches RTC_COMMIT and
RTC_CASN alone. -/
theorem wallClockStepBack : Obligations.WallClockStepBack := by
  unfold Obligations.WallClockStepBack
  intro s hstate hwhen hback hready hlen hlost hended hnext
  have room : s.ashRoom := ⟨hready, hlen, hlost, hended, hnext⟩
  have clock := State.wallApply_rtc_of_stepBack hback room
  refine ⟨s.setNow .wall, rfl, ?_⟩
  dsimp only
  rw [State.setNow_wall hstate hwhen, State.stgDone_rtc, State.stgDone_ash, State.stgDone_wall_step, clock]
  exact ⟨rfl, rfl, State.wallApply_step_of_stepBack hback,
    s.timeStepRec, State.wallApply_buf_of_stepBack hback room, rfl, rfl, rfl, rfl, rfl⟩

end Sys2Proof.Machine
end
